-- ==== Sys2Proof/Config.lean ====
section
/-!
DEFINITION. The capacities and limits the manual fixes (Table 0-3 and the rules named). The manual leaves
no value of a reachable state open, so there is no free value here (NOTES.md, log 26).
-/

namespace Sys2Proof.Config

/-- Y is 48 bits wide (R2). -/
def maxY : Nat := 2 ^ 48 - 1

/-- The limit of the reverse debt, in pulses (R3). -/
def maxDebt : Nat := 4096

/-- What one forward pulse adds to the remainder: one metre is 10,000 PU (R2). -/
def pulseUnit : Nat := 10000

/-- The largest 16-bit count: speed estimate, discarded frames, refused flaws (R10, R75, R152, R196). -/
def max16 : Nat := 65535

/-- The largest 32-bit count or identifier (R50, R79, R88, R130, Table 9-2). -/
def max32 : Nat := 4294967295

/-- The largest inspected length and area (Table 9-2). -/
def max64 : Nat := 2 ^ 64 - 1

/-- Samples of a full baseline ring (R29). -/
def ringSize : Nat := 8

/-- Consecutive out-of-limit samples that fault a lane (R30). -/
def limitRun : Nat := 4

/-- Largest peak level; a peak of this value is saturated (R34). -/
def saturatedPeak : Nat := 4095

/-- Largest contrast in permille (R34). -/
def maxContrast : Nat := 999

/-- Smallest corrected background (R34). -/
def minBackground : Nat := 16

/-- Open flaws of one lane (R50). -/
def flawCapacity : Nat := 32

/-- Open flaws at or below which a CROWDED lane may return to ACTIVE (R36). -/
def crowdedExit : Nat := 24

/-- Continuation marks of one lane (R52). -/
def markCapacity : Nat := 32

/-- Persistence count at which a column is masked (R37). -/
def persistenceLimit : Nat := 64

/-- Columns of a dynamic column list (R37). -/
def dynCapacity : Nat := 8

/-- Columns of one lane's static mask, and of all lanes together (R39). -/
def maskCapacity : Nat := 64
def maskTotal : Nat := 256

/-- Map entries, and the high mark (R75, R78). -/
def mapCapacity : Nat := 1024
def mapHighMark : Nat := 896

/-- Blind intervals (R80). -/
def blindCapacity : Nat := 64

/-- Orders in the queue, entries of the finished-order list (R88, R98). -/
def queueCapacity : Nat := 8
def finishedCapacity : Nat := 8

/-- Plate records (R115), and candidates of one plan (R110). -/
def tableCapacity : Nat := 128
def candidateCount : Nat := 16

/-- "No limit" of a max size and of a max count (Table 7-2). -/
def sizeNoLimit : Nat := 65535
def countNoLimit : Nat := 255

/-- Shift reports kept, journal entries kept, journal entries in one reply (R178, R180, R181). -/
def storeCapacity : Nat := 4
def journalCapacity : Nat := 64
def journalPage : Nat := 8

/-- Entries of one READ FLAWS or READ BLIND reply, records of one READ PLATES reply (R84, R85, R129). -/
def mapPage : Nat := 16
def platePage : Nat := 8

/-- Largest suppressed count (Table 10-3). -/
def maxSuppressed : Nat := 255

/-- Entries of the delayed-request list (R199). -/
def delayedCapacity : Nat := 4

/-- Bytes of a frame body (R198, Table 11-6). -/
def maxBody : Nat := 1024

/-- Square position units in a square decimetre (Table 9-2). -/
def areaUnit : Nat := 1000000

end Sys2Proof.Config
end

