-- ==== Sys2Proof/Word.lean ====
section
/-!
DEFINITION. The plainest types of the model: a byte of a link, a lane number and a position.
Positions, labels, line numbers and counts are natural numbers, as the manual adds and compares them;
what the manual bounds by a width is bounded where it is written (Config, WellFormed, Machine/Ops).
-/

namespace Sys2Proof

/-- One byte of a frame on any of the three links (11.6). -/
abbrev Byte := BitVec 8

/-- The number of a lane, 0 to 7 (Chapter 2). -/
abbrev LaneId := Fin 8

/-- The eight lanes in ascending order. -/
def allLanes : List LaneId := [0, 1, 2, 3, 4, 5, 6, 7]

end Sys2Proof
end

