-- ==== Sys2Proof/Syntax.lean ====
section
/-!
DEFINITION. The commands of the LQ-860: one constructor of Instr for each row of spec/opcode_table.json, with the
operands that the layouts of section 11.6 give it. Field values stand as the frame carries them (numbers of
their field's width); codes outside their range are values a rule refuses with BAD FIELD, so they are kept as they came.
-/

namespace Sys2Proof

/-- The lighting of a slot (Table 3-3). -/
inductive ViewKind where
  | bright | dark | oblique
  deriving DecidableEq, Repr

/-- The polarity a head gives a run (section 2.3). -/
inductive Polarity where
  | bright | dark
  deriving DecidableEq, Repr

/-- Reasons of CUT REJECT (Table 8-2). -/
inductive RejectReason where
  | spacing | late | notReady
  deriving DecidableEq, Repr

/-- The request kinds of Table 11-9. -/
inductive Request where
  | setLineGeometry | readLineGeometry | readPosition
  | setLaneGeometry | startLane | stopLane | setDarkOffset | setColumnMask | setDynamicMasking | readLane
  | writeDetectionSet | applyDetection | readDetectionSet | readOpenFlaws
  | readFlaws | readBlind
  | loadOrder | withdrawOrder | readOrders
  | setCutParameters | readCutParameters | stopProduction | readPlates
  | writeGradeRows | applyGradeTable | readGradeTable
  | readCutter
  | closeShift | readShift | readShiftReport | readJournal
  | haltLine | readFault | clearFault
  | startInspect | stopInspect | startProduction | reset | readEvents | clearEvents | setEventMask
  deriving DecidableEq, Repr

/-- The content of a request: its fields, or a content whose length is not the one its kind requires
(R197 check 3, R210). -/
inductive Content (α : Type) where
  | wrongLength
  | fields (v : α)
  deriving DecidableEq, Repr

/-- SET LINE GEOMETRY (kind 1). -/
structure LineGeometryFields where
  ppm : Nat
  pitch : Nat
  dgc : Nat
  xL : Nat
  xR : Nat
  maxSpeed : Nat
  stallTime : Nat
  breakAction : Nat
  deriving DecidableEq, Repr

/-- SET LANE GEOMETRY (kind 16). -/
structure LaneGeometryFields where
  lane : Nat
  x0 : Nat
  pitch : Nat
  columns : Nat
  binning : Nat
  deriving DecidableEq, Repr

/-- One slot of WRITE DETECTION SET. -/
structure SlotFields where
  kind : Nat
  threshold : Nat
  low : Nat
  high : Nat
  deriving DecidableEq, Repr

/-- WRITE DETECTION SET (kind 32). The slot count is the length of the list. -/
structure DetectionFields where
  slots : List SlotFields
  join : Nat
  gap : Nat
  maxLength : Nat
  aspect : Nat
  stone : Nat
  deriving DecidableEq, Repr

/-- READ FLAWS (kind 48): form 0 or form 1. -/
inductive FlawQuery where
  | byId (id : Nat)
  | byLabel (label skip : Nat)
  deriving DecidableEq, Repr

/-- READ BLIND and READ PLATES (kinds 49 and 83): form 0 or form 1. -/
inductive PageQuery where
  | byId (id : Nat)
  | bySkip (skip : Nat)
  deriving DecidableEq, Repr

/-- LOAD ORDER (kind 64). The split position count is the length of the list. -/
structure OrderFields where
  id : Nat
  length : Nat
  split : Nat
  quantity : Nat
  target : Nat
  fallback : Nat
  positions : List Nat
  deriving DecidableEq, Repr

/-- SET CUT PARAMETERS (kind 80); also the five parameters as the Planner holds them (Table 6-2). -/
structure CutParameters where
  minCull : Nat
  maxCull : Nat
  clearance : Nat
  guard : Nat
  overdue : Nat
  deriving DecidableEq, Repr

/-- One row of WRITE GRADE ROWS (kind 96). -/
inductive GradeRow where
  | limit (grade cls edgeSize edgeCount coreSize coreCount : Nat)
  | floor (bubble stone linear surface : Nat)
  | general (band blind destA destB destC destU destX : Nat)
  | other (kind : Nat)
  deriving DecidableEq, Repr

/-- CLOSE SHIFT (kind 128). -/
structure CloseFields where
  mode : Nat
  hostTime : Nat
  label : List Byte
  deriving DecidableEq, Repr

/-- The five fields of CAPABILITY (Table 8-3). -/
structure Capability where
  spacing : Nat
  lead : Nat
  speed : Nat
  across : Nat
  destinations : Nat
  deriving DecidableEq, Repr

/-- One run of a digest (section 2.3). -/
structure Run where
  first : Nat
  last : Nat
  peak : Nat
  polarity : Polarity
  deriving DecidableEq, Repr

/-- A line digest as its lane receiver hands it on (section 2.3, Table 11-8). -/
structure Digest where
  line : Nat
  slot : Nat
  headFault : Bool
  overflow : Bool
  level : Nat
  runs : List Run
  deriving DecidableEq, Repr

/-- The rate straps (Table 11-13). -/
structure Straps where
  supervisor : Fin 8
  cutter : Fin 4
  deriving DecidableEq, Repr

/-- The levels of the inputs as power-on completes (Table 11-13), that of the RESET pin among them. -/
structure Pins where
  phaseA : Bool
  phaseB : Bool
  breakLevel : Bool
  ready : Bool
  reset : Bool
  straps : Straps
  deriving DecidableEq, Repr

/-- The commands. `late` says that the reporting block takes its event before it takes the change of mode to
HALTED (R186, R187, R203). A tag is the request's own (R197). -/
inductive Instr where
  -- Chapter 1: the encoder, the timers and BREAK
  | encoderStateChange (a b late : Bool)
  | stall
  | speedWindow
  | breakAsserted (late : Bool)
  | breakCleared
  -- Chapter 2 and the gantry link
  | gantryDigest (lane : LaneId) (d : Digest)
  | digestDeadline
  | gantryFrameDiscarded (lane : LaneId)
  | gantryByteTimeout (lane : LaneId)
  -- Chapters 3 and 4
  | detectionSwitch
  | switchComplete
  | mapFullEnd
  | mapRetirement
  -- Chapter 6
  | normalPlan
  | forcedPlan
  | planOverrun (late : Bool)
  | cutOverdue
  | cutAccept (cut : Nat)
  | cutDone (cut : Nat)
  | cutReject (cut : Nat) (reason : RejectReason)
  | cutMissed (cut : Nat)
  -- Chapter 8
  | capability (c : Capability) (late : Bool)
  | malformedRecord (cut : Option Nat)
  | cutterFrameDiscarded
  | cutterReadyAsserted
  | cutterReadyCleared (late : Bool)
  -- completions of delayed requests
  | drainComplete
  | pendingClose
  -- the supervisor port's receiver
  | frameDiscarded
  | frameTimeout
  | unknownRequest (kind tag : Nat)
  -- requests
  | setLineGeometry (tag : Nat) (c : Content LineGeometryFields)
  | readLineGeometry (tag : Nat) (c : Content Unit)
  | readPosition (tag : Nat) (c : Content Unit)
  | setLaneGeometry (tag : Nat) (c : Content LaneGeometryFields)
  | startLane (tag : Nat) (c : Content Nat)
  | stopLane (tag : Nat) (c : Content Nat)
  | setDarkOffset (tag : Nat) (c : Content (Nat × Nat))
  | setColumnMask (tag : Nat) (c : Content (Nat × List Nat))
  | setDynamicMasking (tag : Nat) (c : Content (Nat × Nat))
  | readLane (tag : Nat) (c : Content Nat)
  | writeDetectionSet (tag : Nat) (c : Content DetectionFields)
  | applyDetection (tag : Nat) (c : Content Unit)
  | readDetectionSet (tag : Nat) (c : Content Unit)
  | readOpenFlaws (tag : Nat) (c : Content Nat)
  | readFlaws (tag : Nat) (c : Content FlawQuery)
  | readBlind (tag : Nat) (c : Content PageQuery)
  | loadOrder (tag : Nat) (c : Content OrderFields)
  | withdrawOrder (tag : Nat) (c : Content Nat)
  | readOrders (tag : Nat) (c : Content Unit)
  | setCutParameters (tag : Nat) (c : Content CutParameters)
  | readCutParameters (tag : Nat) (c : Content Unit)
  | stopProduction (tag : Nat) (c : Content Unit)
  | readPlates (tag : Nat) (c : Content PageQuery)
  | writeGradeRows (tag : Nat) (c : Content (List GradeRow))
  | applyGradeTable (tag : Nat) (c : Content Unit)
  | readGradeTable (tag : Nat) (c : Content Unit)
  | readCutter (tag : Nat) (c : Content Unit)
  | closeShift (tag : Nat) (c : Content CloseFields)
  | readShift (tag : Nat) (c : Content Unit)
  | readShiftReport (tag : Nat) (c : Content Nat)
  | readJournal (tag : Nat) (c : Content Nat)
  | haltLine (tag : Nat) (c : Content Unit)
  | readFault (tag : Nat) (c : Content Unit)
  | clearFault (tag : Nat) (c : Content Nat)
  | startInspect (tag : Nat) (c : Content (BitVec 8))
  | stopInspect (tag : Nat) (c : Content Unit)
  | startProduction (tag : Nat) (c : Content Unit)
  | reset (tag : Nat) (c : Content Unit)
  | fullReset (straps : Straps)
  | powerOn (pins : Pins)
  | resetPin (asserted : Bool) (straps : Straps)
  | readEvents (tag : Nat) (c : Content Unit)
  | clearEvents (tag : Nat) (c : Content (BitVec 16))
  | setEventMask (tag : Nat) (c : Content (BitVec 16))
  deriving DecidableEq, Repr

end Sys2Proof
end

