-- ==== Sys2Proof/Decode.lean ====
section
/-!
DEFINITION. From bytes to commands. The rows of spec/opcode_table.json give no bits, so decodeTableWord reads none. What the
manual does lay out are the frames of the three links (11.6): this file holds their frame check (R209), the layouts of Tables 11-6, 11-8,
11-9, 11-11, 11-12 and 11-14, the decision each receiver makes about a frame (R152, R196, R197, R210, R211), and after them the
encoders of the same layouts.
-/

namespace Sys2Proof

/-- No row of the table gives bits, so no word spells a command. -/
def decodeTableWord (_nbits _w : Nat) : Option Instr := none

/-! ### The frame check (R209) -/

/-- One bit of the cyclic check with generator x^16 + x^12 + x^5 + 1, most significant bit first. -/
def crcBit (reg : BitVec 16) : BitVec 16 :=
  if reg.msb then (reg <<< 1) ^^^ 0x1021#16 else reg <<< 1

/-- One byte of the check. -/
def crcByte (reg : BitVec 16) (b : Byte) : BitVec 16 :=
  let r := reg ^^^ (b.zeroExtend 16 <<< 8)
  crcBit (crcBit (crcBit (crcBit (crcBit (crcBit (crcBit (crcBit r)))))))

/-- R209: preset to all ones, no final inversion. -/
def frameCheck (bytes : List Byte) : BitVec 16 := bytes.foldl crcByte 0xFFFF#16

/-! ### Fields of several bytes, most significant byte first (R209) -/

/-- The value of a field. -/
def fieldValue (bytes : List Byte) : Nat := bytes.foldl (fun v b => v * 256 + b.toNat) 0

/-- The bytes of a field of the given width. -/
def fieldBytes : Nat → Nat → List Byte
  | 0, _ => []
  | w + 1, v => BitVec.ofNat 8 (v / 256 ^ w) :: fieldBytes w v

/-- The fields of a content with the given widths; none if the length differs. -/
def splitFields : List Nat → List Byte → Option (List Nat)
  | [], [] => some []
  | [], _ :: _ => none
  | w :: ws, bytes =>
    if bytes.length < w then none
    else (splitFields ws (bytes.drop w)).map (fieldValue (bytes.take w) :: ·)

/-- The bytes of fields with the given widths. -/
def joinFields : List Nat → List Nat → List Byte
  | w :: ws, v :: vs => fieldBytes w v ++ joinFields ws vs
  | _, _ => []

/-- `n` groups of fields with the same widths; none if the length differs. -/
def splitGroups : Nat → List Nat → List Byte → Option (List (List Nat))
  | 0, _, [] => some []
  | 0, _, _ :: _ => none
  | n + 1, ws, bytes =>
    if bytes.length < ws.sum then none
    else
      match splitFields ws (bytes.take ws.sum), splitGroups n ws (bytes.drop ws.sum) with
      | some g, some gs => some (g :: gs)
      | _, _ => none

/-! ### Request kinds (Table 11-9) -/

def Request.code : Request → Nat
  | .setLineGeometry => 1
  | .readLineGeometry => 2
  | .readPosition => 3
  | .setLaneGeometry => 16
  | .startLane => 17
  | .stopLane => 18
  | .setDarkOffset => 19
  | .setColumnMask => 20
  | .setDynamicMasking => 21
  | .readLane => 22
  | .writeDetectionSet => 32
  | .applyDetection => 33
  | .readDetectionSet => 34
  | .readOpenFlaws => 35
  | .readFlaws => 48
  | .readBlind => 49
  | .loadOrder => 64
  | .withdrawOrder => 65
  | .readOrders => 66
  | .setCutParameters => 80
  | .readCutParameters => 81
  | .stopProduction => 82
  | .readPlates => 83
  | .writeGradeRows => 96
  | .applyGradeTable => 97
  | .readGradeTable => 98
  | .readCutter => 112
  | .closeShift => 128
  | .readShift => 129
  | .readShiftReport => 130
  | .readJournal => 131
  | .haltLine => 144
  | .readFault => 145
  | .clearFault => 146
  | .startInspect => 160
  | .stopInspect => 161
  | .startProduction => 162
  | .reset => 163
  | .readEvents => 164
  | .clearEvents => 165
  | .setEventMask => 166

/-- Every request kind, in order of code. -/
def Request.all : List Request :=
  [.setLineGeometry, .readLineGeometry, .readPosition, .setLaneGeometry, .startLane, .stopLane, .setDarkOffset,
   .setColumnMask, .setDynamicMasking, .readLane, .writeDetectionSet, .applyDetection, .readDetectionSet, .readOpenFlaws,
   .readFlaws, .readBlind, .loadOrder, .withdrawOrder, .readOrders, .setCutParameters, .readCutParameters,
   .stopProduction, .readPlates, .writeGradeRows, .applyGradeTable, .readGradeTable, .readCutter, .closeShift,
   .readShift, .readShiftReport, .readJournal, .haltLine, .readFault, .clearFault, .startInspect, .stopInspect,
   .startProduction, .reset, .readEvents, .clearEvents, .setEventMask]

/-- The request of a kind; none for a kind that Table 11-9 does not hold, one with the reply bit among them (R197 check 2). -/
def Request.ofCode (kind : Nat) : Option Request := Request.all.find? (fun r => r.code == kind)

/-- The top bit of the kind (Table 11-6). -/
def replyBit : Nat := 32768

/-- The kind of the reply to a request of this kind (R198). -/
def replyKind (kind : Nat) : Nat := if kind < replyBit then kind + replyBit else kind

/-! ### Contents of requests (Table 11-14) -/

/-- A content that is one list of fields of fixed widths. -/
def fixedContent {α : Type} (widths : List Nat) (read : List Nat → Option α) (bytes : List Byte) : Content α :=
  match (splitFields widths bytes).bind read with
  | some v => .fields v
  | none => .wrongLength

def emptyContent (bytes : List Byte) : Content Unit :=
  if bytes.isEmpty then .fields () else .wrongLength

def oneField (width : Nat) : List Byte → Content Nat :=
  fixedContent [width] fun | [v] => some v | _ => none

def twoFields (w1 w2 : Nat) : List Byte → Content (Nat × Nat) :=
  fixedContent [w1, w2] fun | [v1, v2] => some (v1, v2) | _ => none

def lineGeometryWidths : List Nat := [4, 1, 4, 2, 2, 2, 1, 1]
def laneGeometryWidths : List Nat := [1, 2, 1, 2, 1]
def slotWidths : List Nat := [1, 2, 2, 2]
def detectionTail : List Nat := [1, 1, 2, 1, 2]
def orderHead : List Nat := [2, 2, 1, 2, 1, 1, 1]
def cutWidths : List Nat := [2, 2, 2, 2, 2]

def readLineGeometryFields : List Nat → Option LineGeometryFields
  | [ppm, l, d, xl, xr, v, t, b] => some ⟨ppm, l, d, xl, xr, v, t, b⟩
  | _ => none

def readLaneGeometryFields : List Nat → Option LaneGeometryFields
  | [n, x, p, u, b] => some ⟨n, x, p, u, b⟩
  | _ => none

def readCutParameters : List Nat → Option CutParameters
  | [m, c, e, g, o] => some ⟨m, c, e, g, o⟩
  | _ => none

def readSlot : List Nat → Option SlotFields
  | [k, t, l, h] => some ⟨k, t, l, h⟩
  | _ => none

/-- Every element read, or none. -/
def readAll {α β : Type} (f : α → Option β) : List α → Option (List β)
  | [] => some []
  | a :: as =>
    match f a, readAll f as with
    | some b, some bs => some (b :: bs)
    | _, _ => none

/-- WRITE DETECTION SET: length 8 + 7v for the slot count v it carries. -/
def detectionContent (bytes : List Byte) : Content DetectionFields :=
  match bytes with
  | [] => .wrongLength
  | v :: rest =>
    let n := 7 * v.toNat
    match (splitGroups v.toNat slotWidths (rest.take n)).bind (readAll readSlot), splitFields detectionTail (rest.drop n) with
    | some slots, some [j, g, f, a, s] => .fields ⟨slots, j, g, f, a, s⟩
    | _, _ => .wrongLength

/-- SET COLUMN MASK: length 2 + 2m for the column count m it carries. -/
def maskContent (bytes : List Byte) : Content (Nat × List Nat) :=
  match bytes with
  | lane :: m :: rest =>
    match splitFields (List.replicate m.toNat 2) rest with
    | some cols => .fields (lane.toNat, cols)
    | none => .wrongLength
  | _ => .wrongLength

/-- LOAD ORDER: length 10 + 2n for the split position count n it carries. -/
def orderContent (bytes : List Byte) : Content OrderFields :=
  match splitFields orderHead (bytes.take 10) with
  | some [id, lp, s, q, t, f, n] =>
    match splitFields (List.replicate n 2) (bytes.drop 10) with
    | some ps => .fields ⟨id, lp, s, q, t, f, ps⟩
    | none => .wrongLength
  | _ => .wrongLength

/-- READ FLAWS: form 0 of length 5, form 1 of length 9; any other form gives no length (R210). -/
def flawQueryContent (bytes : List Byte) : Content FlawQuery :=
  match bytes with
  | [] => .wrongLength
  | form :: rest =>
    if form = 0#8 then
      match splitFields [4] rest with
      | some [id] => .fields (.byId id)
      | _ => .wrongLength
    else if form = 1#8 then
      match splitFields [6, 2] rest with
      | some [y, k] => .fields (.byLabel y k)
      | _ => .wrongLength
    else .wrongLength

/-- READ BLIND and READ PLATES: form 0 of length 5, form 1 of length 2. -/
def pageQueryContent (bytes : List Byte) : Content PageQuery :=
  match bytes with
  | [] => .wrongLength
  | form :: rest =>
    if form = 0#8 then
      match splitFields [4] rest with
      | some [id] => .fields (.byId id)
      | _ => .wrongLength
    else if form = 1#8 then
      match splitFields [1] rest with
      | some [k] => .fields (.bySkip k)
      | _ => .wrongLength
    else .wrongLength

/-- A row of WRITE GRADE ROWS: ten bytes. The zero byte that fills a LIMIT or FLOOR row is not examined (log 24). -/
def readGradeRow (bytes : List Byte) : Option GradeRow :=
  match bytes with
  | [] => none
  | kind :: rest =>
    if kind = 0#8 then
      match splitFields [1, 1, 2, 1, 2, 1, 1] rest with
      | some [g, k, es, ec, cs, cc, _] => some (.limit g k es ec cs cc)
      | _ => none
    else if kind = 1#8 then
      match splitFields [2, 2, 2, 2, 1] rest with
      | some [b, s, l, f, _] => some (.floor b s l f)
      | _ => none
    else if kind = 2#8 then
      match splitFields [2, 2, 1, 1, 1, 1, 1] rest with
      | some [band, blind, a, b, c, u, x] => some (.general band blind a b c u x)
      | _ => none
    else some (.other kind.toNat)

/-- `n` chunks of ten bytes each; none if the length differs. -/
def splitRows : Nat → List Byte → Option (List (List Byte))
  | 0, [] => some []
  | 0, _ :: _ => none
  | n + 1, bytes => if bytes.length < 10 then none else (splitRows n (bytes.drop 10)).map (bytes.take 10 :: ·)

/-- WRITE GRADE ROWS: length 1 + 10r for the row count r it carries. -/
def gradeRowsContent (bytes : List Byte) : Content (List GradeRow) :=
  match bytes with
  | [] => .wrongLength
  | r :: rest =>
    match (splitRows r.toNat rest).bind (readAll readGradeRow) with
    | some rows => .fields rows
    | none => .wrongLength

/-- CLOSE SHIFT: length 6 + m for the label length m it carries. -/
def closeContent (bytes : List Byte) : Content CloseFields :=
  match splitFields [1, 4, 1] (bytes.take 6) with
  | some [mode, time, m] => if (bytes.drop 6).length = m then .fields ⟨mode, time, bytes.drop 6⟩ else .wrongLength
  | _ => .wrongLength

def laneSetContent (bytes : List Byte) : Content (BitVec 8) :=
  match bytes with
  | [b] => .fields b
  | _ => .wrongLength

def eventSetContent (bytes : List Byte) : Content (BitVec 16) :=
  match bytes with
  | [hi, lo] => .fields (hi ++ lo)
  | _ => .wrongLength

/-- The command of a request with its tag and content (R197, Table 11-14). -/
def requestCommand (r : Request) (tag : Nat) (c : List Byte) : Instr :=
  match r with
  | .setLineGeometry => .setLineGeometry tag (fixedContent lineGeometryWidths readLineGeometryFields c)
  | .readLineGeometry => .readLineGeometry tag (emptyContent c)
  | .readPosition => .readPosition tag (emptyContent c)
  | .setLaneGeometry => .setLaneGeometry tag (fixedContent laneGeometryWidths readLaneGeometryFields c)
  | .startLane => .startLane tag (oneField 1 c)
  | .stopLane => .stopLane tag (oneField 1 c)
  | .setDarkOffset => .setDarkOffset tag (twoFields 1 2 c)
  | .setColumnMask => .setColumnMask tag (maskContent c)
  | .setDynamicMasking => .setDynamicMasking tag (twoFields 1 1 c)
  | .readLane => .readLane tag (oneField 1 c)
  | .writeDetectionSet => .writeDetectionSet tag (detectionContent c)
  | .applyDetection => .applyDetection tag (emptyContent c)
  | .readDetectionSet => .readDetectionSet tag (emptyContent c)
  | .readOpenFlaws => .readOpenFlaws tag (oneField 1 c)
  | .readFlaws => .readFlaws tag (flawQueryContent c)
  | .readBlind => .readBlind tag (pageQueryContent c)
  | .loadOrder => .loadOrder tag (orderContent c)
  | .withdrawOrder => .withdrawOrder tag (oneField 2 c)
  | .readOrders => .readOrders tag (emptyContent c)
  | .setCutParameters => .setCutParameters tag (fixedContent cutWidths readCutParameters c)
  | .readCutParameters => .readCutParameters tag (emptyContent c)
  | .stopProduction => .stopProduction tag (emptyContent c)
  | .readPlates => .readPlates tag (pageQueryContent c)
  | .writeGradeRows => .writeGradeRows tag (gradeRowsContent c)
  | .applyGradeTable => .applyGradeTable tag (emptyContent c)
  | .readGradeTable => .readGradeTable tag (emptyContent c)
  | .readCutter => .readCutter tag (emptyContent c)
  | .closeShift => .closeShift tag (closeContent c)
  | .readShift => .readShift tag (emptyContent c)
  | .readShiftReport => .readShiftReport tag (oneField 4 c)
  | .readJournal => .readJournal tag (oneField 4 c)
  | .haltLine => .haltLine tag (emptyContent c)
  | .readFault => .readFault tag (emptyContent c)
  | .clearFault => .clearFault tag (oneField 2 c)
  | .startInspect => .startInspect tag (laneSetContent c)
  | .stopInspect => .stopInspect tag (emptyContent c)
  | .startProduction => .startProduction tag (emptyContent c)
  | .reset => .reset tag (emptyContent c)
  | .readEvents => .readEvents tag (emptyContent c)
  | .clearEvents => .clearEvents tag (eventSetContent c)
  | .setEventMask => .setEventMask tag (eventSetContent c)

/-! ### The three receivers -/

/-- R196: what the supervisor receiver makes of the bytes from a start byte on. none while the frame is incomplete, or where
the first byte is no start byte. A body length outside 4 to 1,024 discards the frame as soon as it is read. -/
def supervisorCommand (bytes : List Byte) : Option Instr :=
  match bytes with
  | start :: hi :: lo :: rest =>
    if start ≠ 0xA5#8 then none
    else
      let n := fieldValue [hi, lo]
      if n < 4 ∨ 1024 < n then some .frameDiscarded
      else if rest.length < n + 2 then none
      else
        let body := rest.take n
        if (frameCheck (hi :: lo :: body)).toNat ≠ fieldValue ((rest.drop n).take 2) then some .frameDiscarded
        else
          let kind := fieldValue (body.take 2)
          let tag := fieldValue ((body.drop 2).take 2)
          match Request.ofCode kind with
          | none => some (.unknownRequest kind tag)
          | some r => some (requestCommand r tag (body.drop 4))
  | _ => none

/-- One byte more at the supervisor receiver (R196), and the command it completes, if it completes one. `pending` is what has
been received since the start byte, that byte included; empty while HUNTING. -/
def receiveByte (pending : List Byte) (b : Byte) : List Byte × Option Instr :=
  if pending.isEmpty ∧ b ≠ 0xA5#8 then ([], none)
  else
    match supervisorCommand (pending ++ [b]) with
    | some c => ([], some c)
    | none => (pending ++ [b], none)

/-- The cut id that a malformed record's content holds in its place (R152): the first four bytes of a record of kinds 5 to 8, whatever its
length beyond them, and none in a record of another kind (DESIGN CHOICE, log 44). -/
def malformedCut (kind : Nat) (content : List Byte) : Option Nat :=
  if 5 ≤ kind ∧ kind ≤ 8 ∧ 4 ≤ content.length then some (fieldValue (content.take 4)) else none

def rejectReason : Nat → Option RejectReason
  | 1 => some .spacing
  | 2 => some .late
  | 3 => some .notReady
  | _ => none

/-- A record from the cutting line controller (R152, Table 11-12): the command, or MALFORMED_RECORD. -/
def recordCommand (kind : Nat) (content : List Byte) : Instr :=
  let malformed := Instr.malformedRecord (malformedCut kind content)
  match kind with
  | 1 =>
    match splitFields [2, 2, 2, 1, 1] content with
    | some [s, l, v, p, d] => .capability ⟨s, l, v, p, d⟩ false
    | _ => malformed
  | 5 =>
    match splitFields [4] content with
    | some [id] => .cutAccept id
    | _ => malformed
  | 6 =>
    match splitFields [4, 1] content with
    | some [id, r] =>
      match rejectReason r with
      | some reason => .cutReject id reason
      | none => malformed
    | _ => malformed
  | 7 =>
    match splitFields [4] content with
    | some [id] => .cutDone id
    | _ => malformed
  | 8 =>
    match splitFields [4] content with
    | some [id] => .cutMissed id
    | _ => malformed
  | _ => malformed

/-- R152, Table 11-11: what the cutter link's receiver makes of the bytes from a start byte on. -/
def cutterCommand (bytes : List Byte) : Option Instr :=
  match bytes with
  | start :: len :: rest =>
    if start ≠ 0xC3#8 then none
    else
      let n := len.toNat
      if n < 1 ∨ 64 < n then some .cutterFrameDiscarded
      else if rest.length < n + 2 then none
      else
        let body := rest.take n
        if (frameCheck (len :: body)).toNat ≠ fieldValue ((rest.drop n).take 2) then some .cutterFrameDiscarded
        else some (recordCommand (fieldValue (body.take 1)) (body.drop 1))
  | _ => none

/-- One run of a digest frame: five bytes holding 12, 12, 12, 1 and 3 bits (Table 11-8). -/
def readRun (bytes : List Byte) : Run :=
  let v := fieldValue bytes
  ⟨v / 2 ^ 28, v / 2 ^ 16 % 2 ^ 12, v / 2 ^ 4 % 2 ^ 12, if v / 2 ^ 3 % 2 = 0 then .bright else .dark⟩

/-- `n` runs. -/
def readRuns : Nat → List Byte → List Run
  | 0, _ => []
  | n + 1, bytes => readRun (bytes.take 5) :: readRuns n (bytes.drop 5)

/-- R211, Table 11-8: what the receiver of a gantry lane makes of the bytes from a start byte on. The bits the table gives as
zero are not examined (log 24). -/
def digestCommand (lane : LaneId) (bytes : List Byte) : Option Instr :=
  match bytes with
  | start :: l1 :: l0 :: flags :: b1 :: b0 :: count :: rest =>
    if start ≠ 0x5A#8 then none
    else
      let r := count.toNat
      if 16 < r then some (.gantryFrameDiscarded lane)
      else if rest.length < 5 * r + 2 then none
      else if (frameCheck (l1 :: l0 :: flags :: b1 :: b0 :: count :: rest.take (5 * r))).toNat
          ≠ fieldValue ((rest.drop (5 * r)).take 2) then some (.gantryFrameDiscarded lane)
      else
        some (.gantryDigest lane
          { line := fieldValue [l1, l0], slot := flags.toNat % 8, headFault := flags.getLsbD 3, overflow := flags.getLsbD 4,
            level := fieldValue [b1, b0] % 4096, runs := readRuns r rest })
  | _ => none

/-! ### Encoders of the same layouts -/

/-- The bytes of a content of a request, in the order of Table 11-14. -/
def detectionBytes (d : DetectionFields) : List Byte :=
  BitVec.ofNat 8 d.slots.length :: (d.slots.flatMap fun s => joinFields slotWidths [s.kind, s.threshold, s.low, s.high]) ++
    joinFields detectionTail [d.join, d.gap, d.maxLength, d.aspect, d.stone]

def orderBytes (o : OrderFields) : List Byte :=
  joinFields orderHead [o.id, o.length, o.split, o.quantity, o.target, o.fallback, o.positions.length] ++
    joinFields (List.replicate o.positions.length 2) o.positions

def flawQueryBytes : FlawQuery → List Byte
  | .byId id => 0#8 :: fieldBytes 4 id
  | .byLabel y k => 1#8 :: joinFields [6, 2] [y, k]

def pageQueryBytes : PageQuery → List Byte
  | .byId id => 0#8 :: fieldBytes 4 id
  | .bySkip k => 1#8 :: fieldBytes 1 k

def gradeRowBytes : GradeRow → List Byte
  | .limit g k es ec cs cc => 0#8 :: joinFields [1, 1, 2, 1, 2, 1, 1] [g, k, es, ec, cs, cc, 0]
  | .floor b s l f => 1#8 :: joinFields [2, 2, 2, 2, 1] [b, s, l, f, 0]
  | .general band blind a b c u x => 2#8 :: joinFields [2, 2, 1, 1, 1, 1, 1] [band, blind, a, b, c, u, x]
  | .other kind => BitVec.ofNat 8 kind :: List.replicate 9 0#8

/-- The kind, tag and content of a request command whose content has its right length. none for every other command. -/
def requestParts (i : Instr) : Option (Request × Nat × List Byte) :=
  match i with
  | .setLineGeometry t (.fields g) =>
    some (.setLineGeometry, t, joinFields lineGeometryWidths
      [g.ppm, g.pitch, g.dgc, g.xL, g.xR, g.maxSpeed, g.stallTime, g.breakAction])
  | .readLineGeometry t (.fields _) => some (.readLineGeometry, t, [])
  | .readPosition t (.fields _) => some (.readPosition, t, [])
  | .setLaneGeometry t (.fields g) =>
    some (.setLaneGeometry, t, joinFields laneGeometryWidths [g.lane, g.x0, g.pitch, g.columns, g.binning])
  | .startLane t (.fields n) => some (.startLane, t, fieldBytes 1 n)
  | .stopLane t (.fields n) => some (.stopLane, t, fieldBytes 1 n)
  | .setDarkOffset t (.fields v) => some (.setDarkOffset, t, joinFields [1, 2] [v.1, v.2])
  | .setColumnMask t (.fields v) =>
    some (.setColumnMask, t, BitVec.ofNat 8 v.1 :: BitVec.ofNat 8 v.2.length :: joinFields (List.replicate v.2.length 2) v.2)
  | .setDynamicMasking t (.fields v) => some (.setDynamicMasking, t, joinFields [1, 1] [v.1, v.2])
  | .readLane t (.fields n) => some (.readLane, t, fieldBytes 1 n)
  | .writeDetectionSet t (.fields d) => some (.writeDetectionSet, t, detectionBytes d)
  | .applyDetection t (.fields _) => some (.applyDetection, t, [])
  | .readDetectionSet t (.fields _) => some (.readDetectionSet, t, [])
  | .readOpenFlaws t (.fields n) => some (.readOpenFlaws, t, fieldBytes 1 n)
  | .readFlaws t (.fields q) => some (.readFlaws, t, flawQueryBytes q)
  | .readBlind t (.fields q) => some (.readBlind, t, pageQueryBytes q)
  | .loadOrder t (.fields o) => some (.loadOrder, t, orderBytes o)
  | .withdrawOrder t (.fields n) => some (.withdrawOrder, t, fieldBytes 2 n)
  | .readOrders t (.fields _) => some (.readOrders, t, [])
  | .setCutParameters t (.fields p) =>
    some (.setCutParameters, t, joinFields cutWidths [p.minCull, p.maxCull, p.clearance, p.guard, p.overdue])
  | .readCutParameters t (.fields _) => some (.readCutParameters, t, [])
  | .stopProduction t (.fields _) => some (.stopProduction, t, [])
  | .readPlates t (.fields q) => some (.readPlates, t, pageQueryBytes q)
  | .writeGradeRows t (.fields rows) =>
    some (.writeGradeRows, t, BitVec.ofNat 8 rows.length :: rows.flatMap gradeRowBytes)
  | .applyGradeTable t (.fields _) => some (.applyGradeTable, t, [])
  | .readGradeTable t (.fields _) => some (.readGradeTable, t, [])
  | .readCutter t (.fields _) => some (.readCutter, t, [])
  | .closeShift t (.fields c) =>
    some (.closeShift, t, joinFields [1, 4, 1] [c.mode, c.hostTime, c.label.length] ++ c.label)
  | .readShift t (.fields _) => some (.readShift, t, [])
  | .readShiftReport t (.fields n) => some (.readShiftReport, t, fieldBytes 4 n)
  | .readJournal t (.fields n) => some (.readJournal, t, fieldBytes 4 n)
  | .haltLine t (.fields _) => some (.haltLine, t, [])
  | .readFault t (.fields _) => some (.readFault, t, [])
  | .clearFault t (.fields n) => some (.clearFault, t, fieldBytes 2 n)
  | .startInspect t (.fields b) => some (.startInspect, t, [b])
  | .stopInspect t (.fields _) => some (.stopInspect, t, [])
  | .startProduction t (.fields _) => some (.startProduction, t, [])
  | .reset t (.fields _) => some (.reset, t, [])
  | .readEvents t (.fields _) => some (.readEvents, t, [])
  | .clearEvents t (.fields e) => some (.clearEvents, t, fieldBytes 2 e.toNat)
  | .setEventMask t (.fields e) => some (.setEventMask, t, fieldBytes 2 e.toNat)
  | _ => none

/-- A supervisor frame (Table 11-6) around a body. -/
def supervisorFrame (body : List Byte) : List Byte :=
  let counted := fieldBytes 2 body.length ++ body
  0xA5#8 :: counted ++ fieldBytes 2 (frameCheck counted).toNat

/-- The frame of a request command; none for every other command. -/
def encodeRequest (i : Instr) : Option (List Byte) :=
  (requestParts i).map fun (r, tag, content) =>
    supervisorFrame (fieldBytes 2 r.code ++ fieldBytes 2 tag ++ content)

def rejectCode : RejectReason → Nat
  | .spacing => 1
  | .late => 2
  | .notReady => 3

/-- The record kind and content of a command that is a well-formed record from the cutting line controller. -/
def recordParts (i : Instr) : Option (Nat × List Byte) :=
  match i with
  | .capability c false =>
    some (1, joinFields [2, 2, 2, 1, 1] [c.spacing, c.lead, c.speed, c.across, c.destinations])
  | .cutAccept id => some (5, fieldBytes 4 id)
  | .cutReject id r => some (6, joinFields [4, 1] [id, rejectCode r])
  | .cutDone id => some (7, fieldBytes 4 id)
  | .cutMissed id => some (8, fieldBytes 4 id)
  | _ => none

/-- The cutter frame (Table 11-11) of such a command. -/
def encodeRecord (i : Instr) : Option (List Byte) :=
  (recordParts i).map fun (kind, content) =>
    let counted := BitVec.ofNat 8 (1 + content.length) :: BitVec.ofNat 8 kind :: content
    0xC3#8 :: counted ++ fieldBytes 2 (frameCheck counted).toNat

end Sys2Proof
end

