-- ==== Sys2Proof/Machine/State.lean ====
section
/-!
DEFINITION. Every piece of state the manual gives the part, as plain data, block by block (Table 0-1), and the state after a
full reset. The fields that are the model's own say so.
-/

namespace Sys2Proof.Machine

/-- Why a step stops with a fault. The manual gives every command an effect in every state, so no command raises one and the
type has no constructor (a fault of Chapter 10 is state of the part: FaultRecord). Safe. -/
inductive Fault where
  deriving DecidableEq, Repr

/-- Why a command is refused by the model. -/
inductive Refusal where
  /-- Raised by exec's arm of a command that has no meaning yet. Safe. No arm uses it. -/
  | notModelled (mnemonic : String)
  deriving DecidableEq, Repr

/-! ### Names of Chapter 11 and of several chapters -/

/-- Operating modes (Table 11-3). -/
inductive Mode where
  | idle | inspect | produce | draining | halted
  deriving DecidableEq, Repr

/-- Result codes (Table 11-7), in order of code. -/
inductive Result where
  | ok | unknownRequest | wrongMode | badField | badLength | laneBusy | queueFull | duplicateId | notFound | notCuttable
  | orderTooLong | coverageGap | notConfigured | noAgreement | nothingStaged | stageBusy | delayListFull | tagInUse
  | faultMismatch | cancelled
  deriving DecidableEq, Repr

/-- Events (Table 11-5), in order of bit. -/
inductive Event where
  | modeChanged | laneChanged | columnMasked | blindOpened | mapHigh | faultCaptured | planForced | orderActivated
  | orderFinished | orderWithdrawn | ordersExhausted | agreementChanged | resultReady | shiftClosed | ribbonState | breakEvent
  deriving DecidableEq, Repr

/-- Flaw classes (section 3.3). -/
inductive FlawClass where
  | bubble | stone | linear | surface
  deriving DecidableEq, Repr

/-- Grades from best to worst (chapter Units and Conventions). -/
inductive Grade where
  | a | b | c | u | x
  deriving DecidableEq, Repr

/-- A value for each flaw class. -/
structure PerClass (α : Type) where
  bubble : α
  stone : α
  linear : α
  surface : α
  deriving DecidableEq, Repr

/-- A value for each grade. -/
structure PerGrade (α : Type) where
  a : α
  b : α
  c : α
  u : α
  x : α
  deriving DecidableEq, Repr

/-- A set of view kinds. -/
structure Views where
  bright : Bool
  dark : Bool
  oblique : Bool
  deriving DecidableEq, Repr

/-- A span: its first position and the first position not included (Chapter 2). -/
structure Span where
  start : Nat
  stop : Nat
  deriving DecidableEq, Repr

/-! ### Chapter 1: the Position Unit -/

inductive BreakAction where
  | halt | mark
  deriving DecidableEq, Repr

inductive RibbonState where
  | moving | stopped
  deriving DecidableEq, Repr

/-- The line geometry in force (Table 1-2). -/
structure LineGeometry where
  ppm : Nat
  pitch : Nat
  dgc : Nat
  xL : Nat
  xR : Nat
  maxSpeed : Nat
  stallTime : Nat
  breakAction : BreakAction
  deriving DecidableEq, Repr

/-- Table 1-1. -/
structure Position where
  y : Nat
  rem : Nat
  debt : Nat
  phaseA : Bool
  phaseB : Bool
  lastLine : Option Nat
  speed : Nat
  windowCount : Nat
  overspeed : Bool
  ribbon : RibbonState
  stallRunning : Bool
  breakLevel : Bool
  breakMarking : Bool
  geometry : LineGeometry
  configured : Bool
  deriving DecidableEq, Repr

/-! ### Chapter 2: the Lane Units -/

inductive LaneState where
  | off | settling | active | crowded | faulted
  deriving DecidableEq, Repr

/-- Table 2-2 without the lane number. -/
structure LaneGeometry where
  x0 : Nat
  pitch : Nat
  columns : Nat
  binning : Nat
  deriving DecidableEq, Repr

/-- The baseline rings, one per view kind, oldest sample first (R29). -/
structure Rings where
  bright : List Nat
  dark : List Nat
  oblique : List Nat
  deriving DecidableEq, Repr

/-- Table 2-1. -/
structure Lane where
  state : LaneState
  geometry : LaneGeometry
  configured : Bool
  owned : Option Span
  dark : Nat
  rings : Rings
  limitRuns : Vector Nat 5
  expected : Nat
  lastProcessed : Option Nat
  acceptance : Nat
  staticMask : List Nat
  dynMasking : Bool
  dynColumns : List Nat
  persistence : List (Nat × Nat)
  interval : Option Nat
  deriving DecidableEq, Repr

/-! ### Chapter 3: the Flaw Tracker -/

/-- One slot of the view sequence (Table 3-3). -/
structure Slot where
  kind : ViewKind
  threshold : Nat
  low : Nat
  high : Nat
  deriving DecidableEq, Repr

/-- A detection set (Table 3-3). -/
structure DetectionSet where
  slots : List Slot
  join : Nat
  gap : Nat
  maxLength : Nat
  aspect : Nat
  stone : Nat
  deriving DecidableEq, Repr

/-- An open flaw (Table 3-2). Its lane is the lane whose table holds it. -/
structure OpenFlaw where
  id : Nat
  firstLine : Nat
  lastLine : Nat
  firstCol : Nat
  lastCol : Nat
  seenFirst : Nat
  seenLast : Nat
  peak : Nat
  views : Views
  darkInBright : Bool
  saturated : Bool
  pred : Option Nat
  deriving DecidableEq, Repr

/-- A continuation mark (R52). -/
structure Mark where
  id : Nat
  lastLine : Nat
  seenFirst : Nat
  seenLast : Nat
  deriving DecidableEq, Repr

/-- One lane's open-flaw table and mark list. -/
structure FlawTable where
  flaws : List OpenFlaw
  marks : List Mark
  deriving DecidableEq, Repr

/-- A detection apply outside IDLE (R61 to R64): nothing in progress, a set waiting for its switch line, or
a switch made at its line whose outgoing copy is not yet released. -/
inductive ApplyState where
  | none
  | waiting (set : DetectionSet) (line : Nat)
  | switched (line : Nat)
  deriving DecidableEq, Repr

/-- Table 3-1. -/
structure Tracker where
  tables : Vector FlawTable 8
  nextId : Nat
  frontier : Nat
  active : Option DetectionSet
  outgoing : Option DetectionSet
  staged : Option DetectionSet
  stagedFlag : Bool
  apply : ApplyState
  deriving DecidableEq, Repr

/-! ### Chapter 4: the Map Unit -/

/-- The flags of a map entry (Table 4-2). -/
structure FlawFlags where
  continued : Bool
  truncated : Bool
  seam : Bool
  columnSuspect : Bool
  saturated : Bool
  merged : Bool
  deriving DecidableEq, Repr

/-- A map entry (Table 4-2). -/
structure MapEntry where
  id : Nat
  lanes : List LaneId
  yFirst : Nat
  yLast : Nat
  xFirst : Nat
  xLast : Nat
  cls : FlawClass
  size : Nat
  peak : Nat
  views : Views
  flags : FlawFlags
  pred : Option Nat
  refs : Nat
  deriving DecidableEq, Repr

/-- Reasons of a blind interval (Table 4-4). -/
inductive BlindReason where
  | off | settling | faulted | crowded | mapFull | breakReason
  deriving DecidableEq, Repr

/-- A blind interval (Table 4-4); lane none is ALL. -/
structure Interval where
  id : Nat
  reason : BlindReason
  lane : Option LaneId
  xStart : Nat
  xEnd : Nat
  yStart : Nat
  yEnd : Option Nat
  refs : Nat
  deriving DecidableEq, Repr

/-- Table 4-1. `fullEnd`, `room` and `testDue` are the model's own (log 20). -/
structure MapUnit where
  entries : List MapEntry
  highRaised : Bool
  refused : Nat
  blind : List Interval
  nextId : Nat
  full : Option Nat
  fullLabel : Option Nat
  breakLabel : Option Nat
  fullEnd : Option Nat
  room : Bool
  testDue : Bool
  deriving DecidableEq, Repr

/-! ### Chapter 5: the Order Unit -/

inductive Fallback where
  | take | cull
  deriving DecidableEq, Repr

inductive OrderState where
  | queued | active | ending
  deriving DecidableEq, Repr

/-- An order record (Table 5-2). -/
structure Order where
  id : Nat
  length : Nat
  split : Nat
  positions : List Nat
  quantity : Nat
  target : Grade
  fallback : Fallback
  state : OrderState
  planned : Nat
  delivered : Nat
  deriving DecidableEq, Repr

inductive OrderOutcome where
  | complete | short | withdrawn
  deriving DecidableEq, Repr

/-- A finished entry (R98). -/
structure FinishedEntry where
  id : Nat
  quantity : Nat
  target : Grade
  planned : Nat
  delivered : Nat
  outcome : OrderOutcome
  shift : Nat
  deriving DecidableEq, Repr

/-- Table 5-1. -/
structure OrderUnit where
  queue : List Order
  finished : List FinishedEntry
  exhausted : Bool
  deriving DecidableEq, Repr

/-! ### Chapter 6: the Cut Planner -/

inductive PlanningState where
  | off | ready | waiting | draining
  deriving DecidableEq, Repr

inductive CutState where
  | sent | accepted | done | rejected | missed
  deriving DecidableEq, Repr

structure Cut where
  id : Nat
  pos : Nat
  state : CutState
  deriving DecidableEq, Repr

/-- The head cut. `leadIn` says that it is the cut committed at START PRODUCTION, so that the glass
before it is the lead-in (R107, R122; log 29). -/
structure HeadCut where
  cut : Cut
  leadIn : Bool
  deriving DecidableEq, Repr

inductive RecordKind where
  | plate | cull
  deriving DecidableEq, Repr

inductive RecordState where
  | committed | accepted | cut | spilled | void
  deriving DecidableEq, Repr

/-- A piece of a record (Table 6-8). -/
structure Piece where
  xStart : Nat
  xEnd : Nat
  grade : Grade
  dest : Nat
  flaws : Nat
  permille : Nat
  deriving DecidableEq, Repr

/-- A plate record (Table 6-8), with the note "counted" of R95. -/
structure PlateRecord where
  id : Nat
  kind : RecordKind
  order : Option Nat
  yStart : Nat
  yEnd : Nat
  version : Nat
  pieces : List Piece
  grade : Grade
  forced : Bool
  state : RecordState
  cut : Cut
  rejectDest : Nat
  flawRefs : List Nat
  blindRefs : List Nat
  absorbedInto : Option Nat
  counted : Bool
  deriving DecidableEq, Repr

/-- Table 6-1. -/
structure Planner where
  params : CutParameters
  configured : Bool
  planning : PlanningState
  table : List PlateRecord
  head : Option HeadCut
  yPrev : Nat
  lastCut : Option Nat
  nextPlate : Nat
  nextCut : Nat
  deriving DecidableEq, Repr

/-! ### Chapter 7: the Grader -/

structure ZoneLimit where
  size : Nat
  count : Nat
  deriving DecidableEq, Repr

structure ClassLimit where
  edge : ZoneLimit
  core : ZoneLimit
  deriving DecidableEq, Repr

/-- A grade table (Table 7-2). -/
structure GradeTable where
  limitA : PerClass ClassLimit
  limitB : PerClass ClassLimit
  limitC : PerClass ClassLimit
  floors : PerClass Nat
  band : Nat
  blindLimit : Nat
  dest : PerGrade Nat
  deriving DecidableEq, Repr

/-- Table 7-1. -/
structure Grader where
  active : GradeTable
  staged : GradeTable
  version : Nat
  stagedFlag : Bool
  deriving DecidableEq, Repr

/-! ### Chapter 8: the Cutter Link Unit -/

/-- Reasons of DECLINE in the order they are tested (Table 8-4). -/
inductive DeclineReason where
  | notReady | range | minCull | travel | destinations
  deriving DecidableEq, Repr

/-- The agreement in force (Table 8-1). -/
structure Agreement where
  cap : Capability
  speed : Nat
  cMin : Nat
  lead : Nat
  deriving DecidableEq, Repr

/-- Table 8-1. The agreement state is NONE when `agreement` is none and AGREED otherwise. -/
structure CutterLink where
  ready : Bool
  agreement : Option Agreement
  held : Option Capability
  lastDecline : Option DeclineReason
  discarded : Nat
  sentCut : Nat
  sentResult : Nat
  sentHalt : Nat
  deriving DecidableEq, Repr

/-- A piece as PLATE RESULT carries it (Table 11-12). -/
structure ResultPiece where
  xStart : Nat
  xEnd : Nat
  grade : Grade
  dest : Nat
  deriving DecidableEq, Repr

/-- Records the part sends on the cutter link (Table 8-2). -/
inductive CutterRecord where
  | agree (speed cMin lead across destinations : Nat)
  | decline (reason : DeclineReason) (speed cMin lead : Nat)
  | cut (id pos toGo speed : Nat)
  | plateResult (id : Nat) (kind : RecordKind) (length : Nat) (pieces : List ResultPiece)
  | cutterHalt
  deriving DecidableEq, Repr

/-! ### Chapter 9: the Report Unit -/

/-- A shift accumulator or a shift report (Table 9-2). -/
structure Shift where
  seq : Nat
  label : List Byte
  openTime : Nat
  closeTime : Option Nat
  openY : Nat
  closeY : Option Nat
  inspected : Nat
  plates : PerGrade Nat
  pieces : PerGrade Nat
  areas : PerGrade Nat
  cullCount : Nat
  cullArea : Nat
  voidCount : Nat
  voidArea : Nat
  flaws : PerClass Nat
  forced : Nat
  rejected : Nat
  missed : Nat
  overdue : Nat
  class1 : Nat
  laneFaults : Vector Nat 8
  complete : Nat
  short : Nat
  withdrawn : Nat
  deriving DecidableEq, Repr

/-- A pending CLOSE SHIFT AT CUT (R176). -/
structure PendingClose where
  label : List Byte
  hostTime : Nat
  tag : Nat
  deriving DecidableEq, Repr

/-- A journal entry (Table 9-4). -/
structure JournalEntry where
  plate : Nat
  kind : RecordKind
  order : Option Nat
  length : Nat
  version : Nat
  grade : Grade
  pieceGrades : List Grade
  forced : Bool
  spilled : Bool
  chainFirst : Option Nat
  joined : Option Nat
  shift : Nat
  deriving DecidableEq, Repr

/-- Table 9-1. -/
structure ReportUnit where
  shift : Shift
  pendingClose : Option PendingClose
  store : List Shift
  journal : List JournalEntry
  deriving DecidableEq, Repr

/-! ### Chapter 10: the Fault Unit -/

/-- Fault kinds (Table 10-2). -/
inductive FaultKind where
  | digestMissing | headFault | lightLow | lightHigh | cutReject | cutMissed | cutOverdue | cutterProtocol | overspeed
  | ribbonReversal | encoderPhase | ribbonBreak | blindListFull | planOverrun | cutterLost | agreementLost | operatorHalt
  deriving DecidableEq, Repr

/-- The items a report carries (Table 10-2). -/
structure ReportItems where
  y : Nat
  line : Option Nat
  lane : Option LaneId
  plate : Option Nat
  cut : Option Nat
  reason : Option RejectReason
  speed : Option Nat
  deriving DecidableEq, Repr

/-- The fault record (Table 10-3). Its class is that of its kind. -/
structure FaultRecord where
  number : Nat
  kind : FaultKind
  items : ReportItems
  mode : Mode
  suppressed : Nat
  displaced : Option Nat
  second : Option FaultKind
  deriving DecidableEq, Repr

/-- The fault slot with its record (Table 10-1). -/
inductive FaultSlot where
  | empty
  | held (r : FaultRecord)
  | haltHeld (r : FaultRecord)
  deriving DecidableEq, Repr

/-- The model's own (log 7): what a block that has not yet taken the last change to HALTED still sees. `unseenLoss`: the line reset has
since taken away an agreement that the Cutter Link Unit still sees. -/
structure BeforeHalt where
  mode : Mode
  overrunDue : Bool
  unseenLoss : Bool
  deriving DecidableEq, Repr

structure FaultUnit where
  slot : FaultSlot
  nextNumber : Nat
  before : Option BeforeHalt
  deriving DecidableEq, Repr

/-! ### Chapter 11: the Supervisor Port -/

/-- The frame receiver (R196). -/
inductive Receiver where
  | hunting
  | receiving (bytes : List Byte)
  deriving DecidableEq, Repr

/-- An entry of the delayed-request list (R199). -/
structure Delayed where
  kind : Request
  tag : Nat
  deriving DecidableEq, Repr

/-- Table 11-1, less ATTN, which State.attn computes (log 19). -/
structure Port where
  mode : Mode
  receiver : Receiver
  discarded : Nat
  delayed : List Delayed
  events : BitVec 16
  mask : BitVec 16
  deriving DecidableEq, Repr

/-- The reset hold, a RESET taken and not yet performed, and the straps as last read (R204). -/
structure Control where
  held : Bool
  resetting : Bool
  straps : Straps
  deriving DecidableEq, Repr

/-! ### What the part sends -/

/-- The fields of a READ LANE reply (R44). A ring is given by its kind, its fill and, if it is full, its mean. -/
structure LaneReply where
  state : LaneState
  configured : Bool
  lane : Nat
  geometry : LaneGeometry
  reported : Nat
  owned : Option Span
  dark : Nat
  rings : List (ViewKind × Nat × Option Nat)
  limitRuns : List Nat
  expected : Nat
  lastProcessed : Option Nat
  acceptance : Nat
  openFlaws : Nat
  staticMask : List Nat
  dynMasking : Bool
  dynColumns : List Nat
  interval : Option Nat
  deriving DecidableEq, Repr

/-- What READ FLAWS, READ BLIND and READ PLATES find (R84, R85, R129): the entry of the id they name, or a page, for READ FLAWS with the number
of entries at or above its label. -/
inductive Found (α : Type) where
  | one (entry : α)
  | page (above : Option Nat) (entries : List α)
  deriving DecidableEq, Repr

/-- The content of an OK reply, as values in the order its rule names them (R198; log 5). -/
inductive ReplyBody where
  | empty
  | lineGeometry (configured : Bool) (g : LineGeometry)
  | position (y : Nat) (line : Option Nat) (debt speed : Nat) (overspeed : Bool) (ribbon : RibbonState)
      (breakLevel breakMarking : Bool)
  | lane (l : LaneReply)
  | switchLine (line : Nat)
  | detectionSets (active staged : Option DetectionSet) (stagedFlag : Bool) (switching : Option (Nat × Bool))
      (pending : Option DetectionSet)
  | openFlaws (frontier nextId : Nat) (lane : LaneId) (flaws : List OpenFlaw) (marks : List Mark)
  | flaws (entries : Found MapEntry) (held : Nat) (highRaised : Bool) (refused : Nat) (full : Option Nat)
  | blind (intervals : Found Interval) (held nextId : Nat) (openAll fullLabel breakLabel : Option Nat)
      (laneIntervals : List (Option Nat))
  | loaded (state : OrderState)
  | orderState (state : Option OrderState)
  | orders (queue : List (Order × Nat)) (finished : List FinishedEntry) (exhausted : Bool)
  | cutParameters (configured : Bool) (p : CutParameters) (agreed : Option (Nat × Nat × Option Nat))
  | plates (records : Found PlateRecord) (planning : PlanningState) (yPrev : Nat) (lastCut : Option Nat) (head : Option Cut)
      (held nextPlate nextCut : Nat) (openChain : Option Nat)
  | gradeVersion (version : Nat)
  | gradeTables (version : Nat) (active staged : GradeTable) (stagedFlag : Bool)
  | cutter (ready : Bool) (agreement : Option Agreement) (held : Option Capability) (lastDecline : Option DeclineReason)
      (discarded sentCut sentResult sentHalt : Nat)
  | shiftSeq (seq : Nat)
  | shift (s : Shift) (pending : Option (List Byte × Nat))
  | shiftReport (s : Shift) (held : List Nat)
  | journal (held : Nat) (oldest newest : Option Nat) (entries : List JournalEntry)
  | faultNumber (number : Nat)
  | fault (slot : FaultSlot) (nextNumber : Nat)
  | headCut (id pos : Nat)
  | events (set mask : BitVec 16) (attn : Bool) (mode : Mode) (delayed : List Delayed) (discarded : Nat)
  | eventSet (set : BitVec 16)
  deriving DecidableEq, Repr

/-- A reply frame (R198): the request's kind as its code with the reply bit, its tag, the result code and the content. -/
structure Reply where
  kind : Nat
  tag : Nat
  result : Result
  body : ReplyBody
  deriving DecidableEq, Repr

/-- The trigger word (11.6, the gantry link). -/
structure Trigger where
  line : Nat
  slot : Nat
  deriving DecidableEq, Repr

/-- The model's own record of what has been sent, oldest first (log 5). -/
structure Output where
  replies : List Reply
  cutter : List CutterRecord
  triggers : List Trigger
  deriving DecidableEq, Repr

/-! ### The whole part -/

structure State where
  pos : Position
  lanes : Vector Lane 8
  tracker : Tracker
  map : MapUnit
  orders : OrderUnit
  planner : Planner
  grader : Grader
  cutter : CutterLink
  report : ReportUnit
  fault : FaultUnit
  port : Port
  ctl : Control
  out : Output
  pending : List Instr
  deriving DecidableEq, Repr

/-! ### Values after a full reset, block by block -/

/-- R16. -/
def LineGeometry.zero : LineGeometry where
  ppm := 0
  pitch := 0
  dgc := 0
  xL := 0
  xR := 0
  maxSpeed := 0
  stallTime := 0
  breakAction := .halt

/-- R16, with the input levels the part then sees. -/
def Position.initial (phaseA phaseB breakLevel : Bool) : Position where
  y := 0
  rem := 0
  debt := 0
  phaseA := phaseA
  phaseB := phaseB
  lastLine := none
  speed := 0
  windowCount := 0
  overspeed := false
  ribbon := .stopped
  stallRunning := false
  breakLevel := breakLevel
  breakMarking := false
  geometry := LineGeometry.zero
  configured := false

def Rings.empty : Rings := ⟨[], [], []⟩

/-- R45. -/
def Lane.initial : Lane where
  state := .off
  geometry := ⟨0, 0, 0, 0⟩
  configured := false
  owned := none
  dark := 0
  rings := Rings.empty
  limitRuns := Vector.replicate 5 0
  expected := 0
  lastProcessed := none
  acceptance := 0
  staticMask := []
  dynMasking := false
  dynColumns := []
  persistence := []
  interval := none

def FlawTable.empty : FlawTable := ⟨[], []⟩

/-- R68. -/
def Tracker.initial : Tracker where
  tables := Vector.replicate 8 FlawTable.empty
  nextId := 1
  frontier := 0
  active := none
  outgoing := none
  staged := none
  stagedFlag := false
  apply := .none

/-- R87. -/
def MapUnit.initial : MapUnit where
  entries := []
  highRaised := false
  refused := 0
  blind := []
  nextId := 1
  full := none
  fullLabel := none
  breakLabel := none
  fullEnd := none
  room := false
  testDue := false

/-- R103. -/
def OrderUnit.initial : OrderUnit := ⟨[], [], false⟩

/-- R130. -/
def Planner.initial : Planner where
  params := ⟨0, 0, 0, 0, 0⟩
  configured := false
  planning := .off
  table := []
  head := none
  yPrev := 0
  lastCut := none
  nextPlate := 1
  nextCut := 1

def PerClass.fill {α : Type} (v : α) : PerClass α := ⟨v, v, v, v⟩
def PerGrade.fill {α : Type} (v : α) : PerGrade α := ⟨v, v, v, v, v⟩

/-- R150: every value 0. -/
def GradeTable.zero : GradeTable where
  limitA := PerClass.fill ⟨⟨0, 0⟩, ⟨0, 0⟩⟩
  limitB := PerClass.fill ⟨⟨0, 0⟩, ⟨0, 0⟩⟩
  limitC := PerClass.fill ⟨⟨0, 0⟩, ⟨0, 0⟩⟩
  floors := PerClass.fill 0
  band := 0
  blindLimit := 0
  dest := PerGrade.fill 0

def Grader.initial : Grader := ⟨GradeTable.zero, GradeTable.zero, 0, false⟩

/-- R168. -/
def CutterLink.initial (ready : Bool) : CutterLink where
  ready := ready
  agreement := none
  held := none
  lastDecline := none
  discarded := 0
  sentCut := 0
  sentResult := 0
  sentHalt := 0

/-- A shift as it opens (R170). -/
def Shift.opened (seq : Nat) (label : List Byte) (time y : Nat) : Shift where
  seq := seq
  label := label
  openTime := time
  closeTime := none
  openY := y
  closeY := none
  inspected := 0
  plates := PerGrade.fill 0
  pieces := PerGrade.fill 0
  areas := PerGrade.fill 0
  cullCount := 0
  cullArea := 0
  voidCount := 0
  voidArea := 0
  flaws := PerClass.fill 0
  forced := 0
  rejected := 0
  missed := 0
  overdue := 0
  class1 := 0
  laneFaults := Vector.replicate 8 0
  complete := 0
  short := 0
  withdrawn := 0

/-- R182. -/
def ReportUnit.initial : ReportUnit := ⟨Shift.opened 1 [] 0 0, none, [], []⟩

/-- R195. -/
def FaultUnit.initial : FaultUnit := ⟨.empty, 1, none⟩

/-- R208. -/
def Port.initial : Port := ⟨.idle, .hunting, 0, [], 0#16, 0xFFFF#16⟩

/-- The machine right after a full reset, with every input low, the straps 0 and nothing yet sent (log 6). -/
def State.reset : State where
  pos := Position.initial false false false
  lanes := Vector.replicate 8 Lane.initial
  tracker := Tracker.initial
  map := MapUnit.initial
  orders := OrderUnit.initial
  planner := Planner.initial
  grader := Grader.initial
  cutter := CutterLink.initial false
  report := ReportUnit.initial
  fault := FaultUnit.initial
  port := Port.initial
  ctl := ⟨false, false, ⟨0, 0⟩⟩
  out := ⟨[], [], []⟩
  pending := []

end Sys2Proof.Machine
end

