-- ==== Sys2Proof/Machine/Ops.lean ====
section
/-!
DEFINITION. The operations every block shares: changing one block's part of the state, saturating counts, identifiers that
run on from 1, lists kept in order, and the small tables (per class, per grade, per view kind).
-/

namespace Sys2Proof.Machine

/-! ### Changing one block's state -/

def State.modPos (g : Position → Position) (s : State) : State := { s with pos := g s.pos }
def State.modLanes (g : Vector Lane 8 → Vector Lane 8) (s : State) : State := { s with lanes := g s.lanes }
def State.modTracker (g : Tracker → Tracker) (s : State) : State := { s with tracker := g s.tracker }
def State.modMap (g : MapUnit → MapUnit) (s : State) : State := { s with map := g s.map }
def State.modOrders (g : OrderUnit → OrderUnit) (s : State) : State := { s with orders := g s.orders }
def State.modPlanner (g : Planner → Planner) (s : State) : State := { s with planner := g s.planner }
def State.modGrader (g : Grader → Grader) (s : State) : State := { s with grader := g s.grader }
def State.modCutter (g : CutterLink → CutterLink) (s : State) : State := { s with cutter := g s.cutter }
def State.modReport (g : ReportUnit → ReportUnit) (s : State) : State := { s with report := g s.report }
def State.modFault (g : FaultUnit → FaultUnit) (s : State) : State := { s with fault := g s.fault }
def State.modPort (g : Port → Port) (s : State) : State := { s with port := g s.port }
def State.modCtl (g : Control → Control) (s : State) : State := { s with ctl := g s.ctl }
def State.modOut (g : Output → Output) (s : State) : State := { s with out := g s.out }

/-- The lane unit of a lane. -/
def State.lane (s : State) (i : LaneId) : Lane := s.lanes[i.val]

/-- Change one lane unit. -/
def State.modLane (i : LaneId) (g : Lane → Lane) (s : State) : State :=
  s.modLanes fun v => v.set i.val (g v[i.val])

/-- The open flaws and marks of a lane. -/
def State.table (s : State) (i : LaneId) : FlawTable := s.tracker.tables[i.val]

/-- Change one lane's open flaws and marks. -/
def State.modTable (i : LaneId) (g : FlawTable → FlawTable) (s : State) : State :=
  s.modTracker fun t => { t with tables := t.tables.set i.val (g t.tables[i.val]) }

/-- Do something for every lane in ascending order of lane number. Where a rule names no order between lanes this one is the model's
(DESIGN CHOICE, log 36). -/
def forLanes (f : LaneId → State → State) (s : State) : State := allLanes.foldl (fun s i => f i s) s

/-! ### Counts, identifiers, quotients -/

/-- A counter saturates at its maximum (Units and Conventions). -/
def satAdd (max a b : Nat) : Nat := min max (a + b)

/-- Identifiers of 32 bits continue from 1 after their largest value (R50, R79, R130, R170). -/
def nextId (n : Nat) : Nat := if Config.max32 ≤ n then 1 else n + 1

/-- Numbers of 16 bits continue from 1 after their largest value (R132, R183). -/
def nextNumber (n : Nat) : Nat := if Config.max16 ≤ n then 1 else n + 1

/-- A quotient rounded up. -/
def ceilDiv (a b : Nat) : Nat := (a + b - 1) / b

/-- Rounded up to a multiple. -/
def roundUp (a m : Nat) : Nat := ceilDiv a m * m

/-! ### Lists -/

/-- Add at the end of a list that holds at most `cap`, dropping the oldest entry of a full one (R98, R180). -/
def pushBounded {α : Type} (cap : Nat) (xs : List α) (x : α) : List α :=
  (if cap ≤ xs.length then xs.drop 1 else xs) ++ [x]

/-- Insert in ascending order of key, after every element with the same key (R70, R79). -/
def insertByKey {α : Type} (key : α → Nat) (x : α) : List α → List α
  | [] => [x]
  | y :: ys => if key y ≤ key x then y :: insertByKey key x ys else x :: y :: ys

/-- Stable sort in ascending order of key. -/
def sortByKey {α : Type} (key : α → Nat) (xs : List α) : List α := xs.foldl (fun acc x => insertByKey key x acc) []

/-- Change every element that satisfies `p`. -/
def updateWhere {α : Type} (p : α → Bool) (g : α → α) (xs : List α) : List α := xs.map fun x => if p x then g x else x

/-- Each element once, the first occurrence kept. -/
def distinct : List Nat → List Nat
  | [] => []
  | x :: xs => x :: (distinct xs).filter (· ≠ x)

/-- The least of a list and a start value. -/
def leastFrom (a : Nat) (xs : List Nat) : Nat := xs.foldl min a

/-- The least element of a list, if it has one. -/
def least : List Nat → Option Nat
  | [] => none
  | x :: xs => some (leastFrom x xs)

/-! ### Values per class, per grade, per view kind -/

def PerClass.get {α : Type} (p : PerClass α) : FlawClass → α
  | .bubble => p.bubble
  | .stone => p.stone
  | .linear => p.linear
  | .surface => p.surface

def PerClass.modify {α : Type} (g : α → α) (p : PerClass α) : FlawClass → PerClass α
  | .bubble => { p with bubble := g p.bubble }
  | .stone => { p with stone := g p.stone }
  | .linear => { p with linear := g p.linear }
  | .surface => { p with surface := g p.surface }

def PerGrade.get {α : Type} (p : PerGrade α) : Grade → α
  | .a => p.a
  | .b => p.b
  | .c => p.c
  | .u => p.u
  | .x => p.x

def PerGrade.modify {α : Type} (g : α → α) (p : PerGrade α) : Grade → PerGrade α
  | .a => { p with a := g p.a }
  | .b => { p with b := g p.b }
  | .c => { p with c := g p.c }
  | .u => { p with u := g p.u }
  | .x => { p with x := g p.x }

/-- The rank of a grade: its place in the list A, B, C, U, X. -/
def Grade.rank : Grade → Nat
  | .a => 0
  | .b => 1
  | .c => 2
  | .u => 3
  | .x => 4

/-- Ranks at or above the target (Units and Conventions). -/
def Grade.meetsTarget (g target : Grade) : Bool := decide (g.rank ≤ target.rank)

/-- The worse of two grades (R144). -/
def Grade.worse (g h : Grade) : Grade := if g.rank ≤ h.rank then h else g

def Views.none : Views := ⟨false, false, false⟩

def Views.add (v : Views) : ViewKind → Views
  | .bright => { v with bright := true }
  | .dark => { v with dark := true }
  | .oblique => { v with oblique := true }

def Views.union (v w : Views) : Views := ⟨v.bright || w.bright, v.dark || w.dark, v.oblique || w.oblique⟩

/-- The views hold OBLIQUE and no other kind (R57, R73). -/
def Views.onlyOblique (v : Views) : Bool := v.oblique && !v.bright && !v.dark

def Rings.get (r : Rings) : ViewKind → List Nat
  | .bright => r.bright
  | .dark => r.dark
  | .oblique => r.oblique

def Rings.set (r : Rings) (k : ViewKind) (ring : List Nat) : Rings :=
  match k with
  | .bright => { r with bright := ring }
  | .dark => { r with dark := ring }
  | .oblique => { r with oblique := ring }

/-- A set of lanes in ascending order, united with another. -/
def uniteLanes (a b : List LaneId) : List LaneId := allLanes.filter fun i => a.contains i || b.contains i

/-! ### Often needed values of the state -/

def State.mode (s : State) : Mode := s.port.mode

def State.geo (s : State) : LineGeometry := s.pos.geometry

/-- INSPECT, PRODUCE or DRAINING: the line is inspecting. -/
def Mode.scanning : Mode → Bool
  | .inspect | .produce | .draining => true
  | .idle | .halted => false

/-- PRODUCE or DRAINING: the cutter works. -/
def Mode.cutting : Mode → Bool
  | .produce | .draining => true
  | .idle | .inspect | .halted => false

/-- ACTIVE or CROWDED: the lane follows flaws (R58). -/
def LaneState.following : LaneState → Bool
  | .active | .crowded => true
  | .off | .settling | .faulted => false

/-- SETTLING, ACTIVE or CROWDED: the lane examines digests (R25). -/
def LaneState.examining : LaneState → Bool
  | .settling | .active | .crowded => true
  | .off | .faulted => false

/-- Whether some lane is in a state. -/
def State.anyLane (p : LaneState → Bool) (s : State) : Bool := allLanes.any fun i => p (s.lane i).state

/-- The label of the next line to be scanned: (n + 1) × L for the last triggered line n (R14, R15). -/
def State.nextLineLabel (s : State) : Nat :=
  match s.pos.lastLine with
  | some n => (n + 1) * s.geo.pitch
  | none => 0

end Sys2Proof.Machine
end

