-- ==== Sys2Proof/Machine/Flags.lean ====
section
/-!
DEFINITION. The flags of the part: the event set, the event mask and ATTN (R205), the mode and who sees which mode (R203), the
modes in which each request is taken (Table 11-4), and the class of each fault kind (Table 10-2).
-/

namespace Sys2Proof.Machine

/-- The bit of an event: bit 0 is MODE CHANGED, the others follow the order of Table 11-5 (11.6). -/
def Event.bit : Event → Nat
  | .modeChanged => 0
  | .laneChanged => 1
  | .columnMasked => 2
  | .blindOpened => 3
  | .mapHigh => 4
  | .faultCaptured => 5
  | .planForced => 6
  | .orderActivated => 7
  | .orderFinished => 8
  | .orderWithdrawn => 9
  | .ordersExhausted => 10
  | .agreementChanged => 11
  | .resultReady => 12
  | .shiftClosed => 13
  | .ribbonState => 14
  | .breakEvent => 15

/-- The event set that holds one event. -/
def Event.single (e : Event) : BitVec 16 := 1#16 <<< e.bit

/-- R205: a raised event joins the set; one already in it stays. -/
def raise (e : Event) (s : State) : State := s.modPort fun p => { p with events := p.events ||| e.single }

/-- Whether an event is latched. -/
def State.latched (s : State) (e : Event) : Bool := s.port.events.getLsbD e.bit

/-- R205, R204: ATTN is asserted while an event is both in the set and in the mask, and released while the part is held in
reset. -/
def State.attn (s : State) : Bool := !s.ctl.held && decide (s.port.events &&& s.port.mask ≠ 0#16)

/-- R203: every change of mode but a full reset's raises MODE CHANGED. R11: leaving PRODUCE and DRAINING closes an open
overspeed excursion without a report. -/
def setMode (m : Mode) (s : State) : State :=
  raise .modeChanged
    ((s.modPort fun p => { p with mode := m }).modPos fun q => { q with overspeed := q.overspeed && m.cutting })

/-- The mode a reporting block sees as it takes its event: with `late`, the mode before the last change to HALTED, which the
block has not yet taken (R186, R187, R203; log 7). -/
def seenMode (late : Bool) (s : State) : Mode :=
  match late, s.fault.before with
  | true, some b => b.mode
  | _, _ => s.mode

/-- Table 11-4. -/
def takenIn (r : Request) (m : Mode) : Bool :=
  match r with
  | .setLineGeometry | .setLaneGeometry | .setCutParameters | .startInspect => m == .idle
  | .stopInspect | .startProduction => m == .inspect
  | .stopProduction => m == .produce
  | .startLane | .haltLine => m.scanning
  | .stopLane | .setDarkOffset | .setColumnMask | .setDynamicMasking | .writeDetectionSet | .applyDetection | .loadOrder
  | .withdrawOrder | .writeGradeRows | .applyGradeTable | .closeShift | .clearEvents | .setEventMask => m != .halted
  | .readLineGeometry | .readPosition | .readLane | .readDetectionSet | .readOpenFlaws | .readFlaws | .readBlind
  | .readOrders | .readCutParameters | .readPlates | .readGradeTable | .readCutter | .readShift | .readShiftReport
  | .readJournal | .readFault | .clearFault | .reset | .readEvents => true

/-- The class of a fault kind (Table 10-2). -/
def FaultKind.cls : FaultKind → Nat
  | .digestMissing | .headFault | .lightLow | .lightHigh | .cutReject | .cutMissed | .cutOverdue | .cutterProtocol
  | .overspeed => 1
  | .ribbonReversal | .encoderPhase | .ribbonBreak | .blindListFull | .planOverrun | .cutterLost | .agreementLost
  | .operatorHalt => 2

end Sys2Proof.Machine
end

