-- ==== Sys2Proof/Machine/Operands.lean ====
section
/-!
DEFINITION. The operands of requests and records as the owning rules check them: the ranges of Tables 1-2, 2-2, 3-3, 5-2, 6-2, 7-2 and
8-3 and the codes of R210. Each check turns fields into the value the block holds, or refuses them.
-/

namespace Sys2Proof.Machine

/-- A value lies in a range, both ends included. -/
def within (lo hi v : Nat) : Bool := decide (lo ≤ v) && decide (v ≤ hi)

/-- A lane number of a request; none beyond 7. -/
def laneOf (n : Nat) : Option LaneId := if h : n < 8 then some ⟨n, h⟩ else none

/-! ### Codes (R209, R210) -/

def breakActionOf : Nat → Option BreakAction
  | 0 => some .halt
  | 1 => some .mark
  | _ => none

def viewKindOf : Nat → Option ViewKind
  | 0 => some .bright
  | 1 => some .dark
  | 2 => some .oblique
  | _ => none

def optionOf : Nat → Option Bool
  | 0 => some false
  | 1 => some true
  | _ => none

def targetOf : Nat → Option Grade
  | 0 => some .a
  | 1 => some .b
  | 2 => some .c
  | _ => none

def classOf : Nat → Option FlawClass
  | 0 => some .bubble
  | 1 => some .stone
  | 2 => some .linear
  | 3 => some .surface
  | _ => none

def fallbackOf : Nat → Option Fallback
  | 0 => some .take
  | 1 => some .cull
  | _ => none

/-- Close mode NOW is false, AT CUT is true. -/
def closeModeOf : Nat → Option Bool := optionOf

/-! ### Table 1-2 (R4) -/

def lineGeometryOf (g : LineGeometryFields) : Option LineGeometry :=
  match breakActionOf g.breakAction with
  | none => none
  | some action =>
    if within 10000 400000 g.ppm && within 1 64 g.pitch && within 40000 400000 g.dgc && within 0 59000 g.xL &&
        within (g.xL + 1000) (g.xL + 36000) g.xR && within 0 60000 g.xR && within 50 1000 g.maxSpeed &&
        within 5 100 g.stallTime then
      some ⟨g.ppm, g.pitch, g.dgc, g.xL, g.xR, g.maxSpeed, g.stallTime, action⟩
    else none

/-! ### Table 2-2 and the columns of a lane (R18) -/

/-- The reported column count. -/
def LaneGeometry.reported (g : LaneGeometry) : Nat := if g.binning = 1 then g.columns else (g.columns + 1) / 2

/-- The first position of a column; the end of column c is the first position of column c + 1. -/
def LaneGeometry.columnStart (g : LaneGeometry) (c : Nat) : Nat := g.x0 + c * g.pitch * g.binning

/-- The lane's span. -/
def LaneGeometry.span (g : LaneGeometry) : Span := ⟨g.x0, g.columnStart g.reported⟩

def laneGeometryOf (g : LaneGeometryFields) : Option (LaneId × LaneGeometry) :=
  match laneOf g.lane with
  | none => none
  | some i =>
    let v : LaneGeometry := ⟨g.x0, g.pitch, g.columns, g.binning⟩
    if within 0 60000 g.x0 && within 1 4 g.pitch && within 1 4096 g.columns && within 1 2 g.binning &&
        decide (v.span.stop ≤ 60000) then some (i, v)
    else none

/-! ### Table 3-3 (R60) -/

def slotOf (s : SlotFields) : Option Slot :=
  match viewKindOf s.kind with
  | none => none
  | some k =>
    if within 5 999 s.threshold && within 0 4095 s.low && within 0 4095 s.high && decide (s.low ≤ s.high) then
      some ⟨k, s.threshold, s.low, s.high⟩
    else none

def detectionSetOf (d : DetectionFields) : Option DetectionSet :=
  match readAll slotOf d.slots with
  | none => none
  | some slots =>
    if within 1 5 slots.length && within 0 8 d.join && within 1 16 d.gap && within 2000 50000 d.maxLength &&
        within 2 16 d.aspect && within 5 999 d.stone then
      some ⟨slots, d.join, d.gap, d.maxLength, d.aspect, d.stone⟩
    else none

/-- The view kinds of a sequence. -/
def DetectionSet.holdsKind (d : DetectionSet) (k : ViewKind) : Bool := d.slots.any fun s => s.kind == k

/-- The slot of a line (R9, section 3.6): its number modulo the sequence length. -/
def DetectionSet.slotNumber (d : DetectionSet) (line : Nat) : Nat := line % d.slots.length

/-! ### Table 5-2 (R89) -/

/-- Strictly ascending positions, each strictly above `lo` and below `hi`. -/
def ascendingBetween (lo hi : Nat) : List Nat → Bool
  | [] => true
  | x :: xs => decide (lo < x) && decide (x < hi) && ascendingBetween x hi xs

def orderOf (geo : LineGeometry) (o : OrderFields) : Option Order :=
  match targetOf o.target, fallbackOf o.fallback with
  | some target, some fallback =>
    if within 1 65535 o.id && within 6000 60000 o.length && within 1 4 o.split && within 0 65535 o.quantity &&
        decide (o.positions.length + 1 = o.split) && ascendingBetween geo.xL geo.xR o.positions then
      some ⟨o.id, o.length, o.split, o.positions, o.quantity, target, fallback, .queued, 0, 0⟩
    else none
  | _, _ => none

/-! ### Table 6-2 (R104) -/

def cutParametersOk (p : CutParameters) : Bool :=
  within 500 20000 p.minCull && within p.minCull 30000 p.maxCull && within 0 500 p.clearance && within 0 20000 p.guard &&
    within 500 20000 p.overdue

/-! ### Tables 7-2 and 7-3 (R133) -/

/-- The identity of a row: for LIMIT its grade and class, otherwise its kind alone. -/
def rowIdentity : GradeRow → Nat × Nat × Nat
  | .limit g k _ _ _ _ => (0, g, k)
  | .floor _ _ _ _ => (1, 0, 0)
  | .general _ _ _ _ _ _ _ => (2, 0, 0)
  | .other kind => (3, kind, 0)

/-- A row's kind, grade and class exist and its values are in range. -/
def gradeRowOk : GradeRow → Bool
  | .limit g k es ec cs cc =>
    (targetOf g).isSome && (classOf k).isSome && within 0 65535 es && within 0 255 ec && within 0 65535 cs && within 0 255 cc
  | .floor b s l f => within 0 10000 b && within 0 10000 s && within 0 10000 l && within 0 10000 f
  | .general band blind a b c u x =>
    within 0 2000 band && within 0 1000 blind && within 0 15 a && within 0 15 b && within 0 15 c && within 0 15 u &&
      within 0 15 x
  | .other _ => false

def rowsDistinct : List GradeRow → Bool
  | [] => true
  | r :: rs => rs.all (fun q => rowIdentity q != rowIdentity r) && rowsDistinct rs

/-- R133: 1 to 14 rows, each in range, no two of one identity. -/
def gradeRowsOk (rows : List GradeRow) : Bool :=
  within 1 14 rows.length && rows.all gradeRowOk && rowsDistinct rows

/-- The limits of one of the grades A, B and C. -/
def GradeTable.limits (t : GradeTable) : Grade → PerClass ClassLimit
  | .a => t.limitA
  | .b => t.limitB
  | .c | .u | .x => t.limitC

def GradeTable.setLimit (t : GradeTable) (g : Grade) (k : FlawClass) (v : ClassLimit) : GradeTable :=
  match g with
  | .a => { t with limitA := t.limitA.modify (fun _ => v) k }
  | .b => { t with limitB := t.limitB.modify (fun _ => v) k }
  | .c | .u | .x => { t with limitC := t.limitC.modify (fun _ => v) k }

/-- One row written into a table (R133). -/
def writeGradeRow (t : GradeTable) : GradeRow → GradeTable
  | .limit g k es ec cs cc =>
    match targetOf g, classOf k with
    | some grade, some cls => t.setLimit grade cls ⟨⟨es, ec⟩, ⟨cs, cc⟩⟩
    | _, _ => t
  | .floor b s l f => { t with floors := ⟨b, s, l, f⟩ }
  | .general band blind a b c u x => { t with band := band, blindLimit := blind, dest := ⟨a, b, c, u, x⟩ }
  | .other _ => t

/-- Some destination of a table is at or above a destination count (R134, Table 8-4). -/
def GradeTable.destBeyond (t : GradeTable) (count : Nat) : Bool :=
  decide (count ≤ t.dest.a) || decide (count ≤ t.dest.b) || decide (count ≤ t.dest.c) || decide (count ≤ t.dest.u) ||
    decide (count ≤ t.dest.x)

/-! ### Table 8-3 (Table 8-4, reason RANGE) -/

def capabilityInRange (c : Capability) : Bool :=
  within 500 20000 c.spacing && within 20 5000 c.lead && within 50 1000 c.speed && within 1 4 c.across &&
    within 1 16 c.destinations

/-! ### Static masks (R39) -/

/-- At most 64 columns, none named twice, each below the reported column count. -/
def maskListOk (reported : Nat) (cols : List Nat) : Bool :=
  decide (cols.length ≤ Config.maskCapacity) && decide (distinct cols = cols) && cols.all fun c => decide (c < reported)

end Sys2Proof.Machine
end

