-- ==== Sys2Proof/Machine/Port.lean ====
section
/-!
DEFINITION. The Supervisor Port's own work (Chapter 11): replies, the checks every request passes (R197), the delayed-request list (R199), the
frame receiver's discards (R196), and the requests about the event set (R206, R207).
-/

namespace Sys2Proof.Machine

/-- What a command answers: every command of the table has a next state. -/
abbrev Outcome := Host.Outcome State Fault Refusal

/-- R198: one reply frame, with the request's kind and tag. -/
def sendReply (kind tag : Nat) (r : Result) (b : ReplyBody) (s : State) : State :=
  s.modOut fun o => { o with replies := o.replies ++ [⟨replyKind kind, tag, r, b⟩] }

def reply (k : Request) (tag : Nat) (r : Result) (b : ReplyBody) (s : State) : State := sendReply k.code tag r b s

/-- R204: a frame that completes while the part is held in reset, or after RESET is taken and before the full reset is
performed, is neither taken nor answered. -/
def State.deaf (s : State) : Bool := s.ctl.held || s.ctl.resetting

/-- R197 check 1. -/
def State.tagInUse (s : State) (tag : Nat) : Bool := s.port.delayed.any fun d => d.tag == tag

/-- How the owning rule answers a request that passed checks 1 to 4 of R197: a refusal, OK with its content, or
taken and delayed. -/
inductive Answer where
  | refuse (r : Result)
  | ok (s : State) (b : ReplyBody)
  | delay (s : State)

/-- The reply of an answer. A refused request has no effect (R197); a delayed one sends nothing yet (R199). The OK of a request goes out
after the replies that its own effects complete, such as a CLOSE SHIFT that a halt makes (DESIGN CHOICE, log 25). -/
def answer (k : Request) (tag : Nat) (s : State) : Answer → State
  | .refuse r => reply k tag r .empty s
  | .ok s' b => reply k tag .ok b s'
  | .delay s' => s'

/-- R197: the checks of a request in order, then its own rule. -/
def request {α : Type} (k : Request) (tag : Nat) (c : Content α) (body : α → State → Answer) (s : State) : State :=
  if s.deaf then s
  else if s.tagInUse tag then reply k tag .tagInUse .empty s
  else
    match c with
    | .wrongLength => reply k tag .badLength .empty s
    | .fields v => if takenIn k s.mode then answer k tag s (body v s) else reply k tag .wrongMode .empty s

/-- A request whose rule only reads: it answers OK with a content and changes no state. -/
def answerWith (b : ReplyBody) (s : State) : Answer := .ok s b

/-! ### Delayed requests (R199) -/

/-- The list holds 4 entries (R197 check 6). -/
def State.delayFull (s : State) : Bool := decide (Config.delayedCapacity ≤ s.port.delayed.length)

def addDelayed (k : Request) (tag : Nat) (s : State) : State :=
  s.modPort fun p => { p with delayed := p.delayed ++ [⟨k, tag⟩] }

/-- The delayed request of a kind is answered and leaves the list. Each of the three kinds has at most one entry. Once RESET has been
taken no further reply is sent before the full reset, so the entry stays and receives none (R198, R199, R204). -/
def answerDelayed (k : Request) (r : Result) (b : ReplyBody) (s : State) : State :=
  if s.ctl.resetting then s
  else
    match s.port.delayed.find? (fun d => d.kind == k) with
    | none => s
    | some d => reply k d.tag r b (s.modPort fun p => { p with delayed := p.delayed.filter fun d => d.kind != k })

/-! ### The frame receiver (R196, R197 check 2) -/

/-- R196: the frame is discarded, counted and not answered, and the receiver returns to HUNTING. -/
def discardFrame (s : State) : State :=
  if s.ctl.held then s
  else s.modPort fun p => { p with receiver := .hunting, discarded := satAdd Config.max16 p.discarded 1 }

/-- R196: a supervisor frame with a bad length or a failed frame check. -/
def execFrameDiscarded (s : State) : Outcome := .next (discardFrame s)

/-- R196: an incomplete supervisor frame and no byte for the time of 32 characters. -/
def execFrameTimeout (s : State) : Outcome := .next (discardFrame s)

/-- R197 checks 1 and 2: a good frame whose kind Table 11-9 does not hold, the reply bit included. A kind that it holds is
no such frame and changes nothing. -/
def unknownRequest (kind tag : Nat) (s : State) : State :=
  if s.deaf || (Request.ofCode kind).isSome then s
  else if s.tagInUse tag then sendReply kind tag .tagInUse .empty s
  else sendReply kind tag .unknownRequest .empty s

def execUnknownRequest (kind tag : Nat) (s : State) : Outcome := .next (unknownRequest kind tag s)

/-! ### The event set (R206, R207) -/

/-- R206. -/
def execReadEvents (tag : Nat) (c : Content Unit) (s : State) : Outcome :=
  .next (request .readEvents tag c (fun _ s => answerWith
    (.events s.port.events s.port.mask s.attn s.mode s.port.delayed s.port.discarded) s) s)

/-- R207. -/
def clearEvents (set : BitVec 16) (s : State) : State := s.modPort fun p => { p with events := p.events &&& ~~~set }

def execClearEvents (tag : Nat) (c : Content (BitVec 16)) (s : State) : Outcome :=
  .next (request .clearEvents tag c
    (fun set s => .ok (clearEvents set s) (.eventSet (clearEvents set s).port.events)) s)

/-- R207. -/
def execSetEventMask (tag : Nat) (c : Content (BitVec 16)) (s : State) : Outcome :=
  .next (request .setEventMask tag c (fun set s => .ok (s.modPort fun p => { p with mask := set }) .empty) s)

end Sys2Proof.Machine
end

