-- ==== Sys2Proof/Machine/Accounts.lean ====
section
/-!
DEFINITION. The Report Unit (Chapter 9): the shift accumulator and what is counted in it, the closing of shifts, the plate journal, and the
requests about them.
-/

namespace Sys2Proof.Machine

/-! ### Contributions (R171 to R175) -/

/-- Change the open shift. -/
def tally (g : Shift → Shift) (s : State) : State := s.modReport fun r => { r with shift := g r.shift }

/-- Counts saturate at 2^32 − 1, areas and the inspected length at 2^64 − 1 (Table 9-2). -/
def bump (n : Nat) : Nat := satAdd Config.max32 n 1
def addArea (a b : Nat) : Nat := satAdd Config.max64 a b

/-- R171: a Y increment in INSPECT, PRODUCE or DRAINING. -/
def Shift.inspect (h : Shift) : Shift := { h with inspected := satAdd Config.max64 h.inspected 1 }

/-- R175: one of the counts handed over by the Map Unit, the Planner, the Fault Unit and the Lane Units. -/
def Shift.flawRetired (k : FlawClass) (h : Shift) : Shift := { h with flaws := h.flaws.modify bump k }
def Shift.planForced (h : Shift) : Shift := { h with forced := bump h.forced }
def Shift.cutRejected (h : Shift) : Shift := { h with rejected := bump h.rejected }
def Shift.cutMissed (h : Shift) : Shift := { h with missed := bump h.missed }
def Shift.cutOverdue (h : Shift) : Shift := { h with overdue := bump h.overdue }
def Shift.class1Reported (h : Shift) : Shift := { h with class1 := bump h.class1 }
def Shift.laneFaulted (i : LaneId) (h : Shift) : Shift :=
  { h with laneFaults := h.laneFaults.set i.val (bump h.laneFaults[i.val]) }

/-- R175: a finished entry, by its outcome. -/
def Shift.orderFinished (o : OrderOutcome) (h : Shift) : Shift :=
  match o with
  | .complete => { h with complete := bump h.complete }
  | .short => { h with short := bump h.short }
  | .withdrawn => { h with withdrawn := bump h.withdrawn }

/-- The net width. -/
def State.netWidth (s : State) : Nat := s.geo.xR - s.geo.xL

/-- The length of a record. -/
def PlateRecord.length (r : PlateRecord) : Nat := r.yEnd - r.yStart

/-- R172: one piece of a PLATE of the given length. -/
def Shift.addPiece (length : Nat) (h : Shift) (p : Piece) : Shift :=
  { h with pieces := h.pieces.modify bump p.grade,
           areas := h.areas.modify (fun a => addArea a ((p.xEnd - p.xStart) * length)) p.grade }

/-- R172 and R173: one cull, or one joined chain, of the given length. -/
def Shift.addCull (netWidth length : Nat) (h : Shift) : Shift :=
  { h with cullCount := bump h.cullCount, cullArea := addArea h.cullArea (netWidth * length) }

/-- R172: a record that retires alone. -/
def Shift.addRecord (netWidth : Nat) (r : PlateRecord) (h : Shift) : Shift :=
  match r.kind with
  | .plate => r.pieces.foldl (Shift.addPiece r.length) { h with plates := h.plates.modify bump r.grade }
  | .cull => h.addCull netWidth r.length

/-- R174. -/
def Shift.addVoided (netWidth : Nat) (r : PlateRecord) (h : Shift) : Shift :=
  { h with voidCount := bump h.voidCount, voidArea := addArea h.voidArea (netWidth * r.length) }

/-! ### The journal (R180) -/

/-- The entry of a record; for a record of a joined chain with the chain's first plate id and joined length. -/
def journalEntry (r : PlateRecord) (chain : Option (Nat × Nat)) (shift : Nat) : JournalEntry where
  plate := r.id
  kind := r.kind
  order := r.order
  length := r.length
  version := r.version
  grade := r.grade
  pieceGrades := r.pieces.map Piece.grade
  forced := r.forced
  spilled := chain.isSome
  chainFirst := chain.map Prod.fst
  joined := chain.map Prod.snd
  shift := shift

def addJournal (r : PlateRecord) (chain : Option (Nat × Nat)) (s : State) : State :=
  raise .resultReady
    (s.modReport fun p => { p with journal := pushBounded Config.journalCapacity p.journal (journalEntry r chain p.shift.seq) })

/-! ### Closing a shift (R178) -/

/-- The first report with the lowest sequence number leaves. -/
def dropLowest (store : List Shift) : List Shift :=
  match least (store.map Shift.seq) with
  | none => []
  | some low => store.eraseP fun h => h.seq == low

/-- The store keeps at most 4 reports, the newest last; of a full one the lowest sequence number leaves (log 23). -/
def storeReport (r : Shift) (store : List Shift) : List Shift :=
  (if Config.storeCapacity ≤ store.length then dropLowest store else store) ++ [r]

/-- R178 steps 1 to 4. -/
def closeOpenShift (label : List Byte) (time : Nat) (s : State) : State :=
  raise .shiftClosed (s.modReport fun r =>
    { r with store := storeReport { r.shift with closeTime := some time, closeY := some s.pos.y } r.store,
             shift := Shift.opened (nextId r.shift.seq) label time s.pos.y })

/-- R177, R178 step 5: a pending close is made and answered with the number of the report it stored. -/
def makePendingClose (s : State) : State :=
  match s.report.pendingClose with
  | none => s
  | some p =>
    answerDelayed .closeShift .ok (.shiftSeq s.report.shift.seq)
      ((closeOpenShift p.label p.hostTime s).modReport fun r => { r with pendingClose := none })

/-- PENDING CLOSE as a step of its own (R177): CUT DONE, DRAIN COMPLETE and every entry to HALTED make the close themselves, so
what is left for it is a close found pending in a mode other than PRODUCE and DRAINING (log 8). -/
def pendingClose (s : State) : State := if s.ctl.held || s.mode.cutting then s else makePendingClose s

def execPendingClose (s : State) : Outcome := .next (pendingClose s)

/-! ### Requests -/

/-- R176, in the order label and mode, pending close, delay list. -/
def closeShiftBody (tag : Nat) (f : CloseFields) (s : State) : Answer :=
  match closeModeOf f.mode with
  | none => .refuse .badField
  | some atCut =>
    if 16 < f.label.length then .refuse .badField
    else if s.report.pendingClose.isSome then .refuse .stageBusy
    else if atCut && s.mode.cutting then
      if s.delayFull then .refuse .delayListFull
      else .delay (addDelayed .closeShift tag
        (s.modReport fun r => { r with pendingClose := some ⟨f.label, f.hostTime, tag⟩ }))
    else .ok (closeOpenShift f.label f.hostTime s) (.shiftSeq s.report.shift.seq)

def execCloseShift (tag : Nat) (c : Content CloseFields) (s : State) : Outcome :=
  .next (request .closeShift tag c (closeShiftBody tag) s)

/-- Areas are reported in dm², rounded down (Table 9-2). -/
def Shift.inDm2 (h : Shift) : Shift :=
  { h with areas := ⟨h.areas.a / Config.areaUnit, h.areas.b / Config.areaUnit, h.areas.c / Config.areaUnit,
                     h.areas.u / Config.areaUnit, h.areas.x / Config.areaUnit⟩,
           cullArea := h.cullArea / Config.areaUnit, voidArea := h.voidArea / Config.areaUnit }

/-- R179. -/
def execReadShift (tag : Nat) (c : Content Unit) (s : State) : Outcome :=
  .next (request .readShift tag c (fun _ s => answerWith
    (.shift s.report.shift.inDm2 (s.report.pendingClose.map fun p => (p.label, p.hostTime))) s) s)

/-- The report a READ SHIFT REPORT names: 0 is the newest (R179). -/
def findReport (seq : Nat) (store : List Shift) : Option Shift :=
  if seq = 0 then store.getLast? else store.find? fun h => h.seq == seq

/-- R179. -/
def execReadShiftReport (tag : Nat) (c : Content Nat) (s : State) : Outcome :=
  .next (request .readShiftReport tag c (fun seq s =>
    match findReport seq s.report.store with
    | none => .refuse .notFound
    | some h => answerWith (.shiftReport h.inDm2 (s.report.store.map Shift.seq)) s) s)

/-- R181. -/
def execReadJournal (tag : Nat) (c : Content Nat) (s : State) : Outcome :=
  .next (request .readJournal tag c (fun p s => answerWith
    (.journal s.report.journal.length (s.report.journal.head?.map JournalEntry.plate)
      (s.report.journal.getLast?.map JournalEntry.plate)
      ((s.report.journal.filter fun e => decide (p ≤ e.plate)).take Config.journalPage)) s) s)

end Sys2Proof.Machine
end

