-- ==== Sys2Proof/Machine/References.lean ====
section
/-!
DEFINITION. References to map entries and blind intervals (R81, R82) and their retirement past the cutter (R83).
-/

namespace Sys2Proof.Machine

/-- R81: a map entry meets a record's Y span. -/
def MapEntry.meets (yStart yEnd : Nat) (e : MapEntry) : Bool := decide (e.yFirst < yEnd) && decide (yStart ≤ e.yLast)

/-- R81: an interval meets a record's Y span; one that covers no ribbon meets none. -/
def Interval.meets (yStart yEnd : Nat) (b : Interval) : Bool :=
  decide (b.yStart < yEnd) &&
    match b.yEnd with
    | none => true
    | some e => decide (yStart < e) && decide (b.yStart < e)

/-- The ids a record over the span references, in map order and in list order. -/
def State.meetingFlaws (s : State) (yStart yEnd : Nat) : List Nat :=
  (s.map.entries.filter (MapEntry.meets yStart yEnd)).map MapEntry.id

def State.meetingBlind (s : State) (yStart yEnd : Nat) : List Nat :=
  (s.map.blind.filter (Interval.meets yStart yEnd)).map Interval.id

/-- R81: the reference counts of everything that meets the span increase by 1. -/
def takeReferences (yStart yEnd : Nat) (s : State) : State :=
  s.modMap fun m =>
    { m with entries := updateWhere (MapEntry.meets yStart yEnd) (fun e => { e with refs := e.refs + 1 }) m.entries,
             blind := updateWhere (Interval.meets yStart yEnd) (fun b => { b with refs := b.refs + 1 }) m.blind }

/-- R83: the map entry retires now. In PRODUCE the ribbon at and above y_prev is not yet planned. -/
def State.entryRetires (s : State) (e : MapEntry) : Bool :=
  decide (e.refs = 0) && decide (e.yLast + s.geo.dgc ≤ s.pos.y) &&
    (s.mode != .produce || decide (e.yLast < s.planner.yPrev))

/-- R83: the interval retires now. -/
def State.intervalRetires (s : State) (b : Interval) : Bool :=
  match b.yEnd with
  | none => false
  | some e =>
    decide (b.refs = 0) && decide (e + s.geo.dgc ≤ s.pos.y) && (s.mode != .produce || decide (e ≤ s.planner.yPrev))

/-- R76: a count of entries at which an open condition is to end; what closes until the line that ends it does not undo this (log 20). -/
def MapUnit.hasRoom (m : MapUnit) (count : Nat) : Bool :=
  m.room || (m.full.isSome && m.fullEnd.isNone && decide (count ≤ Config.mapHighMark))

/-- R83, R78: of the entries and intervals chosen, those that retire now leave; each retired flaw is counted by its class, in map
order, and a map of fewer than 896 entries has its high mark ARMED. R76: a map left with 896 or fewer has room. No test is made in IDLE. -/
def retireWhere (pe : MapEntry → Bool) (pb : Interval → Bool) (s : State) : State :=
  if s.mode = .idle then s
  else
    let gone := s.map.entries.filter fun e => pe e && s.entryRetires e
    let kept := s.map.entries.filter fun e => !(pe e && s.entryRetires e)
    gone.foldl (fun s e => tally (Shift.flawRetired e.cls) s)
      (s.modMap fun m =>
        { m with entries := kept, blind := m.blind.filter (fun b => !(pb b && s.intervalRetires b)),
                 highRaised := m.highRaised && decide (Config.mapHighMark ≤ kept.length), room := m.hasRoom kept.length })

/-- R82: a record's references are given back, and each named entry and interval whose count is now 0 is tested for
retirement. An id no longer held, or a count of 0, is passed over. -/
def releaseReferences (flaws blind : List Nat) (s : State) : State :=
  retireWhere (fun e => flaws.contains e.id) (fun b => blind.contains b.id)
    (s.modMap fun m =>
      { m with entries := updateWhere (fun e => flaws.contains e.id) (fun e => { e with refs := e.refs - 1 }) m.entries,
               blind := updateWhere (fun b => blind.contains b.id) (fun b => { b with refs := b.refs - 1 }) m.blind })

/-- MAP RETIREMENT (R83): the test a Y increment calls for, over the whole map and list. -/
def mapRetirement (s : State) : State :=
  if s.ctl.held || !s.map.testDue then s
  else (retireWhere (fun _ => true) (fun _ => true) s).modMap fun m => { m with testDue := false }

def execMapRetirement (s : State) : Outcome := .next (mapRetirement s)

end Sys2Proof.Machine
end

