-- ==== Sys2Proof/Machine/Triggers.lean ====
section
/-!
DEFINITION. The planning triggers (R108, R109) and the planning state that follows them (R106).
-/

namespace Sys2Proof.Machine

/-- The ACTIVE order, if there is one. -/
def State.activeOrder (s : State) : Option Order := s.orders.queue.find? fun o => o.state == .active

/-- Lp in a trigger: the plate length of the ACTIVE order, or 0 (section 6.3). -/
def State.plateLength (s : State) : Nat := (s.activeOrder.map Order.length).getD 0

/-- The window end W (R108). -/
def State.windowEnd (s : State) : Nat := s.planner.yPrev + s.planner.params.maxCull + s.plateLength

/-- R108. -/
def State.normalTrigger (s : State) : Bool := decide (s.windowEnd ≤ s.tracker.frontier)

/-- R109: the earliest cut a plan from y_prev can place. -/
def State.earliestCut (s : State) (a : Agreement) : Nat :=
  match s.activeOrder with
  | some o => s.planner.yPrev + min o.length a.cMin
  | none => s.planner.yPrev + s.planner.params.maxCull

/-- R109, with the lead distance of the agreement in force. -/
def State.forcedTrigger (s : State) : Bool :=
  match s.cutter.agreement with
  | none => false
  | some a => decide (s.earliestCut a + s.geo.dgc ≤ s.pos.y + a.lead + s.planner.params.guard)

/-- READY or WAITING FOR ROOM: the Planner tests its triggers (R106). -/
def PlanningState.testing : PlanningState → Bool
  | .ready | .waiting => true
  | .off | .draining => false

/-- R106: WAITING FOR ROOM while the normal trigger is met and the table holds 127 or 128 records, READY otherwise. The
test is made at each of the events of R106. -/
def testRoom (s : State) : State :=
  if s.planner.planning.testing then
    s.modPlanner fun p =>
      { p with planning := if s.normalTrigger && decide (Config.tableCapacity ≤ p.table.length + 1) then .waiting else .ready }
  else s

/-- A normal plan is due (R108): the trigger is met and two records have room. -/
def State.normalDue (s : State) : Bool :=
  s.planner.planning.testing && s.normalTrigger && decide (s.planner.table.length + 2 ≤ Config.tableCapacity)

/-- A forced plan is due (R109): its trigger is met, one record has room, and no normal plan is due. It is read from the state at any step,
right after a re-agreement with a longer lead too (DESIGN CHOICE, log 46). -/
def State.forcedDue (s : State) : Bool :=
  s.planner.planning.testing && s.forcedTrigger && decide (s.planner.table.length + 1 ≤ Config.tableCapacity) && !s.normalDue

/-- PLAN OVERRUN is due (R109): the forced trigger is met with 128 records held, at any step as for a forced plan (log 46). -/
def State.overrunDue (s : State) : Bool :=
  s.planner.planning.testing && s.forcedTrigger && decide (Config.tableCapacity ≤ s.planner.table.length)

end Sys2Proof.Machine
end

