-- ==== Sys2Proof/Machine/Orders.lean ====
section
/-!
DEFINITION. The Order Unit (Chapter 5): the fit checks, activation, the counts of good plates, finishing and withdrawal, and the requests about
orders.
-/

namespace Sys2Proof.Machine

def State.findOrder (s : State) (id : Nat) : Option Order := s.orders.queue.find? fun o => o.id == id

/-- Change the order with an id. -/
def modOrder (id : Nat) (g : Order → Order) (s : State) : State :=
  s.modOrders fun u => { u with queue := updateWhere (fun o => o.id == id) g u.queue }

/-- The records of an order in the plate table. A voided record leaves the table as it is voided (R128), so none is VOID. -/
def State.recordsOf (s : State) (id : Nat) : Nat :=
  (s.planner.table.filter fun r => r.order == some id && r.state != .void).length

/-- Checks 3 and 4 of R90 against the agreement in force; with the agreement NONE they are not made. -/
def State.fitCheck (s : State) (o : Order) : Option Result :=
  match s.cutter.agreement with
  | none => none
  | some a =>
    if o.length < a.cMin ∨ a.cap.across < o.split then some .notCuttable
    else if s.geo.dgc < o.length + s.planner.params.maxCull + a.lead + s.planner.params.guard then some .orderTooLong
    else none

/-! ### Finishing (R98) -/

/-- R98: SHORT if Q is above 0 and delivered good is below Q. -/
def Order.outcome (o : Order) : OrderOutcome :=
  if 0 < o.quantity ∧ o.delivered < o.quantity then .short else .complete

def outcomeEvent : OrderOutcome → Event
  | .complete | .short => .orderFinished
  | .withdrawn => .orderWithdrawn

/-- R98: the order leaves the queue, its entry joins the finished-order list and the open shift counts it. -/
def finishOrder (o : Order) (outcome : OrderOutcome) (s : State) : State :=
  raise (outcomeEvent outcome)
    (tally (Shift.orderFinished outcome)
      (s.modOrders fun u =>
        { u with queue := u.queue.filter (fun q => q.id != o.id),
                 finished := pushBounded Config.finishedCapacity u.finished
                   ⟨o.id, o.quantity, o.target, o.planned, o.delivered, outcome, s.report.shift.seq⟩ }))

/-- R98: an ENDING order with no record left in the plate table finishes. -/
def testFinish (id : Nat) (s : State) : State :=
  match s.findOrder id with
  | none => s
  | some o => if o.state = .ending ∧ s.recordsOf id = 0 then finishOrder o o.outcome s else s

/-- An order enters ENDING and is tested for finishing; the plate length of the triggers changes (R98, R106). -/
def endOrder (id : Nat) (s : State) : State :=
  testRoom (testFinish id (modOrder id (fun o => { o with state := .ending }) s))

/-- R91: a QUEUED order that fails a fit check. -/
def failQueued (o : Order) (s : State) : State :=
  if s.recordsOf o.id = 0 then finishOrder o .withdrawn s
  else raise .orderWithdrawn (modOrder o.id (fun q => { q with state := .ending }) s)

/-! ### Activation (R93) -/

/-- The oldest QUEUED order. -/
def State.oldestQueued (s : State) : Option Order := s.orders.queue.find? fun o => o.state == .queued

/-- R93: the order becomes ACTIVE; the exhausted mark becomes CLEAR. -/
def makeActive (o : Order) (s : State) : State :=
  testRoom (raise .orderActivated
    ((modOrder o.id (fun q => { q with state := .active }) s).modOrders fun u => { u with exhausted := false }))

/-- R93, at most `n` candidates: in PRODUCE with no order ACTIVE, the oldest QUEUED order is given the fit checks; one that
fails is treated as R91 states and the next is tried. An order that has its quantity already enters ENDING at once. -/
def activateUpTo : Nat → State → State
  | 0, s => s
  | n + 1, s =>
    if s.mode ≠ .produce ∨ s.activeOrder.isSome then s
    else
      match s.oldestQueued with
      | none => s
      | some o =>
        if (s.fitCheck o).isSome then activateUpTo n (failQueued o s)
        else if 0 < o.quantity ∧ o.quantity ≤ o.planned then activateUpTo n (endOrder o.id (makeActive o s))
        else makeActive o s

/-- R93. Every QUEUED order is tried at most once. -/
def activateNext (s : State) : State := activateUpTo s.orders.queue.length s

/-! ### Fit checks on a new agreement (R91) -/

def fitOrder (s : State) (id : Nat) : State :=
  match s.findOrder id with
  | none => s
  | some o =>
    if (s.fitCheck o).isNone then s
    else
      match o.state with
      | .queued => failQueued o s
      | .active => activateNext (endOrder id (raise .orderWithdrawn s))
      | .ending => s

/-- R91, in queue order. -/
def fitChecks (s : State) : State := (s.orders.queue.map Order.id).foldl fitOrder s

/-- R92: an order whose split positions the new net width does not hold is withdrawn, in queue order (DESIGN CHOICE, log 42). -/
def splitChecks (s : State) : State :=
  s.orders.queue.foldl (fun s o =>
    if o.positions.all fun x => decide (s.geo.xL < x) && decide (x < s.geo.xR) then s
    else finishOrder o .withdrawn s) s

/-! ### Counting (R95 to R97) -/

/-- R95: whether a committed plate of the order counts. -/
def Order.counts (o : Order) (g : Grade) : Bool := g.meetsTarget o.target

/-- R95: a counted plate adds to planned good; at Q the order enters ENDING and the next is activated. -/
def orderCommitted (id : Nat) (counted : Bool) (s : State) : State :=
  if counted then
    let s := modOrder id (fun o => { o with planned := satAdd Config.max32 o.planned 1 }) s
    match s.findOrder id with
    | none => s
    | some o => if 0 < o.quantity ∧ o.planned = o.quantity then activateNext (endOrder id s) else s
  else s

/-- R96: a counted record that is spilled, absorbed or voided stops counting. The caller clears its note. -/
def stopCounting (r : PlateRecord) (s : State) : State :=
  match r.order with
  | none => s
  | some id => if r.counted then modOrder id (fun o => { o with planned := o.planned - 1 }) s else s

/-- R97: a counted PLATE that retires alone is delivered. -/
def orderDelivered (r : PlateRecord) (s : State) : State :=
  match r.order with
  | none => s
  | some id =>
    if r.counted then modOrder id (fun o => { o with delivered := satAdd Config.max32 o.delivered 1 }) s else s

/-! ### Returns to QUEUED (R88, R100, R102) -/

/-- The orders in the given states return to QUEUED and move to the head, keeping their order among themselves. -/
def requeue (p : OrderState → Bool) (s : State) : State :=
  s.modOrders fun u =>
    { u with queue := (u.queue.filter fun o => p o.state).map (fun o => { o with state := .queued }) ++
        u.queue.filter fun o => !p o.state }

/-- R94: the ask of a plan that finds no ACTIVE order. -/
def ordersExhausted (s : State) : State :=
  if s.orders.exhausted then s else raise .ordersExhausted (s.modOrders fun u => { u with exhausted := true })

/-! ### Requests -/

/-- The state of an order after a request; none once it has left the queue. -/
def State.orderState (s : State) (id : Nat) : Option OrderState := (s.findOrder id).map Order.state

/-- R89, R90 in order. The reply gives ACTIVE if the load makes the order active, QUEUED otherwise. -/
def loadOrderBody (f : OrderFields) (s : State) : Answer :=
  if !s.pos.configured then .refuse .notConfigured
  else
    match orderOf s.geo f with
    | none => .refuse .badField
    | some o =>
      if Config.queueCapacity ≤ s.orders.queue.length then .refuse .queueFull
      else if (s.findOrder o.id).isSome then .refuse .duplicateId
      else
        match s.fitCheck o with
        | some r => .refuse r
        | none =>
          let s' := activateNext (s.modOrders fun u => { u with queue := u.queue ++ [o] })
          .ok s' (.loaded (if s'.activeOrder.any fun q => q.id == o.id then .active else .queued))

def execLoadOrder (tag : Nat) (c : Content OrderFields) (s : State) : Outcome :=
  .next (request .loadOrder tag c loadOrderBody s)

/-- R99, by the order's state. -/
def withdraw (o : Order) (s : State) : State :=
  match o.state with
  | .queued =>
    if s.recordsOf o.id = 0 then finishOrder o .withdrawn s else modOrder o.id (fun q => { q with state := .ending }) s
  | .active => activateNext (endOrder o.id s)
  | .ending => s

/-- R99: NOT FOUND, or OK with the order's state after the request; an order that has left the queue has none. -/
def withdrawOrderBody (id : Nat) (s : State) : Answer :=
  match s.findOrder id with
  | none => .refuse .notFound
  | some o => .ok (withdraw o s) (.orderState ((withdraw o s).orderState id))

def execWithdrawOrder (tag : Nat) (c : Content Nat) (s : State) : Outcome :=
  .next (request .withdrawOrder tag c withdrawOrderBody s)

/-- R101. -/
def execReadOrders (tag : Nat) (c : Content Unit) (s : State) : Outcome :=
  .next (request .readOrders tag c (fun _ s => answerWith
    (.orders (s.orders.queue.map fun o => (o, s.recordsOf o.id)) s.orders.finished s.orders.exhausted) s) s)

end Sys2Proof.Machine
end

