-- ==== Sys2Proof/Machine/Agreement.lean ====
section
/-!
DEFINITION. The records the part sends to the cutter (section 8.4) and the agreement: a capability assessed, agreed to or declined (section 8.2).
-/

namespace Sys2Proof.Machine

/-! ### Records sent (R161 to R164) -/

/-- R164: records go out in the order the unit is asked to send them. -/
def sendRecord (r : CutterRecord) (s : State) : State := s.modOut fun o => { o with cutter := o.cutter ++ [r] }

/-- R161: CUT, with the distance to go, 0 if negative, and the speed estimate. -/
def sendCut (id pos : Nat) (s : State) : State :=
  (sendRecord (.cut id pos (pos + s.geo.dgc - s.pos.y) s.pos.speed) s).modCutter
    fun c => { c with sentCut := satAdd Config.max32 c.sentCut 1 }

/-- R162. -/
def sendPlateResult (id : Nat) (kind : RecordKind) (length : Nat) (pieces : List ResultPiece) (s : State) : State :=
  (sendRecord (.plateResult id kind length pieces) s).modCutter
    fun c => { c with sentResult := satAdd Config.max32 c.sentResult 1 }

/-- R163. -/
def sendCutterHalt (s : State) : State :=
  (sendRecord .cutterHalt s).modCutter fun c => { c with sentHalt := satAdd Config.max32 c.sentHalt 1 }

/-! ### Assessing a capability (R154, Table 8-4) -/

/-- v_a, C_min and the lead distance computed from a capability and the settings. -/
def State.terms (s : State) (c : Capability) : Agreement :=
  let speed := min c.speed s.geo.maxSpeed
  ⟨c, speed, max s.planner.params.minCull c.spacing, ceilDiv (c.lead * speed) 100⟩

/-- The first condition of Table 8-4 that holds. -/
def State.declineReason (s : State) (ready : Bool) (c : Capability) : Option DeclineReason :=
  let t := s.terms c
  if !ready then some .notReady
  else if !capabilityInRange c then some .range
  else if s.planner.params.maxCull < t.cMin then some .minCull
  else if s.geo.dgc < t.cMin + t.lead + s.planner.params.guard then some .travel
  else if s.grader.active.destBeyond c.destinations then some .destinations
  else none

/-! ### AGREE and DECLINE -/

/-- R155, steps 1 to 4. -/
def agree (c : Capability) (s : State) : State :=
  let t := s.terms c
  testRoom (fitChecks (raise .agreementChanged
    (sendRecord (.agree t.speed t.cMin t.lead c.across c.destinations)
      (s.modCutter fun u => { u with agreement := some t, lastDecline := none }))))

/-- The agreement becomes NONE; AGREEMENT CHANGED is raised if it was AGREED (R156, R158, R169). -/
def dropAgreement (s : State) : State :=
  match s.cutter.agreement with
  | none => s
  | some _ => raise .agreementChanged (s.modCutter fun u => { u with agreement := none })

/-- The model's own (log 7): whether a Cutter Link Unit that has not yet taken the last change to HALTED still sees an agreement that the line
reset has taken away. An evaluation or a clearing of its own settles what it sees. -/
def setUnseenLoss (v : Bool) (s : State) : State :=
  s.modFault fun f => { f with before := f.before.map fun b => { b with unseenLoss := v } }

/-- R156, without the fault: DECLINE carries the computed values but for NOT READY and RANGE. -/
def decline (r : DeclineReason) (c : Capability) (s : State) : State :=
  let t := s.terms c
  let rec' : CutterRecord :=
    match r with
    | .notReady | .range => .decline r 0 0 0
    | .minCull | .travel | .destinations => .decline r t.speed t.cMin t.lead
  dropAgreement (sendRecord rec' (s.modCutter fun u => { u with lastDecline := some r }))

/-- R154: a capability is evaluated, with CUTTER READY at the given level. -/
def evaluate (ready : Bool) (c : Capability) (s : State) : State :=
  match s.declineReason ready c with
  | none => agree c s
  | some r => decline r c s

/-- R157: SET LINE GEOMETRY and SET CUT PARAMETERS evaluate the capability in force again. -/
def reassess (s : State) : State :=
  match s.cutter.agreement with
  | none => s
  | some a => evaluate true a.cap s

/-- R159: as the mode becomes IDLE, a held capability is evaluated and is held no longer. -/
def evaluateHeld (s : State) : State :=
  match s.cutter.held with
  | none => s
  | some c => evaluate s.cutter.ready c (s.modCutter fun u => { u with held := none })

/-! ### Requests and pins that report no fault -/

/-- R167. -/
def execReadCutter (tag : Nat) (c : Content Unit) (s : State) : Outcome :=
  .next (request .readCutter tag c (fun _ s => answerWith
    (.cutter s.cutter.ready s.cutter.agreement s.cutter.held s.cutter.lastDecline s.cutter.discarded s.cutter.sentCut
      s.cutter.sentResult s.cutter.sentHalt) s) s)

/-- R152: a frame with a bad body length or a failed frame check. -/
def execCutterFrameDiscarded (s : State) : Outcome :=
  .next (if s.ctl.held then s
         else s.modCutter fun c => { c with discarded := satAdd Config.max16 c.discarded 1 })

/-- R153. The input is followed while the part is held in reset too. -/
def execCutterReadyAsserted (s : State) : Outcome := .next (s.modCutter fun c => { c with ready := true })

end Sys2Proof.Machine
end

