-- ==== Sys2Proof/Machine/Faults.lean ====
section
/-!
DEFINITION. The Fault Unit (Chapter 10): reports of class 1 and class 2, the halt and what every block does on it, the line reset, and the
requests about the fault slot. Also what every block does on a return of the mode to IDLE, which STOP INSPECT shares.
-/

namespace Sys2Proof.Machine

/-! ### Reports and capture (R183) -/

/-- The items every report carries: the current Y and the last triggered line. -/
def State.here (s : State) : ReportItems := ⟨s.pos.y, s.pos.lastLine, none, none, none, none, none⟩

/-- The record of a report captured now. -/
def State.record (s : State) (k : FaultKind) (it : ReportItems) (displaced : Option Nat) : FaultRecord :=
  ⟨s.fault.nextNumber, k, it, s.mode, 0, displaced, none⟩

/-- R183: the slot takes a new record, the next fault number moves on and FAULT CAPTURED is raised. -/
def fillSlot (slot : FaultSlot) (s : State) : State :=
  raise .faultCaptured (s.modFault fun f => { f with slot := slot, nextNumber := nextNumber f.nextNumber })

/-- One more report counted as suppressed. -/
def FaultRecord.suppress (r : FaultRecord) : FaultRecord :=
  { r with suppressed := satAdd Config.maxSuppressed r.suppressed 1 }

def FaultSlot.suppress : FaultSlot → FaultSlot
  | .empty => .empty
  | .held r => .held r.suppress
  | .haltHeld r => .haltHeld r.suppress

/-- R184: a class 1 report. The open shift counts it whether it is captured or suppressed (R183). -/
def report1 (k : FaultKind) (it : ReportItems) (s : State) : State :=
  let s := tally Shift.class1Reported s
  match s.fault.slot with
  | .empty => fillSlot (.held (s.record k it none)) s
  | .held _ | .haltHeld _ => s.modFault fun f => { f with slot := f.slot.suppress }

/-! ### Entry to HALTED (R188, Table 10-4) -/

/-- R128: one record is voided, its references released, its order told, and the shift counts it. -/
def voidRecord (r : PlateRecord) (s : State) : State :=
  tally (Shift.addVoided s.netWidth r)
    (stopCounting r (releaseReferences r.flawRefs r.blindRefs
      (s.modPlanner fun p => { p with table := p.table.filter fun q => q.id != r.id })))

/-- R128: every record in ribbon order, then the head cut and the planning state. -/
def voidAll (s : State) : State :=
  (s.planner.table.foldl (fun s r => voidRecord r s) s).modPlanner
    fun p => { p with table := [], head := none, planning := .off }

/-- R185, R188: the mode becomes HALTED. The Planner voids its records, CUTTER HALT follows (R163), and a pending close is made
after the voiding (R177). -/
def halt (s : State) : State :=
  let before : BeforeHalt := ⟨s.mode, s.overrunDue, false⟩
  makePendingClose (sendCutterHalt (voidAll (setMode .halted (s.modFault fun f => { f with before := some before }))))

/-! ### Return to IDLE, by STOP INSPECT or the line reset -/

/-- R24, R46. -/
def Lane.toIdle (l : Lane) : Lane :=
  { l with state := .off, owned := none, rings := Rings.empty, limitRuns := Vector.replicate 5 0, expected := 0,
           lastProcessed := none, acceptance := 0, persistence := [], interval := none }

/-- R24: every lane enters OFF; LANE CHANGED for a lane that was in another state (R21). -/
def lanesToIdle (s : State) : State :=
  forLanes (fun i s => if (s.lane i).state = .off then s.modLane i Lane.toIdle else raise .laneChanged (s.modLane i Lane.toIdle)) s

/-- R54, R58, R69: open flaws and marks are discarded and K becomes 0. Any outgoing copy is released and a switch ends (R64). -/
def trackerToIdle (s : State) : State :=
  s.modTracker fun t =>
    { t with tables := Vector.replicate 8 FlawTable.empty, frontier := 0, outgoing := none, apply := .none }

/-- R86. -/
def mapToIdle (s : State) : State := s.modMap fun m => { MapUnit.initial with nextId := m.nextId }

/-- R131. -/
def plannerToIdle (s : State) : State := s.modPlanner fun p => { p with yPrev := 0, lastCut := none }

/-- The break marking ends with the return to IDLE (R15, R17). -/
def markingToIdle (s : State) : State := s.modPos fun p => { p with breakMarking := false }

/-- What the two returns to IDLE share. -/
def returnToIdle (s : State) : State :=
  plannerToIdle (mapToIdle (trackerToIdle (lanesToIdle (markingToIdle (setMode .idle s)))))

/-! ### The line reset (R193, Table 10-5) -/

/-- R64: a pending set is discarded and the staged flag is set again. -/
def cancelApply (s : State) : State :=
  match s.tracker.apply with
  | .waiting _ _ => s.modTracker fun t => { t with apply := .none, stagedFlag := true }
  | .none | .switched _ => s

/-- R189, R208: a pending STOP PRODUCTION and a pending APPLY DETECTION are answered CANCELLED, in order of arrival (log 25). As for
answerDelayed, nothing is answered once RESET has been taken. -/
def cancelDelayed (s : State) : State :=
  if s.ctl.resetting then s
  else
    let cancelled := s.port.delayed.filter fun d => d.kind == .stopProduction || d.kind == .applyDetection
    cancelled.foldl (fun s d => reply d.kind d.tag .cancelled .empty s)
      (s.modPort fun p => { p with delayed := p.delayed.filter fun d => !(d.kind == .stopProduction || d.kind == .applyDetection) })

/-- R102. -/
def ordersReset (s : State) : State :=
  (requeue (fun o => o != .queued) s).modOrders fun u => { u with exhausted := false }

/-- R169: the agreement is cleared. A unit that holds a capability has taken the change to HALTED; any other may not yet have heard (log 7). -/
def clearAgreement (s : State) : State :=
  dropAgreement (setUnseenLoss (s.cutter.agreement.isSome && s.cutter.held.isNone) s)

/-- R193. A held capability is evaluated once the agreement is cleared and the mode is IDLE (R159, R169). -/
def lineReset (s : State) : State :=
  evaluateHeld (clearAgreement (cancelDelayed (ordersReset (returnToIdle (cancelApply s)))))

/-! ### Class 2 reports (R185 to R187) -/

/-- The number of the record a capture displaces. -/
def FaultSlot.number : FaultSlot → Option Nat
  | .empty => none
  | .held r | .haltHeld r => some r.number

/-- R185: captured, and the line halts. -/
def captureHalt (k : FaultKind) (it : ReportItems) (s : State) : State :=
  halt (fillSlot (.haltHeld (s.record k it s.fault.slot.number)) s)

/-- R186: the second kind is written, the line reset performed and the record kept. -/
def escalate (k : FaultKind) (r : FaultRecord) (s : State) : State :=
  (lineReset (raise .faultCaptured s)).modFault fun f => { f with slot := .held { r with second := some k } }

/-- R187: in IDLE there is no line to halt. -/
def reportIdle (k : FaultKind) (it : ReportItems) (s : State) : State :=
  match s.fault.slot with
  | .empty => fillSlot (.held (s.record k it none)) s
  | .held _ | .haltHeld _ => s.modFault fun f => { f with slot := f.slot.suppress }

/-- A class 2 report, by the slot and the mode. -/
def report2 (k : FaultKind) (it : ReportItems) (s : State) : State :=
  match s.fault.slot with
  | .haltHeld r => escalate k r s
  | .empty | .held _ => if s.mode.scanning then captureHalt k it s else reportIdle k it s

/-! ### Requests -/

/-- R190: the reply carries the number of the OPERATOR HALT record. A pending close that the halt makes is answered before it (log 25). -/
def execHaltLine (tag : Nat) (c : Content Unit) (s : State) : Outcome :=
  .next (request .haltLine tag c
    (fun _ s => .ok (report2 .operatorHalt s.here s) (.faultNumber s.fault.nextNumber)) s)

/-- R191. -/
def execReadFault (tag : Nat) (c : Content Unit) (s : State) : Outcome :=
  .next (request .readFault tag c (fun _ s => answerWith (.fault s.fault.slot s.fault.nextNumber) s) s)

/-- The slot is emptied and its record discarded. -/
def emptySlot (s : State) : State := s.modFault fun f => { f with slot := .empty }

/-- R192. -/
def clearFaultBody (number : Nat) (s : State) : Answer :=
  match s.fault.slot with
  | .empty => .refuse .faultMismatch
  | .held r => if r.number = number then .ok (emptySlot s) .empty else .refuse .faultMismatch
  | .haltHeld r => if r.number = number then .ok (emptySlot (lineReset s)) .empty else .refuse .faultMismatch

def execClearFault (tag : Nat) (c : Content Nat) (s : State) : Outcome :=
  .next (request .clearFault tag c clearFaultBody s)

end Sys2Proof.Machine
end

