-- ==== Sys2Proof/Machine/BlindList.lean ====
section
/-!
DEFINITION. The blind list (sections 4.3, 4.4): intervals opened, changed and closed, the ALL interval that the break marking and the map-full
condition share, the end of the map-full condition, and READ BLIND.
-/

namespace Sys2Proof.Machine

/-! ### Intervals (R79, R80) -/

/-- A new interval finds no place (R80). -/
def State.blindFull (s : State) : Bool := decide (Config.blindCapacity ≤ s.map.blind.length)

/-- R79: the interval takes the next interval id and its place in list order, and BLIND OPENED is raised. -/
def enterInterval (reason : BlindReason) (lane : Option LaneId) (xStart xEnd yStart : Nat) (s : State) : State :=
  raise .blindOpened (s.modMap fun m =>
    { m with blind := insertByKey Interval.yStart ⟨m.nextId, reason, lane, xStart, xEnd, yStart, none, 0⟩ m.blind,
             nextId := nextId m.nextId })

/-- R80: with 64 held the interval is not entered and BLIND LIST FULL is reported. -/
def openInterval (reason : BlindReason) (lane : Option LaneId) (xStart xEnd yStart : Nat) (s : State) : State :=
  if s.blindFull then report2 .blindListFull { s.here with lane := lane } s
  else enterInterval reason lane xStart xEnd yStart s

/-- Change the interval with an id. -/
def modInterval (id : Nat) (g : Interval → Interval) (s : State) : State :=
  s.modMap fun m => { m with blind := updateWhere (fun b => b.id == id) g m.blind }

/-- R79: a new reason for an open interval. -/
def changeReason (id : Nat) (reason : BlindReason) (s : State) : State := modInterval id (fun b => { b with reason := reason }) s

/-- R79: the Y end of an interval becomes fixed. -/
def closeInterval (id yEnd : Nat) (s : State) : State := modInterval id (fun b => { b with yEnd := some yEnd }) s

/-! ### The ALL interval (R77) -/

/-- The open ALL interval. -/
def State.openAll (s : State) : Option Interval := s.map.blind.find? fun b => b.lane.isNone && b.yEnd.isNone

/-- The larger of a label and a recorded label. -/
def maxLabel (label : Nat) (recorded : Option Nat) : Nat := max label (recorded.getD 0)

/-- R77: the ALL interval closes and both recorded labels become none. With no interval nothing closes (R80) and the labels stay. -/
def closeAll (label : Nat) (s : State) : State :=
  match s.openAll with
  | none => s
  | some b => (closeInterval b.id label s).modMap fun m => { m with fullLabel := none, breakLabel := none }

/-- R14, R77: the break marking opens, with an ALL interval from a label unless one is open. BREAK is raised. -/
def openMarking (label : Nat) (s : State) : State :=
  let s := raise .breakEvent (s.modPos fun p => { p with breakMarking := true })
  match s.openAll with
  | some b => changeReason b.id .breakReason s
  | none => openInterval .breakReason none s.geo.xL s.geo.xR label s

/-- The ALL interval, if one is open, takes a reason. -/
def renameAll (reason : BlindReason) (s : State) : State :=
  match s.openAll with
  | none => s
  | some b => changeReason b.id reason s

/-- R15, R77: the break marking closes. Its closing label is recorded; the ALL interval stays open for a map-full condition, else it
closes at the larger of the two labels. -/
def closeMarking (label : Nat) (s : State) : State :=
  let s := raise .breakEvent ((s.modPos fun p => { p with breakMarking := false }).modMap fun m => { m with breakLabel := some label })
  if s.map.full.isSome then renameAll .mapFull s else closeAll (maxLabel label s.map.fullLabel) s

/-! ### The end of the map-full condition (R76) -/

/-- R76: a line at which an open condition ends, the count having fallen to 896 before it. The first such line counts (log 20). -/
def noteMapFullEnd (line : Nat) (s : State) : State :=
  if s.map.full.isSome && s.map.fullEnd.isNone && s.map.room then
    s.modMap fun m => { m with fullEnd := some line, room := false }
  else s

/-- R76, R77: the condition ends at the noted line. Its closing label is recorded, or the larger if one is held (log 33); the
ALL interval stays open for a break marking, else it closes at the larger of this label and the break's. -/
def mapFullEnd (s : State) : State :=
  if s.ctl.held then s
  else
    match s.map.fullEnd, s.map.full with
    | some line, some top =>
      let label := max ((line + 1) * s.geo.pitch) top
      let s := s.modMap fun m =>
        { m with full := none, fullEnd := none, room := false, fullLabel := some (maxLabel label m.fullLabel) }
      if s.pos.breakMarking then s else closeAll (maxLabel label s.map.breakLabel) s
    | _, _ => s

def execMapFullEnd (s : State) : Outcome := .next (mapFullEnd s)

/-! ### READ BLIND (R85) -/

def readBlindBody (q : PageQuery) (s : State) : Answer :=
  let content (bs : Found Interval) : Answer :=
    .ok s (.blind bs s.map.blind.length s.map.nextId (s.openAll.map Interval.id) s.map.fullLabel s.map.breakLabel
      (allLanes.map fun i => (s.lane i).interval))
  match q with
  | .bySkip k => if 63 < k then .refuse .badField else content (.page none ((s.map.blind.drop k).take Config.mapPage))
  | .byId id =>
    match s.map.blind.find? fun b => b.id == id with
    | none => .refuse .notFound
    | some b => content (.one b)

def execReadBlind (tag : Nat) (c : Content PageQuery) (s : State) : Outcome :=
  .next (request .readBlind tag c readBlindBody s)

end Sys2Proof.Machine
end

