-- ==== Sys2Proof/Machine/FlawMap.lean ====
section
/-!
DEFINITION. The flaw map (sections 4.1 to 4.3): insertion of a closed flaw with its seam check, the high mark, the map-full condition, and
READ FLAWS.
-/

namespace Sys2Proof.Machine

/-! ### The hull -/

def MapEntry.along (e : MapEntry) : Nat := e.yLast - e.yFirst + 1
def MapEntry.across (e : MapEntry) : Nat := e.xLast - e.xFirst + 1

/-- The larger extent. -/
def MapEntry.hullSize (e : MapEntry) : Nat := max e.along e.across

/-- R57 test 2, R73: the longer extent is at least the aspect times the shorter. -/
def elongated (aspect a b : Nat) : Bool := decide (aspect * min a b ≤ max a b)

/-! ### Neighbours and overlaps (R19) -/

/-- The configured lanes in order of origin, then of lane number. -/
def State.laneOrder (s : State) : List LaneId :=
  sortByKey (fun i => (s.lane i).geometry.x0) (allLanes.filter fun i => (s.lane i).configured)

/-- Each element with the one after it. -/
def adjacent {α : Type} (xs : List α) : List (α × α) := xs.zip (xs.drop 1)

/-- The overlap of two neighbours, left and right: from the right lane's origin to the left lane's end. -/
structure Overlap where
  left : LaneId
  right : LaneId
  span : Span
  deriving DecidableEq, Repr

/-- The overlaps of the neighbours that overlap. -/
def State.overlaps (s : State) : List Overlap :=
  ((adjacent s.laneOrder).map fun p =>
    (⟨p.1, p.2, ⟨(s.lane p.2).geometry.x0, (s.lane p.1).geometry.span.stop⟩⟩ : Overlap)).filter
      fun o => decide (o.span.start < o.span.stop)

/-- The neighbour of a lane at an overlap. -/
def Overlap.other (o : Overlap) (i : LaneId) : Option LaneId :=
  if o.left = i then some o.right else if o.right = i then some o.left else none

/-- R72: the neighbours whose overlap with the lane a hull meets. -/
def State.seamNeighbours (s : State) (i : LaneId) (e : MapEntry) : List LaneId :=
  (s.overlaps.filter fun o => decide (e.xFirst < o.span.stop) && decide (o.span.start ≤ e.xLast)).filterMap fun o => o.other i

/-! ### The seam check (R72 to R74) -/

/-- A hull widened across by `w` and along by `v` on each side meets another hull. -/
def MapEntry.touches (w v : Nat) (c e : MapEntry) : Bool :=
  decide (c.xFirst ≤ e.xLast + w) && decide (e.xFirst ≤ c.xLast + w) && decide (c.yFirst ≤ e.yLast + v) &&
    decide (e.yFirst ≤ c.yLast + v)

/-- The width of a lane's column. -/
def LaneGeometry.columnWidth (g : LaneGeometry) : Nat := g.pitch * g.binning

/-- R72: an entry is a candidate that touches the flaw closed by lane `i`. An entry that holds both neighbours of the lane touches it
with the width of either (DESIGN CHOICE, log 40). -/
def State.seamCandidate (s : State) (set : DetectionSet) (i : LaneId) (e c : MapEntry) : Bool :=
  (s.seamNeighbours i e).any fun j =>
    c.lanes.contains j &&
      c.touches (set.join * max (s.lane i).geometry.columnWidth (s.lane j).geometry.columnWidth) (set.gap * s.geo.pitch) e

def FlawFlags.union (a b : FlawFlags) : FlawFlags where
  continued := a.continued || b.continued
  truncated := a.truncated || b.truncated
  seam := a.seam || b.seam
  columnSuspect := a.columnSuspect || b.columnSuspect
  saturated := a.saturated || b.saturated
  merged := a.merged || b.merged

/-- R73: the class of a merged entry. -/
def mergedClass (aspect : Nat) (e : MapEntry) (a b : FlawClass) : FlawClass :=
  if e.flags.columnSuspect then .linear
  else if e.views.onlyOblique then .surface
  else if elongated aspect e.along e.across then .linear
  else if a = .stone ∨ b = .stone then .stone
  else .bubble

/-- R73: the union of two entries. -/
def mergeEntries (aspect : Nat) (a b : MapEntry) : MapEntry :=
  let low := if a.id ≤ b.id then a else b
  let high := if a.id ≤ b.id then b else a
  let e : MapEntry :=
    { id := low.id, lanes := uniteLanes a.lanes b.lanes, yFirst := min a.yFirst b.yFirst, yLast := max a.yLast b.yLast,
      xFirst := min a.xFirst b.xFirst, xLast := max a.xLast b.xLast, cls := a.cls, size := 0, peak := max a.peak b.peak,
      views := a.views.union b.views, flags := { a.flags.union b.flags with merged := true },
      pred := low.pred.orElse fun _ => high.pred, refs := 0 }
  { e with size := e.hullSize, cls := mergedClass aspect e a.cls b.cls }

/-! ### Insertion (R70, R71, R75, R78) -/

/-- R70: an entry is placed after every entry with the same Y_first. -/
def placeEntry (e : MapEntry) (m : MapUnit) : MapUnit := { m with entries := insertByKey MapEntry.yFirst e m.entries }

/-- R78: an insertion that brings the map to 896 entries with the high mark ARMED. -/
def noteHigh (s : State) : State :=
  if s.map.entries.length = Config.mapHighMark ∧ s.map.highRaised = false then
    raise .mapHigh (s.modMap fun m => { m with highRaised := true })
  else s

/-- How many interval ids have been given since a held one, itself counted. Ids continue from 1 after 4,294,967,295 (R79). -/
def MapUnit.age (m : MapUnit) (id : Nat) : Nat := if id < m.nextId then m.nextId - id else m.nextId + Config.max32 - id

/-- The closed ALL intervals in the list, the latest opened first. One ALL interval is open at a time (R77), so the latest opened is
the latest closed (log 14). -/
def State.closedAll (s : State) : List Interval :=
  sortByKey (fun b => s.map.age b.id) (s.map.blind.filter fun b => b.lane.isNone && b.yEnd.isSome)

/-- The Y end of the most recently closed ALL interval still in the list (R75; log 14). -/
def State.lastAllEnd (s : State) : Nat := (s.closedAll.head?.bind Interval.yEnd).getD 0

/-- R75: the ALL interval is provided from the lower bound `b`. -/
def coverRefused (b : Nat) (s : State) : State :=
  match s.openAll with
  | none => openInterval .mapFull none s.geo.xL s.geo.xR b s
  | some o =>
    if b < o.yStart then
      s.modMap fun m =>
        { m with blind := insertByKey Interval.yStart { o with yStart := b } (m.blind.filter fun q => q.id != o.id) }
    else s

/-- R75: a closed flaw refused by a full map. -/
def refuseFlaw (e : MapEntry) (s : State) : State :=
  let top := max (e.yLast + 1) (s.map.full.getD 0)
  coverRefused (max e.yFirst s.lastAllEnd)
    (s.modMap fun m => { m with refused := satAdd Config.max16 m.refused 1, full := some top, fullEnd := none })

/-- R71: a closed flaw becomes a new entry, or is refused with 1,024 held. -/
def insertAlone (e : MapEntry) (s : State) : State :=
  if s.map.entries.length < Config.mapCapacity then noteHigh (s.modMap (placeEntry e)) else refuseFlaw e s

/-- R71: the Map Unit takes the flaw that lane `i` closed; `set` is in force for the line of the close. -/
def mapInsert (set : DetectionSet) (i : LaneId) (e : MapEntry) (s : State) : State :=
  match s.map.entries.find? (s.seamCandidate set i e) with
  | none => insertAlone e s
  | some c =>
    if c.refs = 0 then
      s.modMap fun m => placeEntry (mergeEntries set.aspect c e) { m with entries := m.entries.filter fun q => q.id != c.id }
    else insertAlone { e with flags := { e.flags with seam := true } } s

/-! ### READ FLAWS (R84) -/

def readFlawsBody (q : FlawQuery) (s : State) : Answer :=
  let content (es : Found MapEntry) : Answer :=
    .ok s (.flaws es s.map.entries.length s.map.highRaised s.map.refused s.map.full)
  match q with
  | .byId id =>
    match s.map.entries.find? fun e => e.id == id with
    | none => .refuse .notFound
    | some e => content (.one e)
  | .byLabel y k =>
    if 1023 < k then .refuse .badField
    else
      let es := s.map.entries.filter fun e => decide (y ≤ e.yFirst)
      content (.page (some es.length) ((es.drop k).take Config.mapPage))

def execReadFlaws (tag : Nat) (c : Content FlawQuery) (s : State) : Outcome :=
  .next (request .readFlaws tag c readFlawsBody s)

end Sys2Proof.Machine
end

