-- ==== Sys2Proof/Machine/Tracker.lean ====
section
/-!
DEFINITION. The Flaw Tracker (Chapter 3): the set in force for a line, the known frontier K, the closing of flaws, runs that match, join, merge
and start flaws, the work for a line, and the requests about detection sets and open flaws.
-/

namespace Sys2Proof.Machine

/-! ### The set in force (R62, R63) -/

/-- The detection set in force for a line. From the trigger of the switch line on, with the mode not HALTED, the pending set is in
force for that line and later ones even while the switch itself still waits its turn. -/
def State.setFor (s : State) (line : Nat) : Option DetectionSet :=
  match s.tracker.apply with
  | .none => s.tracker.active
  | .waiting set l => if l ≤ line ∧ s.mode ≠ .halted then some set else s.tracker.active
  | .switched l => if line < l then s.tracker.outgoing else s.tracker.active

/-! ### The known frontier (R58) -/

/-- The terms of the minimum. -/
def State.frontierTerms (s : State) : List Nat :=
  ((allLanes.filter fun i => (s.lane i).state.following).map fun i =>
      match (s.lane i).lastProcessed with
      | none => 0
      | some h => (h + 1) * s.geo.pitch) ++
    allLanes.flatMap fun i => (s.table i).flaws.map fun f => f.firstLine * s.geo.pitch

/-- The computed value. -/
def State.computedFrontier (s : State) : Nat := (least s.frontierTerms).getD s.nextLineLabel

/-- R58: K is recomputed, raised if the computed value is greater, and an increase offered to the Planner (R106). Not in HALTED; in
IDLE it stays 0. -/
def recomputeK (s : State) : State :=
  if s.mode.scanning && decide (s.tracker.frontier < s.computedFrontier) then
    testRoom (s.modTracker fun t => { t with frontier := s.computedFrontier })
  else s

/-! ### Closing flaws (R54 to R57) -/

/-- Why a flaw closes. -/
inductive CloseCause where
  | gap | length | truncated | suspect
  deriving DecidableEq, Repr

/-- R57. -/
def classify (set : DetectionSet) (f : OpenFlaw) (along across : Nat) : FlawClass :=
  if f.views.onlyOblique then .surface
  else if elongated set.aspect along across then .linear
  else if f.darkInBright ∧ set.stone ≤ f.peak then .stone
  else .bubble

/-- R56: the closed flaw that lane `i` hands over. -/
def State.closedFlaw (s : State) (set : DetectionSet) (i : LaneId) (cause : CloseCause) (f : OpenFlaw) : MapEntry :=
  let g := (s.lane i).geometry
  let along := (f.lastLine + 1 - f.firstLine) * s.geo.pitch
  let across := g.columnStart (f.lastCol + 1) - g.columnStart f.firstCol
  { id := f.id, lanes := [i], yFirst := f.firstLine * s.geo.pitch, yLast := (f.lastLine + 1) * s.geo.pitch - 1,
    xFirst := g.columnStart f.firstCol, xLast := g.columnStart (f.lastCol + 1) - 1,
    cls := if cause = .suspect then .linear else classify set f along across,
    size := max along across, peak := f.peak, views := f.views,
    flags := ⟨cause = .length, cause = .truncated, false, cause = .suspect, f.saturated, false⟩,
    pred := f.pred, refs := 0 }

/-- R56, R71: the flaw leaves its table as it is handed over, and K is recomputed after the hand-over. A halt stops what is left of
the work (log 9). -/
def closeFlaw (set : DetectionSet) (i : LaneId) (cause : CloseCause) (s : State) (f : OpenFlaw) : State :=
  if s.mode = .halted then s
  else
    recomputeK (mapInsert set i (s.closedFlaw set i cause f)
      (s.modTable i fun t => { t with flaws := t.flaws.filter fun q => q.id != f.id }))

/-- Close every open flaw of a lane that satisfies a test, in ascending flaw id. -/
def closeWhere (set : DetectionSet) (i : LaneId) (cause : CloseCause) (p : OpenFlaw → Bool) (s : State) : State :=
  ((s.table i).flaws.filter p).foldl (closeFlaw set i cause) s

/-- Remove the marks of a lane that satisfy a test. -/
def dropMarks (i : LaneId) (p : Mark → Bool) (s : State) : State :=
  if s.mode = .halted then s else s.modTable i fun t => { t with marks := t.marks.filter fun m => !p m }

/-- R54: a lane that left ACTIVE or CROWDED has its flaws closed as TRUNCATED and its marks removed. The set is that of the lane's
last processed line, or of the last triggered line (R57). -/
def truncateLane (i : LaneId) (s : State) : State :=
  match s.setFor (((s.lane i).lastProcessed.orElse fun _ => s.pos.lastLine).getD 0) with
  | none => s
  | some set => dropMarks i (fun _ => true) (closeWhere set i .truncated (fun _ => true) s)

/-- R55: the flaws and marks of a lane whose last-seen range holds a newly masked column, on line `n`. -/
def closeSuspects (n : Nat) (i : LaneId) (c : Nat) (s : State) : State :=
  match s.setFor n with
  | none => s
  | some set =>
    dropMarks i (fun m => within m.seenFirst m.seenLast c)
      (closeWhere set i .suspect (fun f => within f.seenFirst f.seenLast c) s)

/-! ### Runs (R47 to R50, R53) -/

/-- A kept run as its lane hands it over (R34). -/
structure KeptRun where
  line : Nat
  first : Nat
  last : Nat
  contrast : Nat
  polarity : Polarity
  kind : ViewKind
  saturated : Bool
  deriving DecidableEq, Repr

/-- R47: a last-seen range and last line against a run. -/
def KeptRun.matchesRange (r : KeptRun) (set : DetectionSet) (seenFirst seenLast lastLine : Nat) : Bool :=
  decide (r.first ≤ seenLast + set.join) && decide (seenFirst ≤ r.last + set.join) && decide (r.line ≤ lastLine + set.gap)

def KeptRun.matchesFlaw (r : KeptRun) (set : DetectionSet) (f : OpenFlaw) : Bool :=
  r.matchesRange set f.seenFirst f.seenLast f.lastLine

def KeptRun.matchesMark (r : KeptRun) (set : DetectionSet) (m : Mark) : Bool :=
  r.matchesRange set m.seenFirst m.seenLast m.lastLine

/-- The run is DARK on a BRIGHT view (R48). -/
def KeptRun.darkInBright (r : KeptRun) : Bool := r.polarity == .dark && r.kind == .bright

/-- R48: a run joins a flaw. `pred` is the lowest mark the run also matched. -/
def OpenFlaw.join (r : KeptRun) (pred : Option Nat) (f : OpenFlaw) : OpenFlaw :=
  let newLine := decide (f.lastLine < r.line)
  { f with lastLine := max f.lastLine r.line,
           seenFirst := if newLine then r.first else min f.seenFirst r.first,
           seenLast := if newLine then r.last else max f.seenLast r.last,
           firstCol := min f.firstCol r.first, lastCol := max f.lastCol r.last,
           peak := max f.peak r.contrast, views := f.views.add r.kind,
           darkInBright := f.darkInBright || r.darkInBright, saturated := f.saturated || r.saturated,
           pred := f.pred.orElse fun _ => pred }

/-- R49: one more merging flaw is taken into the survivor. Only ranges seen on line `n` join the last-seen range; a range of an
earlier line is left to the run's join to replace. -/
def OpenFlaw.absorb (n : Nat) (f g : OpenFlaw) : OpenFlaw :=
  { f with firstLine := min f.firstLine g.firstLine, lastLine := max f.lastLine g.lastLine,
           firstCol := min f.firstCol g.firstCol, lastCol := max f.lastCol g.lastCol,
           seenFirst := if g.lastLine < n then f.seenFirst else if f.lastLine < n then g.seenFirst else min f.seenFirst g.seenFirst,
           seenLast := if g.lastLine < n then f.seenLast else if f.lastLine < n then g.seenLast else max f.seenLast g.seenLast,
           peak := max f.peak g.peak, views := f.views.union g.views,
           darkInBright := f.darkInBright || g.darkInBright, saturated := f.saturated || g.saturated }

/-- R49: the survivor of the flaws `others` and `f`, of which `f` has the lowest id. -/
def OpenFlaw.survive (n : Nat) (f : OpenFlaw) (others : List OpenFlaw) : OpenFlaw :=
  { others.foldl (OpenFlaw.absorb n) f with pred := f.pred.orElse fun _ => least (others.filterMap OpenFlaw.pred) }

/-- R50, R53: a new flaw of a run. -/
def KeptRun.start (r : KeptRun) (id : Nat) (pred : Option Nat) : OpenFlaw :=
  ⟨id, r.line, r.line, r.first, r.last, r.first, r.last, r.contrast, Views.none.add r.kind, r.darkInBright, r.saturated, pred⟩

/-- R48, R49: a run that matches the flaws `hits` of a table joins the one, or the survivor, with the lowest id. -/
def joinTable (r : KeptRun) (low : Nat) (hits : List OpenFlaw) (pred : Option Nat) (flaws : List OpenFlaw) : List OpenFlaw :=
  let others := hits.filter fun f => f.id != low
  updateWhere (fun f => f.id == low) (fun f => (f.survive r.line others).join r pred)
    (flaws.filter fun f => !(others.any fun g => g.id == f.id))

/-- R47: what a kept run does to its lane's table and marks. The second part says that the run was dropped because it would have
started a flaw (R35, R50, R53). A mark the run matched is removed in each case (log 13). -/
def handRun (set : DetectionSet) (i : LaneId) (r : KeptRun) (s : State) : State × Bool :=
  let t := s.table i
  let hits := t.flaws.filter (r.matchesFlaw set)
  let marks := t.marks.filter fun m => !r.matchesMark set m
  let pred := least ((t.marks.filter (r.matchesMark set)).map Mark.id)
  match least (hits.map OpenFlaw.id) with
  | some low => (s.modTable i fun t => ⟨joinTable r low hits pred t.flaws, marks⟩, false)
  | none =>
    if (s.lane i).state = .active ∧ t.flaws.length < Config.flawCapacity then
      ((s.modTable i fun t => ⟨t.flaws ++ [r.start s.tracker.nextId pred], marks⟩).modTracker
        fun t => { t with nextId := nextId t.nextId }, false)
    else (s.modTable i fun t => { t with marks := marks }, true)

/-! ### The work for a line (R51, R52) -/

/-- R52: a mark joins the list in ascending id; the lowest of a full list is removed first. -/
def addMark (m : Mark) (marks : List Mark) : List Mark :=
  insertByKey Mark.id m (if Config.markCapacity ≤ marks.length then marks.drop 1 else marks)

/-- R52: one flaw at the length check. -/
def continueFlaw (set : DetectionSet) (i : LaneId) (s : State) (f : OpenFlaw) : State :=
  if s.mode = .halted then s
  else (closeFlaw set i .length s f).modTable i
    fun t => { t with marks := addMark ⟨f.id, f.lastLine, f.seenFirst, f.seenLast⟩ t.marks }

/-- The along-ribbon extent has reached F_max. -/
def OpenFlaw.long (set : DetectionSet) (pitch : Nat) (f : OpenFlaw) : Bool :=
  decide (set.maxLength ≤ (f.lastLine + 1 - f.firstLine) * pitch)

def lengthCheck (set : DetectionSet) (i : LaneId) (s : State) : State :=
  ((s.table i).flaws.filter (OpenFlaw.long set s.geo.pitch)).foldl (continueFlaw set i) s

/-- R51: gap closing, the length check, K; the completion of the work may end the map-full condition (R76). -/
def trackerWork (n : Nat) (i : LaneId) (s : State) : State :=
  match s.setFor n with
  | none => s
  | some set =>
    let s := closeWhere set i .gap (fun f => decide (f.lastLine + set.gap < n)) s
    let s := dropMarks i (fun m => decide (m.lastLine + set.gap < n)) s
    let s := recomputeK (lengthCheck set i s)
    if s.mode = .halted then s else noteMapFullEnd n s

/-! ### The end of a switch (R63) -/

/-- SWITCH COMPLETE is due: the trigger for line s + 1 has been issued. -/
def State.switchDue (s : State) : Bool :=
  match s.tracker.apply, s.pos.lastLine with
  | .switched l, some t => decide (l + 1 ≤ t)
  | _, _ => false

/-- R63: the outgoing copy is released and the switch is complete. -/
def switchComplete (s : State) : State :=
  if s.ctl.held || !s.switchDue then s
  else s.modTracker fun t => { t with outgoing := none, apply := .none }

def execSwitchComplete (s : State) : Outcome := .next (switchComplete s)

/-! ### Requests -/

/-- R60. -/
def writeDetectionBody (f : DetectionFields) (s : State) : Answer :=
  match detectionSetOf f with
  | none => .refuse .badField
  | some set => .ok (s.modTracker fun t => { t with staged := some set, stagedFlag := true }) .empty

def execWriteDetectionSet (tag : Nat) (c : Content DetectionFields) (s : State) : Outcome :=
  .next (request .writeDetectionSet tag c writeDetectionBody s)

/-- R61: the smallest multiple of the sequence length above the last triggered line. -/
def switchLine (length last : Nat) : Nat := (last / length + 1) * length

/-- R61, in the order STAGE BUSY, NOTHING STAGED, then by mode. -/
def applyDetectionBody (tag : Nat) (s : State) : Answer :=
  if s.tracker.apply ≠ .none then .refuse .stageBusy
  else
    match s.tracker.stagedFlag, s.tracker.staged with
    | true, some set =>
      if s.mode = .idle then .ok (s.modTracker fun t => { t with active := some set, stagedFlag := false }) .empty
      else if s.delayFull then .refuse .delayListFull
      else
        let length := (s.tracker.active.map fun d => d.slots.length).getD 1
        .delay (addDelayed .applyDetection tag (s.modTracker fun t =>
          { t with stagedFlag := false, apply := .waiting set (switchLine length (s.pos.lastLine.getD 0)) }))
    | _, _ => .refuse .nothingStaged

def execApplyDetection (tag : Nat) (c : Content Unit) (s : State) : Outcome :=
  .next (request .applyDetection tag c (fun _ => applyDetectionBody tag) s)

/-- A line has been triggered since START INSPECT. -/
def State.triggered (s : State) (line : Nat) : Bool :=
  match s.pos.lastLine with
  | none => false
  | some t => decide (line ≤ t)

/-- R65: the switch line with whether it has been triggered, and the pending set. -/
def State.switching (s : State) : Option (Nat × Bool) × Option DetectionSet :=
  match s.tracker.apply with
  | .none => (none, none)
  | .waiting set l => (some (l, s.triggered l), some set)
  | .switched l => (some (l, s.triggered l), none)

/-- R65. The reply leaves the outgoing copy out (DESIGN CHOICE, log 38). -/
def execReadDetectionSet (tag : Nat) (c : Content Unit) (s : State) : Outcome :=
  .next (request .readDetectionSet tag c (fun _ s => answerWith
    (.detectionSets s.tracker.active s.tracker.staged s.tracker.stagedFlag s.switching.1 s.switching.2) s) s)

/-- R66. -/
def execReadOpenFlaws (tag : Nat) (c : Content Nat) (s : State) : Outcome :=
  .next (request .readOpenFlaws tag c (fun n s =>
    match laneOf n with
    | none => .refuse .badField
    | some i => answerWith (.openFlaws s.tracker.frontier s.tracker.nextId i (s.table i).flaws (s.table i).marks) s) s)

end Sys2Proof.Machine
end

