-- ==== Sys2Proof/Machine/LaneStates.lean ====
section
/-!
DEFINITION. Owned spans and coverage (R19, R20), the lane states with their blind intervals (R21, R42, R43), and the work of the lanes at a scan
trigger: the detection switch (R41, R62) and the digest deadline (R26).
-/

namespace Sys2Proof.Machine

/-! ### Owned spans and coverage -/

def State.laneSpan (s : State) (i : LaneId) : Span := (s.lane i).geometry.span

/-- R19: a lane's span lies wholly within its neighbour's. -/
def nested (a b : Span) : Bool := decide (a.start = b.start) || decide (b.stop ≤ a.stop)

/-- R19: two neighbours' spans nest, or a span overlaps the span two places along. -/
def spansBad (spans : List Span) : Bool :=
  (adjacent spans).any (fun p => nested p.1 p.2) ||
    (spans.zip (spans.drop 2)).any fun p => decide (p.2.start < p.1.stop)

/-- R19: the midpoint of the overlap of two neighbours, if they overlap. -/
def midpoint (left right : Span) : Option Nat :=
  if right.start < left.stop then some ((right.start + left.stop) / 2) else none

/-- R19: the owned spans of spans in order of origin, given the span before them. -/
def ownFrom : Option Span → List Span → List Span
  | _, [] => []
  | prev, x :: xs =>
    ⟨(prev.bind fun p => midpoint p x).getD x.start, (xs.head?.bind fun q => midpoint x q).getD x.stop⟩ :: ownFrom (some x) xs

/-- The configured lanes with their owned spans, in order of origin. -/
def State.ownedSpans (s : State) : List (LaneId × Span) := s.laneOrder.zip (ownFrom none (s.laneOrder.map s.laneSpan))

/-- R19: the owned spans cannot be fixed. -/
def State.spansRefused (s : State) : Bool := spansBad (s.laneOrder.map s.laneSpan)

/-- How far from `x` the owned spans, in ascending order, run unbroken. -/
def coverFrom (x : Nat) (spans : List Span) : Nat :=
  spans.foldl (fun x p => if p.start ≤ x then max x p.stop else x) x

/-- R20: some position of the net width lies in no owned span. -/
def State.coverageGap (s : State) : Bool := decide (coverFrom s.geo.xL (s.ownedSpans.map Prod.snd) < s.geo.xR)

/-- R19: every configured lane takes its owned span. -/
def fixOwnedSpans (s : State) : State :=
  s.ownedSpans.foldl (fun s p => s.modLane p.1 fun l => { l with owned := some p.2 }) s

/-! ### States and intervals -/

/-- R21: a change of state raises LANE CHANGED; no change raises nothing. -/
def setLaneState (i : LaneId) (st : LaneState) (s : State) : State :=
  if (s.lane i).state = st then s else raise .laneChanged (s.modLane i fun l => { l with state := st })

/-- R42: the reason of an interval is the state the lane is in. -/
def LaneState.reason : LaneState → BlindReason
  | .off | .active => .off
  | .settling => .settling
  | .crowded => .crowded
  | .faulted => .faulted

/-- R42: the owned span limited to the net width, if the two meet. -/
def State.netSpan (s : State) (i : LaneId) : Option Span :=
  match (s.lane i).owned with
  | none => none
  | some o =>
    let x : Span := ⟨max o.start s.geo.xL, min o.stop s.geo.xR⟩
    if x.start < x.stop then some x else none

/-- R42: the lane asks for an interval from a label; it holds the id it is given, or none if the list is full (R80). -/
def openLaneInterval (i : LaneId) (label : Nat) (s : State) : State :=
  match s.netSpan i with
  | none => s
  | some x =>
    let held := if s.blindFull then none else some s.map.nextId
    openInterval (s.lane i).state.reason (some i) x.start x.stop label (s.modLane i fun l => { l with interval := held })

/-- R43: the open interval takes the reason of the lane's state. -/
def renameLaneInterval (i : LaneId) (s : State) : State :=
  match (s.lane i).interval with
  | none => s
  | some id => changeReason id (s.lane i).state.reason s

/-- R59: the lane's horizon. -/
def State.horizon (s : State) (i : LaneId) : Nat := max ((s.lane i).expected * s.geo.pitch) (s.lane i).acceptance

/-- R175: an entry to FAULTED is counted for its lane. -/
def noteFaulted (i : LaneId) (st : LaneState) (s : State) : State :=
  if st = .faulted then tally (Shift.laneFaulted i) s else s

/-- The lane enters a state other than ACTIVE. Its interval opens at the horizon if it was ACTIVE, else it takes the new reason
(R42, R43). If it leaves ACTIVE and CROWDED, its persistence tracker is emptied (R37), its flaws are truncated (R54) and K is
recomputed (R58). For the order see log 10. -/
def laneTo (i : LaneId) (st : LaneState) (s : State) : State :=
  let old := (s.lane i).state
  let s := noteFaulted i st (setLaneState i st s)
  let s := if st.following then s else s.modLane i fun l => { l with persistence := [] }
  let s := if old = .active then openLaneInterval i (s.horizon i) s else renameLaneInterval i s
  if old.following && !st.following then recomputeK (truncateLane i s) else s

/-- R31, R36: the lane enters ACTIVE with its acceptance label past line `n` and not below K, and its interval closes there (R43). -/
def enterActive (i : LaneId) (n : Nat) (s : State) : State :=
  let label := max ((n + 1) * s.geo.pitch) s.tracker.frontier
  let s' := match (s.lane i).interval with
    | none => s
    | some id => closeInterval id label s
  recomputeK (setLaneState i .active (s'.modLane i fun l => { l with acceptance := label, interval := none }))

/-- R22: what a lane that is brought into service clears. -/
def Lane.fresh (expected : Nat) (l : Lane) : Lane :=
  { l with rings := Rings.empty, limitRuns := Vector.replicate 5 0, persistence := [], expected := expected }

/-- A class 1 report of a lane about a line, then FAULTED. -/
def faultLane (k : FaultKind) (i : LaneId) (line : Nat) (s : State) : State :=
  laneTo i .faulted (report1 k { s.here with line := some line, lane := some i } s)

/-! ### At a scan trigger -/

/-- R26: one lane against the trigger for line `t`. A halt stops the sweep (log 9). -/
def laneDeadline (t : Nat) (i : LaneId) (s : State) : State :=
  let l := s.lane i
  if s.mode.scanning && l.state.examining && decide (l.expected + 2 ≤ t) then faultLane .digestMissing i l.expected s else s

/-- R26, for the last triggered line; the lanes in ascending lane number (DESIGN CHOICE, log 36). -/
def digestDeadline (s : State) : State :=
  if s.ctl.held then s
  else
    match s.pos.lastLine with
    | none => s
    | some t => forLanes (laneDeadline t) s

def execDigestDeadline (s : State) : Outcome := .next (digestDeadline s)

/-- The view kinds of a set, in the order BRIGHT, DARK, OBLIQUE (DESIGN CHOICE, log 37). -/
def DetectionSet.kinds (d : DetectionSet) : List ViewKind := [.bright, .dark, .oblique].filter d.holdsKind

/-- R41: the rings of kinds that a set does not hold are discarded. -/
def Rings.keep (d : DetectionSet) (r : Rings) : Rings where
  bright := if d.holdsKind .bright then r.bright else []
  dark := if d.holdsKind .dark then r.dark else []
  oblique := if d.holdsKind .oblique then r.oblique else []

/-- R41: one lane at a switch to a set. -/
def laneSwitch (d : DetectionSet) (i : LaneId) (s : State) : State :=
  if s.mode = .halted then s
  else
    let s := s.modLane i fun l => { l with rings := l.rings.keep d, limitRuns := Vector.replicate 5 0 }
    let l := s.lane i
    if l.state.following && d.kinds.any (fun k => (l.rings.get k).isEmpty) then laneTo i .settling s else s

/-- The pending set whose switch line has been triggered with the mode INSPECT, PRODUCE or DRAINING (R62). -/
def State.dueSwitch (s : State) : Option (DetectionSet × Nat) :=
  match s.tracker.apply with
  | .waiting d l => if s.mode.scanning && s.triggered l then some (d, l) else none
  | .none | .switched _ => none

/-- R62; the lanes take the switch in ascending lane number (DESIGN CHOICE, log 36). -/
def detectionSwitch (s : State) : State :=
  if s.ctl.held then s
  else
    match s.dueSwitch with
    | none => s
    | some (d, l) =>
      answerDelayed .applyDetection .ok (.switchLine l)
        (forLanes (laneSwitch d)
          (s.modTracker fun t => { t with outgoing := t.active, active := some d, apply := .switched l }))

def execDetectionSwitch (s : State) : Outcome := .next (detectionSwitch s)

/-- R26, R62, R63: what the issue of a trigger itself does, in this order (log 2). -/
def followTrigger (s : State) : State := switchComplete (digestDeadline (detectionSwitch s))

/-- What a trigger has left outstanding is done before the next digest or encoder change is taken (log 2). -/
def takeTriggerWork (s : State) : State := mapFullEnd (followTrigger s)

end Sys2Proof.Machine
end

