-- ==== Sys2Proof/Machine/Lanes.lean ====
section
/-!
DEFINITION. The Lane Units (Chapter 2): a digest received, checked and processed (R25 to R37), and the requests about lanes.
-/

namespace Sys2Proof.Machine

/-! ### Receiving a digest (R25) -/

/-- R25: the largest line number not above the last triggered line with the digest's low 16 bits. -/
def rebuildLine (low last : Nat) : Option Nat :=
  if low ≤ last then some (last - (last - low) % 65536) else none

/-! ### Background samples (R29, R30) -/

/-- R29: a sample joins a ring of at most 8. -/
def pushSample (ring : List Nat) (b : Nat) : List Nat := pushBounded Config.ringSize ring b

/-- R41: the ring of a kind outside the sequence now active is not kept (log 12). -/
def State.keepsKind (s : State) (k : ViewKind) : Bool := s.tracker.active.any fun d => d.holdsKind k

/-- The limit-run counter of a slot. -/
def Lane.limitRun (l : Lane) (slot : Nat) : Nat := (l.limitRuns.toList[slot]?).getD 0

def Lane.setLimitRun (l : Lane) (slot v : Nat) : Lane :=
  if h : slot < 5 then { l with limitRuns := l.limitRuns.set slot v } else l

/-- R29: the sample enters the ring or is counted against the limits. -/
def takeSample (i : LaneId) (slotNo : Nat) (slot : Slot) (level : Nat) (s : State) : State :=
  if within slot.low slot.high level then
    s.modLane i fun l =>
      { l.setLimitRun slotNo 0 with
        rings := if s.keepsKind slot.kind then l.rings.set slot.kind (pushSample (l.rings.get slot.kind) level) else l.rings }
  else
    s.modLane i fun l => l.setLimitRun slotNo (min Config.limitRun (l.limitRun slotNo + 1))

/-! ### Runs (R32 to R34) -/

/-- R32: a run clipped to the lane's columns, or discarded. -/
def clipRun (reported : Nat) (r : Run) : Option Run :=
  if r.last < r.first ∨ reported ≤ r.first then none else some { r with last := min r.last (reported - 1) }

/-- R33: a column is masked. -/
def Lane.masked (l : Lane) (c : Nat) : Bool := l.staticMask.contains c || l.dynColumns.contains c

/-- R33: all columns of a run are masked. -/
def Lane.allMasked (l : Lane) (r : Run) : Bool := (List.range (r.last - r.first + 1)).all fun k => l.masked (r.first + k)

/-- R34 step 1. -/
def ringMean (ring : List Nat) : Nat := ring.sum / 8

/-- R34 steps 2 to 5: the contrast of a peak. -/
def contrastOf (dark : Nat) (ring : List Nat) (peak : Nat) : Nat :=
  let b := max Config.minBackground (ringMean ring - dark)
  let p := peak - dark
  if peak = Config.saturatedPeak then Config.maxContrast
  else min Config.maxContrast ((max p b - min p b) * 1000 / b)

/-- R32 to R34: a run of line `n` as it passes to the Tracker, if it is kept. -/
def Lane.keep (l : Lane) (n : Nat) (slot : Slot) (r : Run) : Option KeptRun :=
  match clipRun l.geometry.reported r with
  | none => none
  | some r =>
    let contrast := contrastOf l.dark (l.rings.get slot.kind) r.peak
    if l.allMasked r ∨ contrast < slot.threshold then none
    else some ⟨n, r.first, r.last, contrast, r.polarity, slot.kind, decide (r.peak = Config.saturatedPeak)⟩

/-! ### Stuck columns (R37) -/

/-- A narrow run. -/
def KeptRun.narrow (r : KeptRun) : Bool := decide (r.last ≤ r.first + 1)

/-- R37: the entries after a line on which narrow runs were kept at the given first columns. -/
def followColumns (old : List (Nat × Nat)) (cols : List Nat) : List (Nat × Nat) :=
  (distinct cols).map fun c => (c, ((old.find? fun e => e.1 == c).map Prod.snd).getD 0 + 1)

/-- R37: a count has reached 64. -/
def maskColumn (n : Nat) (i : LaneId) (s : State) (c : Nat) : State :=
  if s.mode = .halted then s
  else
    let s := raise .columnMasked s
    let dyn := (s.lane i).dynColumns
    if dyn.length < Config.dynCapacity ∧ ¬ dyn.contains c then
      closeSuspects n i c (s.modLane i fun l => { l with dynColumns := dyn ++ [c] })
    else s

/-- R37: the persistence tracker after the runs of line `n`. Columns that reach 64 on one line are taken in the order in which the runs
first name them (DESIGN CHOICE, log 39). -/
def followNarrow (n : Nat) (i : LaneId) (cols : List Nat) (s : State) : State :=
  if !(s.lane i).dynMasking ∨ s.mode = .halted then s
  else
    let entries := followColumns (s.lane i).persistence cols
    let full := (entries.filter fun e => decide (Config.persistenceLimit ≤ e.2)).map Prod.fst
    full.foldl (maskColumn n i)
      (s.modLane i fun l => { l with persistence := entries.filter fun e => decide (e.2 < Config.persistenceLimit) })

/-! ### Processing a digest (R27) -/

/-- R35: the lane enters CROWDED if it is ACTIVE. -/
def crowd (i : LaneId) (s : State) : State := if (s.lane i).state = .active then laneTo i .crowded s else s

/-- One run handed on: a dropped run makes an ACTIVE lane CROWDED. -/
def takeRun (set : DetectionSet) (i : LaneId) (r : KeptRun) (s : State) : State :=
  let h := handRun set i r s
  if h.2 then crowd i h.1 else h.1

/-- Stage 3 for one run of the digest, with the first columns of the narrow runs kept so far. A halt stops the work (log 9). -/
def runStep (set : DetectionSet) (n : Nat) (slot : Slot) (i : LaneId) (acc : State × List Nat) (r : Run) : State × List Nat :=
  if acc.1.mode = .halted then acc
  else
    match (acc.1.lane i).keep n slot r with
    | none => acc
    | some k => (takeRun set i k acc.1, if k.narrow then acc.2 ++ [k.first] else acc.2)

/-- R27: line `n` lies at or above the lane's acceptance label. -/
def State.accepts (s : State) (i : LaneId) (n : Nat) : Bool := decide ((s.lane i).acceptance ≤ n * s.geo.pitch)

/-- The lane's persistence tracker is emptied. -/
def forgetNarrow (i : LaneId) (s : State) : State := s.modLane i fun l => { l with persistence := [] }

/-- R35, R41: the overflow flag of an accepted line is acted on, and its runs are used unless the ring of its kind has been
discarded. -/
def acceptRuns (set : DetectionSet) (n : Nat) (slot : Slot) (i : LaneId) (d : Digest) (s : State) : State :=
  let s := if d.overflow then crowd i s else s
  if s.keepsKind slot.kind then
    let acc := d.runs.foldl (runStep set n slot i) (s, [])
    followNarrow n i acc.2 acc.1
  else forgetNarrow i s

/-- Stage 3 in ACTIVE or CROWDED. Below the acceptance label neither the runs nor the overflow flag are used (R27). -/
def useRuns (set : DetectionSet) (n : Nat) (slot : Slot) (i : LaneId) (d : Digest) (s : State) : State :=
  if s.accepts i n then acceptRuns set n slot i d s else forgetNarrow i s

/-- R31: every kind of the sequence in force for the line, and of the sequence now active, has 8 samples (log 11). -/
def State.settled (s : State) (set : DetectionSet) (i : LaneId) : Bool :=
  (set.kinds ++ (s.tracker.active.map DetectionSet.kinds).getD []).all
    fun k => decide (Config.ringSize ≤ ((s.lane i).rings.get k).length)

/-- Stage 3 in SETTLING. -/
def settle (set : DetectionSet) (n : Nat) (i : LaneId) (s : State) : State :=
  let s := forgetNarrow i s
  if s.settled set i then enterActive i n s else s

/-- Stage 4. -/
def finishLine (n : Nat) (i : LaneId) (s : State) : State :=
  trackerWork n i (s.modLane i fun l => { l with lastProcessed := some n, expected := n + 1 })

/-- Stage 5 (R36). -/
def tryUncrowd (n : Nat) (i : LaneId) (d : Digest) (s : State) : State :=
  if (s.lane i).state = .crowded ∧ d.overflow = false ∧ (s.table i).flaws.length ≤ Config.crowdedExit ∧ s.mode ≠ .halted then
    enterActive i n s
  else s

/-- Stages 3 to 5. -/
def processRuns (set : DetectionSet) (n : Nat) (slot : Slot) (i : LaneId) (d : Digest) (s : State) : State :=
  let s := if (s.lane i).state = .settling then settle set n i s else useRuns set n slot i d s
  if s.mode = .halted then s else tryUncrowd n i d (finishLine n i s)

/-- R27, R28, R30: stages 1 and 2, then the others unless the lane has become FAULTED. -/
def processDigest (set : DetectionSet) (n : Nat) (i : LaneId) (d : Digest) (s : State) : State :=
  if d.headFault then faultLane .headFault i n s
  else
    match set.slots[set.slotNumber n]? with
    | none => s
    | some slot =>
      let s := takeSample i (set.slotNumber n) slot d.level s
      if !within slot.low slot.high d.level && decide (Config.limitRun ≤ (s.lane i).limitRun (set.slotNumber n)) then
        faultLane (if d.level < slot.low then .lightLow else .lightHigh) i n s
      else processRuns set n slot i d s

/-- R25: a digest against the issued slot and the expected line. -/
def examineDigest (i : LaneId) (d : Digest) (s : State) : State :=
  match (s.pos.lastLine.bind (rebuildLine d.line)) with
  | none => s
  | some m =>
    match s.setFor m with
    | none => s
    | some set =>
      let e := (s.lane i).expected
      if d.slot ≠ set.slotNumber m ∨ m < e then s
      else if m = e then processDigest set m i d s
      else faultLane .digestMissing i e s

/-- GANTRY DIGEST: examined in SETTLING, ACTIVE and CROWDED while the line is inspecting, else discarded unexamined. -/
def gantryDigest (i : LaneId) (d : Digest) (s : State) : State :=
  if s.ctl.held then s
  else
    let s := takeTriggerWork s
    if s.mode.scanning && (s.lane i).state.examining then examineDigest i d s else s

def execGantryDigest (i : LaneId) (d : Digest) (s : State) : Outcome := .next (gantryDigest i d s)

/-- R211: a digest frame the lane's receiver discards never reaches the Lane Unit. -/
def execGantryFrameDiscarded (_ : LaneId) (s : State) : Outcome := .next s

/-- R211: as for a discarded frame. -/
def execGantryByteTimeout (_ : LaneId) (s : State) : Outcome := .next s

/-! ### Requests -/

/-- A request that names a lane: a lane number beyond 7 is refused with BAD FIELD. -/
def withLane (n : Nat) (body : LaneId → State → Answer) (s : State) : Answer :=
  match laneOf n with
  | none => .refuse .badField
  | some i => body i s

/-- R18. -/
def setLaneGeometryBody (f : LaneGeometryFields) (s : State) : Answer :=
  match laneGeometryOf f with
  | none => .refuse .badField
  | some (i, g) =>
    .ok (s.modLane i fun l => { l with geometry := g, configured := true, staticMask := [], dynColumns := [] }) .empty

def execSetLaneGeometry (tag : Nat) (c : Content LaneGeometryFields) (s : State) : Outcome :=
  .next (request .setLaneGeometry tag c setLaneGeometryBody s)

/-- R22: the lane starts with the line after the last triggered line. -/
def startLane (i : LaneId) (s : State) : State :=
  let e := match s.pos.lastLine with
    | none => 0
    | some t => t + 1
  renameLaneInterval i (setLaneState i .settling (s.modLane i (Lane.fresh e)))

def startLaneBody (i : LaneId) (s : State) : Answer :=
  let l := s.lane i
  if !l.configured then .refuse .notConfigured
  else if l.state.examining then .refuse .laneBusy
  else .ok (startLane i s) .empty

def execStartLane (tag : Nat) (c : Content Nat) (s : State) : Outcome :=
  .next (request .startLane tag c (fun n => withLane n startLaneBody) s)

/-- R23. -/
def stopLaneBody (i : LaneId) (s : State) : Answer :=
  if (s.lane i).state = .off then .ok s .empty else .ok (laneTo i .off s) .empty

def execStopLane (tag : Nat) (c : Content Nat) (s : State) : Outcome :=
  .next (request .stopLane tag c (fun n => withLane n stopLaneBody) s)

/-- R40: what a new dark offset does to the lane. -/
def setDark (v : Nat) (i : LaneId) (s : State) : State :=
  let s := s.modLane i fun l => { l with dark := v }
  match (s.lane i).state with
  | .active | .crowded => laneTo i .settling (s.modLane i fun l => { l with rings := Rings.empty })
  | .settling => s.modLane i fun l => { l with rings := Rings.empty }
  | .off | .faulted => s

def setDarkBody (v : Nat) (i : LaneId) (s : State) : Answer :=
  if !(s.lane i).configured then .refuse .notConfigured
  else if 1023 < v then .refuse .badField
  else .ok (setDark v i s) .empty

def execSetDarkOffset (tag : Nat) (c : Content (Nat × Nat)) (s : State) : Outcome :=
  .next (request .setDarkOffset tag c (fun p => withLane p.1 (setDarkBody p.2)) s)

/-- The static masks of the other lanes together. -/
def State.otherMasks (s : State) (i : LaneId) : Nat :=
  ((allLanes.filter fun j => j ≠ i).map fun j => (s.lane j).staticMask.length).sum

/-- R39. -/
def setMaskBody (cols : List Nat) (i : LaneId) (s : State) : Answer :=
  let l := s.lane i
  if !l.configured then .refuse .notConfigured
  else if l.state.examining then .refuse .laneBusy
  else if maskListOk l.geometry.reported cols && decide (s.otherMasks i + cols.length ≤ Config.maskTotal) then
    .ok (s.modLane i fun l => { l with staticMask := sortByKey id cols, dynColumns := [] }) .empty
  else .refuse .badField

def execSetColumnMask (tag : Nat) (c : Content (Nat × List Nat)) (s : State) : Outcome :=
  .next (request .setColumnMask tag c (fun p => withLane p.1 (setMaskBody p.2)) s)

/-- R38: switching the option OFF empties the persistence tracker. An option code other than 0 and 1 is BAD FIELD (DESIGN CHOICE,
log 35). -/
def setDynamicBody (option : Nat) (i : LaneId) (s : State) : Answer :=
  match optionOf option with
  | none => .refuse .badField
  | some on =>
    .ok (s.modLane i fun l => { l with dynMasking := on, persistence := if on then l.persistence else [] }) .empty

def execSetDynamicMasking (tag : Nat) (c : Content (Nat × Nat)) (s : State) : Outcome :=
  .next (request .setDynamicMasking tag c (fun p => withLane p.1 (setDynamicBody p.2)) s)

/-- R44. The sequence in force is the active one (log 18). The lane field is the number of the lane asked about, before its geometry is
written too, when R45 has the geometry fields read as 0 (DESIGN CHOICE, log 48). -/
def State.laneReply (s : State) (i : LaneId) : LaneReply :=
  let l := s.lane i
  let kinds := (s.tracker.active.map DetectionSet.kinds).getD []
  { state := l.state, configured := l.configured, lane := i.val, geometry := l.geometry, reported := l.geometry.reported,
    owned := l.owned, dark := l.dark,
    rings := kinds.map fun k =>
      let ring := l.rings.get k
      (k, ring.length, if Config.ringSize ≤ ring.length then some (ringMean ring) else none),
    limitRuns := l.limitRuns.toList.take ((s.tracker.active.map fun d => d.slots.length).getD 0),
    expected := l.expected, lastProcessed := l.lastProcessed, acceptance := l.acceptance, openFlaws := (s.table i).flaws.length,
    staticMask := l.staticMask, dynMasking := l.dynMasking, dynColumns := l.dynColumns, interval := l.interval }

def execReadLane (tag : Nat) (c : Content Nat) (s : State) : Outcome :=
  .next (request .readLane tag c (fun n => withLane n fun i s => .ok s (.lane (s.laneReply i))) s)

end Sys2Proof.Machine
end

