-- ==== Sys2Proof/Machine/Grading.lean ====
section
/-!
DEFINITION. The Grader (Chapter 7): pieces, counted flaws and zones, the grade test, blind area, final grades, and the requests about the grade
table.
-/

namespace Sys2Proof.Machine

/-! ### Pieces (R137) -/

/-- The X spans of the pieces of a plate, in ascending X. -/
def pieceSpans (xL xR : Nat) (positions : List Nat) : List Span :=
  (adjacent (xL :: positions ++ [xR])).map fun p => ⟨p.1, p.2⟩

/-- A piece to be graded: its X span and its Y span. -/
structure Rect where
  x : Span
  y : Span
  deriving DecidableEq, Repr

def Span.length (a : Span) : Nat := a.stop - a.start

def Rect.area (r : Rect) : Nat := r.x.length * r.y.length

/-! ### Counted flaws and zones (R138, R139) -/

/-- R138 condition 1. -/
def MapEntry.inPiece (r : Rect) (e : MapEntry) : Bool :=
  decide (e.xFirst < r.x.stop) && decide (r.x.start ≤ e.xLast) && decide (e.yFirst < r.y.stop) && decide (r.y.start ≤ e.yLast)

/-- R138: the counted flaws of a piece. -/
def countedFlaws (t : GradeTable) (r : Rect) (entries : List MapEntry) : List MapEntry :=
  entries.filter fun e => e.inPiece r && decide (t.floors.get e.cls ≤ e.size)

/-- R139: the flaw lies in the edge band of width `w`. -/
def MapEntry.edge (w : Nat) (r : Rect) (e : MapEntry) : Bool :=
  decide (0 < w) &&
    (decide (e.xFirst < r.x.start + w) || decide (r.x.stop ≤ e.xLast + w) || decide (e.yFirst < r.y.start + w) ||
      decide (r.y.stop ≤ e.yLast + w))

/-! ### The grade test (R140) -/

/-- The flaws of one class and one zone stay within a limit. -/
def ZoneLimit.admits (z : ZoneLimit) (flaws : List MapEntry) : Bool :=
  (decide (z.size = Config.sizeNoLimit) || flaws.all fun e => decide (e.size ≤ z.size)) &&
    (decide (z.count = Config.countNoLimit) || decide (flaws.length ≤ z.count))

/-- R140: the piece meets a grade, given its counted flaws in EDGE and in CORE. -/
def PerClass.admits (l : PerClass ClassLimit) (edge core : List MapEntry) : Bool :=
  [FlawClass.bubble, .stone, .linear, .surface].all fun k =>
    (l.get k).edge.admits (edge.filter fun e => e.cls == k) && (l.get k).core.admits (core.filter fun e => e.cls == k)

/-- R140: the flaw grade. -/
def flawGrade (t : GradeTable) (r : Rect) (flaws : List MapEntry) : Grade :=
  let edge := flaws.filter (MapEntry.edge t.band r)
  let core := flaws.filter fun e => !e.edge t.band r
  if t.limitA.admits edge core then .a
  else if t.limitB.admits edge core then .b
  else if t.limitC.admits edge core then .c
  else .x

/-! ### Blind area (R141 to R143) -/

/-- The labels from `a` up to `b` that at least one of the spans, in ascending order of start, covers. -/
def coveredLabels (a b : Nat) (spans : List Span) : Nat :=
  (spans.foldl (fun (acc : Nat × Nat) p => (max acc.1 (min b p.stop), acc.2 + (min b p.stop - max acc.1 p.start))) (a, 0)).2

/-- R141: the full-width rectangles: the ALL intervals and, with a label given, the virtual interval from it upward; an open one
runs to `limit`. -/
def fullWidth (blind : List Interval) (virtualFrom : Option Nat) (limit : Nat) : List Span :=
  sortByKey Span.start
    (((blind.filter fun b => b.lane.isNone).map fun b => (⟨b.yStart, b.yEnd.getD limit⟩ : Span)) ++
      (virtualFrom.map fun k => (⟨k, max k limit⟩ : Span)).toList)

/-- R142: the labels of a lane interval within a piece that are not full-width labels, times its X overlap with the piece. -/
def laneBlindArea (full : List Span) (r : Rect) (b : Interval) : Nat :=
  let lo := max b.yStart r.y.start
  let hi := min (b.yEnd.getD r.y.stop) r.y.stop
  (min b.xEnd r.x.stop - max b.xStart r.x.start) * (hi - lo - coveredLabels lo hi full)

/-- R142. -/
def blindArea (blind : List Interval) (virtualFrom : Option Nat) (r : Rect) : Nat :=
  let full := fullWidth blind virtualFrom r.y.stop
  r.x.length * coveredLabels r.y.start r.y.stop full +
    ((blind.filter fun b => b.lane.isSome).map (laneBlindArea full r)).sum

/-- R143. -/
def blindPermille (blind : List Interval) (virtualFrom : Option Nat) (r : Rect) : Nat :=
  ceilDiv (1000 * blindArea blind virtualFrom r) r.area

/-- R143: a flaw grade of A, B or C above the blind limit becomes U. -/
def finalGrade (limit permille : Nat) (g : Grade) : Grade := if g ≠ .x ∧ limit < permille then .u else g

/-! ### Grading (R144 to R148) -/

/-- The virtual interval of a forced plan starts at K (R141, R148). -/
def State.virtualFrom (s : State) (forced : Bool) : Option Nat := if forced then some s.tracker.frontier else none

/-- One piece of a plate. -/
def State.gradePlatePiece (s : State) (forced : Bool) (y x : Span) : Piece :=
  let t := s.grader.active
  let flaws := countedFlaws t ⟨x, y⟩ s.map.entries
  let permille := blindPermille s.map.blind (s.virtualFrom forced) ⟨x, y⟩
  let g := finalGrade t.blindLimit permille (flawGrade t ⟨x, y⟩ flaws)
  ⟨x.start, x.stop, g, t.dest.get g, flaws.length, permille⟩

/-- R147: the one piece of a cull. -/
def State.gradeCullPiece (s : State) (forced : Bool) (y : Span) : Piece :=
  let t := s.grader.active
  let x : Span := ⟨s.geo.xL, s.geo.xR⟩
  ⟨x.start, x.stop, .x, t.dest.x, (countedFlaws t ⟨x, y⟩ s.map.entries).length,
    blindPermille s.map.blind (s.virtualFrom forced) ⟨x, y⟩⟩

/-- R144: the worst grade among pieces. -/
def worstGrade (ps : List Piece) : Grade := ps.foldl (fun g p => g.worse p.grade) .a

/-- The pieces of a plate, or the piece of a cull. -/
def State.gradePieces (s : State) (order : Option Order) (forced : Bool) (y : Span) : List Piece :=
  match order with
  | some o => (pieceSpans s.geo.xL s.geo.xR o.positions).map (s.gradePlatePiece forced y)
  | none => [s.gradeCullPiece forced y]

/-- R145: the plate grade of a candidate. -/
def State.evaluatePlate (s : State) (o : Order) (yStart : Nat) : Grade :=
  worstGrade (s.gradePieces (some o) false ⟨yStart, yStart + o.length⟩)

/-! ### Requests -/

/-- R133. -/
def writeGradeRowsBody (rows : List GradeRow) (s : State) : Answer :=
  if gradeRowsOk rows then
    .ok (s.modGrader fun g => { g with staged := rows.foldl writeGradeRow g.staged, stagedFlag := true }) .empty
  else .refuse .badField

def execWriteGradeRows (tag : Nat) (c : Content (List GradeRow)) (s : State) : Outcome :=
  .next (request .writeGradeRows tag c writeGradeRowsBody s)

/-- R132, R134: the staged copy becomes the active copy under the next version. -/
def applyTable (g : Grader) : Grader :=
  { g with active := g.staged, version := nextNumber g.version, stagedFlag := false }

/-- R134: a destination of the staged copy lies beyond the agreement's destination count. -/
def State.destRefused (s : State) : Bool :=
  match s.cutter.agreement with
  | none => false
  | some a => s.grader.staged.destBeyond a.cap.destinations

/-- R134. -/
def applyGradeTableBody (s : State) : Answer :=
  if !s.grader.stagedFlag then .refuse .nothingStaged
  else if s.destRefused then .refuse .badField
  else .ok (s.modGrader applyTable) (.gradeVersion (applyTable s.grader).version)

def execApplyGradeTable (tag : Nat) (c : Content Unit) (s : State) : Outcome :=
  .next (request .applyGradeTable tag c (fun _ => applyGradeTableBody) s)

/-- R136. -/
def execReadGradeTable (tag : Nat) (c : Content Unit) (s : State) : Outcome :=
  .next (request .readGradeTable tag c (fun _ s => answerWith
    (.gradeTables s.grader.version s.grader.active s.grader.staged s.grader.stagedFlag) s) s)

end Sys2Proof.Machine
end

