-- ==== Sys2Proof/Machine/Spills.lean ====
section
/-!
DEFINITION. Spills, joined chains and retirement (section 6.8): a failed cut spills its record or the lead-in, chains grow and retire, and a
record whose cut is made retires.
-/

namespace Sys2Proof.Machine

/-! ### Cuts held (R116) -/

/-- A live cut. -/
def CutState.live : CutState → Bool
  | .sent | .accepted => true
  | .done | .rejected | .missed => false

/-- A cut that has failed. -/
def CutState.failed : CutState → Bool
  | .rejected | .missed => true
  | .sent | .accepted | .done => false

/-- A cut the Planner holds, with the plate id of its record; none for the head cut. -/
structure HeldCut where
  cut : Cut
  plate : Option Nat
  deriving DecidableEq, Repr

/-- The cuts held, in ribbon order: the head cut, then the trailing cuts. -/
def Planner.cuts (p : Planner) : List HeldCut :=
  (p.head.map fun h => (⟨h.cut, none⟩ : HeldCut)).toList ++ p.table.map fun r => ⟨r.cut, some r.id⟩

/-- R116. -/
def State.findCut (s : State) (id : Nat) : Option HeldCut := s.planner.cuts.find? fun h => h.cut.id == id

/-- A cut takes a new state. -/
def setCut (id : Nat) (st : CutState) (s : State) : State :=
  s.modPlanner fun p =>
    { p with head := p.head.map fun h => if h.cut.id = id then { h with cut := { h.cut with state := st } } else h,
             table := updateWhere (fun r => r.cut.id == id) (fun r => { r with cut := { r.cut with state := st } }) p.table }

/-- Change the record with a plate id. -/
def modRecord (id : Nat) (g : PlateRecord → PlateRecord) (s : State) : State :=
  s.modPlanner fun p => { p with table := updateWhere (fun r => r.id == id) g p.table }

def State.findRecord (s : State) (id : Nat) : Option PlateRecord := s.planner.table.find? fun r => r.id == id

/-- The record after a record in the table. -/
def recordAfter (id : Nat) : List PlateRecord → Option PlateRecord
  | [] => none
  | r :: rs => if r.id = id then rs.head? else recordAfter id rs

/-! ### Chains (R122) -/

/-- The head of the chain a record belongs to, or would head. -/
def PlateRecord.chain (r : PlateRecord) : Nat := r.absorbedInto.getD r.id

/-- The head of the open chain at the end of the table: a plate id, or 0 for the lead-in. -/
def Planner.openChain (p : Planner) : Option Nat :=
  match p.table.getLast? with
  | some r => if r.state = .spilled then some r.chain else none
  | none =>
    match p.head with
    | some h => if h.leadIn && h.cut.state.failed then some 0 else none
    | none => none

/-! ### Spill and absorption (R123, R124, R149) -/

/-- R149: every grade becomes X and every destination the record's reject destination. -/
def PlateRecord.reject (r : PlateRecord) : PlateRecord :=
  { r with grade := .x, pieces := r.pieces.map fun p => { p with grade := .x, dest := r.rejectDest } }

/-- R123, R124: a record that holds no references and counts no more. -/
def PlateRecord.forgo (r : PlateRecord) : PlateRecord := { r with flawRefs := [], blindRefs := [], counted := false }

/-- R96, R82: a record that is spilled or absorbed gives its references back and stops counting. -/
def releaseRecord (r : PlateRecord) (s : State) : State :=
  stopCounting r (releaseReferences r.flawRefs r.blindRefs (modRecord r.id (fun q => q.reject.forgo) s))

/-- R124: a record is absorbed into a chain, and the chain it headed with it. -/
def absorbRecord (head : Nat) (r : PlateRecord) (s : State) : State :=
  releaseRecord r (s.modPlanner fun p =>
    { p with
      table := updateWhere (fun q => q.id == r.id || q.absorbedInto == some r.id) (fun q => { q with absorbedInto := some head })
        p.table })

/-- R123. -/
def spillRecord (id : Nat) (s : State) : State :=
  match s.findRecord id with
  | none => s
  | some r =>
    let s := releaseRecord r (modRecord id (fun q => { q with state := .spilled }) s)
    match recordAfter id s.planner.table with
    | none => s
    | some q => absorbRecord r.chain q s

/-- R119, R124: a failed head cut joins the lead-in to the first record. -/
def spillLeadIn (s : State) : State :=
  match s.planner.table.head? with
  | none => s
  | some r => absorbRecord 0 r s

/-! ### Retirement (R125, R126) -/

def Piece.result (p : Piece) : ResultPiece := ⟨p.xStart, p.xEnd, p.grade, p.dest⟩

/-- R115: records leave the front of the table and the last one's trailing cut becomes the head cut; the Planner tests its
triggers (R106). -/
def leaveTable (gone : List PlateRecord) (cut : Cut) (s : State) : State :=
  testRoom (s.modPlanner fun p =>
    { p with table := p.table.filter fun r => !(gone.any fun g => g.id == r.id), head := some ⟨cut, false⟩ })

/-- R98: the order of a record that has left is tested for finishing. -/
def finishTest (s : State) (r : PlateRecord) : State :=
  match r.order with
  | none => s
  | some id => testFinish id s

/-- R125, steps 1 to 5. -/
def retireAlone (r : PlateRecord) (s : State) : State :=
  let s := sendPlateResult r.id r.kind r.length (r.pieces.map Piece.result) s
  let s := tally (Shift.addRecord s.netWidth r) (addJournal r none s)
  let s := orderDelivered r (releaseReferences r.flawRefs r.blindRefs s)
  finishTest (leaveTable [r] r.cut s) r

/-- R126, R173: the records of a chain, in plate-id order, leave as one reject piece. Of several orders that finish with it, each is tested
at its records in the order of the table (DESIGN CHOICE, log 45). -/
def retireChain (rs : List PlateRecord) (s : State) : State :=
  match rs.head?, rs.getLast? with
  | some first, some last =>
    let joined := (rs.map PlateRecord.length).sum
    let s := sendPlateResult first.id .cull joined [⟨s.geo.xL, s.geo.xR, .x, last.rejectDest⟩] s
    let s := tally (fun h => h.addCull s.netWidth joined) s
    let s := rs.foldl (fun s r => addJournal r (some (first.id, joined)) s) s
    rs.foldl finishTest (leaveTable rs last.cut s)
  | _, _ => s

/-- The records of a chain. -/
def Planner.chainRecords (p : Planner) (head : Nat) : List PlateRecord := p.table.filter fun r => r.chain == head

/-- R126: in DRAINING an open chain at the front of the table retires. -/
def drainChain (s : State) : State :=
  if s.mode ≠ .draining then s
  else
    match s.planner.openChain, s.planner.table.head? with
    | some h, some r => if r.chain = h then retireChain (s.planner.chainRecords h) s else s
    | _, _ => s

/-! ### Failed cuts (R119, R120) -/

/-- How a cut fails. -/
inductive CutFailure where
  | rejected (r : RejectReason)
  | missed
  | overdue
  deriving DecidableEq, Repr

def CutFailure.state : CutFailure → CutState
  | .rejected _ => .rejected
  | .missed | .overdue => .missed

def CutFailure.kind : CutFailure → FaultKind
  | .rejected _ => .cutReject
  | .missed => .cutMissed
  | .overdue => .cutOverdue

def CutFailure.reason : CutFailure → Option RejectReason
  | .rejected r => some r
  | .missed | .overdue => none

/-- R175. -/
def CutFailure.count : CutFailure → Shift → Shift
  | .rejected _ => Shift.cutRejected
  | .missed => Shift.cutMissed
  | .overdue => Shift.cutOverdue

/-- R119, R120: the cut is settled, the fault reported and counted, and the record or the lead-in spills. -/
def failCut (f : CutFailure) (h : HeldCut) (s : State) : State :=
  let s := setCut h.cut.id f.state s
  let s := report1 f.kind { s.here with plate := h.plate, cut := some h.cut.id, reason := f.reason } s
  let s := tally f.count s
  drainChain (match h.plate with
    | none => spillLeadIn s
    | some id => spillRecord id s)

end Sys2Proof.Machine
end

