-- ==== Sys2Proof/Machine/Planner.lean ====
section
/-!
DEFINITION. The Cut Planner (Chapter 6): candidates, plans and commits, the cutter's answers, the overdue rule, the drain, and the requests
about cut parameters and plates.
-/

namespace Sys2Proof.Machine

/-! ### Candidates (R110) -/

/-- C_min of the agreement; it stands whenever a plan is made. -/
def State.cMin (s : State) : Nat := (s.cutter.agreement.map Agreement.cMin).getD s.planner.params.minCull

/-- R110: a map entry is a window flaw. -/
def State.windowFlaw (s : State) (e : MapEntry) : Bool :=
  decide (e.yFirst < s.windowEnd) && decide (s.planner.yPrev ≤ e.yLast) && decide (e.xFirst < s.geo.xR) &&
    decide (s.geo.xL ≤ e.xLast)

/-- R110 steps 2 to 4: 0 and the values from C_min to C_max, each once, the 16 smallest in ascending order. -/
def chooseLengths (cMin cMax : Nat) (values : List Nat) : List Nat :=
  (sortByKey id (distinct (0 :: values.filter fun c => within cMin cMax c))).take Config.candidateCount

/-- R110: the candidate lengths. -/
def State.candidates (s : State) : List Nat :=
  chooseLengths s.cMin s.planner.params.maxCull
    (s.cMin :: (s.map.entries.filter s.windowFlaw).map fun e => e.yLast + 1 + s.planner.params.clearance - s.planner.yPrev)

/-- R111: the first candidate whose plate meets the target. -/
def State.bestCandidate (s : State) (o : Order) : Option Nat :=
  s.candidates.find? fun c => (s.evaluatePlate o (s.planner.yPrev + c)).meetsTarget o.target

/-! ### Commit (R114, R146) -/

/-- R114 steps 1 and 2, with what step 3 makes of the record: absorbed into an open chain with grades X and no references, or with
the references it takes. -/
def State.newRecord (s : State) (order : Option Order) (length : Nat) (forced : Bool) : PlateRecord :=
  let y : Span := ⟨s.planner.yPrev, s.planner.yPrev + length⟩
  let pieces := s.gradePieces order forced y
  let r : PlateRecord :=
    { id := s.planner.nextPlate, kind := if order.isSome then .plate else .cull, order := order.map Order.id,
      yStart := y.start, yEnd := y.stop, version := s.grader.version, pieces := pieces, grade := worstGrade pieces,
      forced := forced, state := .committed, cut := ⟨s.planner.nextCut, y.stop, .sent⟩, rejectDest := s.grader.active.dest.x,
      flawRefs := [], blindRefs := [], absorbedInto := none, counted := false }
  match s.planner.openChain with
  | some h => { r.reject with absorbedInto := some h }
  | none =>
    { r with flawRefs := s.meetingFlaws y.start y.stop, blindRefs := s.meetingBlind y.start y.stop,
             counted := order.any fun o => o.counts r.grade }

/-- R114 step 3: references over the record's span, unless it is absorbed. -/
def takeRecordReferences (r : PlateRecord) (s : State) : State :=
  if r.absorbedInto.isSome then s else takeReferences r.yStart r.yEnd s

/-- R114: one record is committed. -/
def commitRecord (order : Option Order) (length : Nat) (forced : Bool) (s : State) : State :=
  let r := s.newRecord order length forced
  let s := s.modPlanner fun p =>
    { p with table := p.table ++ [r], nextPlate := nextId p.nextPlate, nextCut := nextId p.nextCut }
  let s := takeRecordReferences r s
  let s := match r.order with
    | none => s
    | some id => orderCommitted id r.counted s
  sendCut r.cut.id r.yEnd (s.modPlanner fun p => { p with yPrev := r.yEnd, lastCut := some r.yEnd })

/-- A filler cull or a CULL fallback. -/
def commitCull (length : Nat) (forced : Bool) (s : State) : State := commitRecord none length forced s

def commitPlate (o : Order) (forced : Bool) (s : State) : State := commitRecord (some o) o.length forced s

/-! ### Plans (R108, R109, R111 to R113) -/

/-- R111: what a plan for an ACTIVE order commits. -/
def planOrder (o : Order) (s : State) : State :=
  match s.bestCandidate o with
  | some c => commitPlate o false (if c = 0 then s else commitCull c false s)
  | none =>
    match o.fallback with
    | .take => commitPlate o false s
    | .cull => commitCull s.planner.params.maxCull false s

/-- R112: a filler cull. -/
def planFiller (forced : Bool) (s : State) : State :=
  commitCull s.planner.params.maxCull forced (ordersExhausted s)

/-- R113: a forced plan. -/
def planForced (s : State) : State :=
  let s := tally Shift.planForced (raise .planForced s)
  match s.activeOrder with
  | some o => commitPlate o true s
  | none => planFiller true s

/-- NORMAL PLAN (R108). -/
def normalPlan (s : State) : State :=
  if s.ctl.held || !s.normalDue then s
  else
    testRoom (match s.activeOrder with
      | some o => planOrder o s
      | none => planFiller false s)

def execNormalPlan (s : State) : Outcome := .next (normalPlan s)

/-- FORCED PLAN (R109). -/
def forcedPlan (s : State) : State :=
  if s.ctl.held || !s.forcedDue then s else testRoom (planForced s)

def execForcedPlan (s : State) : Outcome := .next (forcedPlan s)

/-- PLAN OVERRUN (R109). `late`: it was due before the last change to HALTED, which the Planner has not yet taken (log 7). -/
def planOverrun (late : Bool) (s : State) : State :=
  if s.ctl.held then s
  else if s.overrunDue || (late && s.fault.before.any BeforeHalt.overrunDue) then report2 .planOverrun s.here s
  else s

def execPlanOverrun (late : Bool) (s : State) : Outcome := .next (planOverrun late s)

/-! ### The head cut (R107) -/

/-- R107: the position of the head cut. -/
def State.headCutPos (s : State) (a : Agreement) : Nat :=
  let lead := s.pos.y + a.lead + s.planner.params.guard - s.geo.dgc
  roundUp (match s.planner.lastCut with
    | none => lead
    | some p => max lead (p + a.cMin)) s.geo.pitch

/-- R107: the head cut is committed and its CUT sent. -/
def commitHead (pos : Nat) (s : State) : State :=
  sendCut s.planner.nextCut pos (s.modPlanner fun p =>
    { p with head := some ⟨⟨p.nextCut, pos, .sent⟩, true⟩, nextCut := nextId p.nextCut, yPrev := pos, lastCut := some pos,
             planning := .ready })

/-! ### Answers (R117 to R121) -/

/-- R121: an answer is discarded as CUTTER PROTOCOL. -/
def protocolFault (id : Option Nat) (s : State) : State := report1 .cutterProtocol { s.here with cut := id } s

/-- R116, R121: an answer to a live cut is settled; any other is discarded. Nothing is taken while the part is held in reset. -/
def answerCut (id : Nat) (settle : HeldCut → State → State) (s : State) : State :=
  if s.ctl.held then s
  else
    match s.findCut id with
    | none => protocolFault (some id) s
    | some h => if h.cut.state.live then settle h s else protocolFault (some id) s

/-- R117: a cut in state SENT becomes ACCEPTED, and its record unless it is SPILLED. -/
def acceptCut (h : HeldCut) (s : State) : State :=
  if h.cut.state = .sent then
    let s := setCut h.cut.id .accepted s
    match h.plate with
    | none => s
    | some id => modRecord id (fun r => if r.state = .spilled then r else { r with state := .accepted }) s
  else s

def execCutAccept (id : Nat) (s : State) : Outcome := .next (answerCut id acceptCut s)

/-- R119. -/
def execCutReject (id : Nat) (reason : RejectReason) (s : State) : Outcome :=
  .next (answerCut id (failCut (.rejected reason)) s)

/-- R119. -/
def execCutMissed (id : Nat) (s : State) : Outcome := .next (answerCut id (failCut .missed) s)

/-- The live cuts below a position, in ribbon order. -/
def State.liveBelow (s : State) (pos : Nat) : List HeldCut :=
  s.planner.cuts.filter fun h => h.cut.state.live && decide (h.cut.pos < pos)

/-- R118: the record whose cut is DONE retires alone or with its chain; then a pending close is made (R177), and in DRAINING an open
chain that has come to the front retires, in the shift that the close has opened (DESIGN CHOICE, log 49). -/
def retireDone (id : Nat) (s : State) : State :=
  match s.findRecord id with
  | none => s
  | some r =>
    drainChain (makePendingClose
      (match r.absorbedInto with
       | none => retireAlone r s
       | some h => retireChain (s.planner.chainRecords h) s))

/-- R118. -/
def doneCut (h : HeldCut) (s : State) : State :=
  let s := (s.liveBelow h.cut.pos).foldl (fun s e => failCut .missed e s) s
  let s := setCut h.cut.id .done s
  match h.plate with
  | none => s
  | some id => retireDone id (modRecord id (fun r => { r with state := .cut }) s)

def execCutDone (id : Nat) (s : State) : Outcome := .next (answerCut id doneCut s)

/-! ### The overdue rule (R120) -/

/-- R120: a live cut has passed its overdue point. -/
def State.overdue (s : State) (h : HeldCut) : Bool :=
  h.cut.state.live && decide (h.cut.pos + s.geo.dgc + s.planner.params.overdue ≤ s.pos.y)

/-- CUT OVERDUE: every cut that is overdue, in ascending position. -/
def cutOverdue (s : State) : State :=
  if s.ctl.held || !s.mode.cutting then s
  else (s.planner.cuts.filter s.overdue).foldl (fun s h => failCut .overdue h s) s

def execCutOverdue (s : State) : Outcome := .next (cutOverdue s)

/-! ### The drain (R127) -/

/-- R127: the table holds no record and the head cut is settled. -/
def State.drainDone (s : State) : Bool :=
  s.mode == .draining && s.planner.table.isEmpty && !(s.planner.head.any fun h => h.cut.state.live)

/-- DRAIN COMPLETE: a pending close is made as the mode becomes INSPECT (R177), and STOP PRODUCTION is answered (log 25). -/
def drainComplete (s : State) : State :=
  if s.ctl.held || !s.drainDone then s
  else
    answerDelayed .stopProduction .ok .empty
      (makePendingClose (setMode .inspect (s.modPlanner fun p => { p with head := none, planning := .off })))

def execDrainComplete (s : State) : Outcome := .next (drainComplete s)

/-- R127, R100: STOP PRODUCTION once its checks have passed. -/
def stopProductionBody (tag : Nat) (s : State) : Answer :=
  if s.delayFull then .refuse .delayListFull
  else
    .delay (drainChain (requeue (fun o => o == .active)
      (setMode .draining ((addDelayed .stopProduction tag s).modPlanner fun p => { p with planning := .draining }))))

def execStopProduction (tag : Nat) (c : Content Unit) (s : State) : Outcome :=
  .next (request .stopProduction tag c (fun _ => stopProductionBody tag) s)

/-! ### Requests -/

/-- R104, R157. -/
def setCutParametersBody (p : CutParameters) (s : State) : Answer :=
  if cutParametersOk p then .ok (reassess (s.modPlanner fun q => { q with params := p, configured := true })) .empty
  else .refuse .badField

def execSetCutParameters (tag : Nat) (c : Content CutParameters) (s : State) : Outcome :=
  .next (request .setCutParameters tag c setCutParametersBody s)

/-- R105: while AGREED, C_min, the lead distance and the planning window of the ACTIVE order. The agreed speed, which Table 8-1 shows here and
R105 does not list, is left out (DESIGN CHOICE, log 38). -/
def State.agreedParameters (s : State) : Option (Nat × Nat × Option Nat) :=
  s.cutter.agreement.map fun a =>
    (a.cMin, a.lead, s.activeOrder.map fun o => s.planner.params.maxCull + o.length)

def execReadCutParameters (tag : Nat) (c : Content Unit) (s : State) : Outcome :=
  .next (request .readCutParameters tag c (fun _ s => answerWith
    (.cutParameters s.planner.configured s.planner.params s.agreedParameters) s) s)

/-- R129. -/
def readPlatesBody (q : PageQuery) (s : State) : Answer :=
  let content (rs : Found PlateRecord) : Answer :=
    .ok s (.plates rs s.planner.planning s.planner.yPrev s.planner.lastCut (s.planner.head.map HeadCut.cut)
      s.planner.table.length s.planner.nextPlate s.planner.nextCut s.planner.openChain)
  match q with
  | .bySkip k => if 127 < k then .refuse .badField else content (.page none ((s.planner.table.drop k).take Config.platePage))
  | .byId id =>
    match s.findRecord id with
    | none => .refuse .notFound
    | some r => content (.one r)

def execReadPlates (tag : Nat) (c : Content PageQuery) (s : State) : Outcome :=
  .next (request .readPlates tag c readPlatesBody s)

/-! ### Records and pins of the cutter that may report a fault -/

/-- R152: a malformed record, with the cut id if its content holds one. -/
def execMalformedRecord (cut : Option Nat) (s : State) : Outcome :=
  .next (if s.ctl.held then s else protocolFault cut s)

/-- The unit sees an agreement: the one in force, or with `late` one that the line reset has since taken away, of which the unit has not yet
heard (log 7). One that its own DECLINE or clearing has ended is NONE for it too (R156, R158). -/
def State.seenAgreed (late : Bool) (s : State) : Bool :=
  s.cutter.agreement.isSome || (late && s.fault.before.any BeforeHalt.unseenLoss)

/-- R154 to R156, R159: a capability is held in HALTED, else evaluated; a DECLINE that ends an agreement in PRODUCE or DRAINING is
reported as AGREEMENT LOST. A late capability is answered after the CUTTER HALT of the halt that it missed (DESIGN CHOICE, log 47: R164 orders
only a DECLINE and the CUTTER HALT of the halt it causes). -/
def takeCapability (c : Capability) (late : Bool) (s : State) : State :=
  if s.ctl.held then s
  else if seenMode late s = .halted then s.modCutter fun u => { u with held := some c }
  else
    let lost := (s.declineReason s.cutter.ready c).isSome && s.seenAgreed late && (seenMode late s).cutting
    let s := evaluate s.cutter.ready c (setUnseenLoss false s)
    if lost then report2 .agreementLost s.here s else s

def execCapability (c : Capability) (late : Bool) (s : State) : Outcome := .next (takeCapability c late s)

/-- R153, R158. While the part is held in reset only the level follows. -/
def readyCleared (late : Bool) (s : State) : State :=
  if s.ctl.held then s.modCutter fun u => { u with ready := false }
  else
    let lost := s.seenAgreed late && (seenMode late s).cutting
    let s := dropAgreement (setUnseenLoss false (s.modCutter fun u => { u with ready := false, held := none }))
    if lost then report2 .cutterLost s.here s else s

def execCutterReadyCleared (late : Bool) (s : State) : Outcome := .next (readyCleared late s)

end Sys2Proof.Machine
end

