-- ==== Sys2Proof/Machine/Ribbon.lean ====
section
/-!
DEFINITION. The Position Unit (Chapter 1): encoder pulses, Y increments, the scan trigger, the speed window and stall, the BREAK input, and the
requests about the line geometry and the position.
-/

namespace Sys2Proof.Machine

/-! ### The encoder (R1 to R3) -/

/-- How a change of the phase inputs is classified (R1). -/
inductive PhaseMove where
  | same | forward | reverse | error
  deriving DecidableEq, Repr

/-- The next state of the forward cycle, in which A leads B. -/
def nextPhase (p : Bool × Bool) : Bool × Bool := (!p.2, p.1)

/-- R1. -/
def classifyMove (old new : Bool × Bool) : PhaseMove :=
  if new = old then .same
  else if new = nextPhase old then .forward
  else if old = nextPhase new then .reverse
  else .error

/-- R9: the trigger for line `n` is broadcast. With no lane following flaws K is recomputed (R58); with no lane examining digests
the line may end the map-full condition (R76), by the entries held before the Y increment retires any (DESIGN CHOICE, log 41). -/
def trigger (n : Nat) (s : State) : State :=
  let slot := ((s.setFor n).map fun d => d.slotNumber n).getD 0
  let s := (s.modPos fun p => { p with lastLine := some n }).modOut
    fun o => { o with triggers := o.triggers ++ [⟨n % 65536, slot⟩] }
  let s := if s.anyLane LaneState.following then s else recomputeK s
  if s.anyLane LaneState.examining then s else noteMapFullEnd n s

/-- Triggers are issued (R9, Table 11-3). -/
def Mode.triggers : Mode → Bool
  | .inspect | .produce | .draining | .halted => true
  | .idle => false

/-- R12: the stall timer restarts, and a STOPPED ribbon becomes MOVING. -/
def ribbonMoves (s : State) : State :=
  let t := s.modPos fun p => { p with stallRunning := true, ribbon := .moving }
  if s.pos.ribbon = .stopped then raise .ribbonState t else t

/-- R171. -/
def countInspected (s : State) : State := if s.mode.scanning then tally Shift.inspect s else s

/-- R2: a Y increment, and what follows from it: R10, R12, R171, the scan trigger (R9), the retirement test (R83) and the planning
triggers (R106). The trigger comes before the retirement (DESIGN CHOICE, log 41). -/
def yIncrement (s : State) : State :=
  let s := ribbonMoves (s.modPos fun p =>
    { p with y := p.y + 1, windowCount := satAdd Config.max16 p.windowCount 1 })
  let s := countInspected s
  if s.mode.triggers then
    let s := s.modMap fun m => { m with testDue := true }
    testRoom (if s.pos.y % s.geo.pitch = 0 then trigger (s.pos.y / s.geo.pitch) s else s)
  else s

/-- R2. -/
def forwardPulse (s : State) : State :=
  if 0 < s.pos.debt then s.modPos fun p => { p with debt := p.debt - 1 }
  else if s.pos.rem + Config.pulseUnit < s.geo.ppm then s.modPos fun p => { p with rem := p.rem + Config.pulseUnit }
  else if Config.maxY ≤ s.pos.y then s.modPos fun p => { p with rem := 0 }
  else yIncrement (s.modPos fun p => { p with rem := p.rem + Config.pulseUnit - p.geometry.ppm })

/-- R3. -/
def reversePulse (late : Bool) (s : State) : State :=
  if s.pos.debt < Config.maxDebt then s.modPos fun p => { p with debt := p.debt + 1 }
  else if (seenMode late s).scanning then report2 .ribbonReversal s.here s
  else s

/-- R1. -/
def phaseError (late : Bool) (s : State) : State :=
  if (seenMode late s).scanning then report2 .encoderPhase s.here s else s

/-- The new levels become the phase state. -/
def setPhase (a b : Bool) (s : State) : State := s.modPos fun p => { p with phaseA := a, phaseB := b }

/-- R1: what a classified change does once the line geometry is configured. -/
def takeMove (m : PhaseMove) (late : Bool) (s : State) : State :=
  match m with
  | .same => s
  | .forward => forwardPulse s
  | .reverse => reversePulse late s
  | .error => phaseError late s

/-- ENCODER STATE CHANGE. While the part is held in reset, and while the geometry is not configured, only the phase state follows. A
trigger issued is followed by what its issue calls for (R26, R62, R63). -/
def encoderChange (a b late : Bool) (s : State) : State :=
  let m := classifyMove (s.pos.phaseA, s.pos.phaseB) (a, b)
  if s.ctl.held || !s.pos.configured then setPhase a b s
  else followTrigger (takeMove m late (setPhase a b (takeTriggerWork s)))

def execEncoderStateChange (a b late : Bool) (s : State) : Outcome := .next (encoderChange a b late s)

/-! ### Speed and stall (R10 to R12) -/

/-- R11: the speed estimate against the agreed speed. -/
def judgeSpeed (s : State) : State :=
  match s.mode.cutting, s.cutter.agreement with
  | true, some a =>
    if s.pos.speed ≤ a.speed then s.modPos fun p => { p with overspeed := false }
    else if s.pos.overspeed then s
    else report1 .overspeed { s.here with speed := some s.pos.speed } (s.modPos fun p => { p with overspeed := true })
  | _, _ => s

/-- R10, R11: the end of a 100 ms window. -/
def speedWindow (s : State) : State :=
  if s.ctl.held then s else judgeSpeed (s.modPos fun p => { p with speed := p.windowCount, windowCount := 0 })

def execSpeedWindow (s : State) : Outcome := .next (speedWindow s)

/-- R12: the running stall timer expires. -/
def stall (s : State) : State :=
  if s.ctl.held || !s.pos.stallRunning then s
  else
    let t := s.modPos fun p => { p with stallRunning := false, ribbon := .stopped }
    if s.pos.ribbon = .moving then raise .ribbonState t else t

def execStall (s : State) : Outcome := .next (stall s)

/-! ### BREAK (R13 to R15) -/

def setBreak (level : Bool) (s : State) : State := s.modPos fun p => { p with breakLevel := level }

/-- R13, R14: assertion, in the mode the unit sees. A late marking has nothing to open once the line reset has ended it (log 7). -/
def breakAsserted (late : Bool) (s : State) : State :=
  if s.ctl.held || s.pos.breakLevel || !(seenMode late s).scanning then setBreak true s
  else
    match s.geo.breakAction with
    | .halt => report2 .ribbonBreak s.here (setBreak true s)
    | .mark => if s.mode = .idle then setBreak true s else openMarking s.nextLineLabel (setBreak true s)

def execBreakAsserted (late : Bool) (s : State) : Outcome := .next (breakAsserted late s)

/-- R15. -/
def breakCleared (s : State) : State :=
  if s.ctl.held || !s.pos.breakMarking then setBreak false s
  else closeMarking s.nextLineLabel (setBreak false s)

def execBreakCleared (s : State) : Outcome := .next (breakCleared s)

/-! ### Requests -/

/-- R4: what a write does to the Position Unit. -/
def Position.write (g : LineGeometry) (p : Position) : Position :=
  { p with geometry := g, configured := true, rem := 0, debt := 0, stallRunning := decide (p.ribbon = .moving) }

/-- R4, R92, R157: the split positions are checked, then the capability in force is evaluated again. -/
def setLineGeometryBody (f : LineGeometryFields) (s : State) : Answer :=
  match lineGeometryOf f with
  | none => .refuse .badField
  | some g => .ok (reassess (splitChecks (s.modPos (Position.write g)))) .empty

def execSetLineGeometry (tag : Nat) (c : Content LineGeometryFields) (s : State) : Outcome :=
  .next (request .setLineGeometry tag c setLineGeometryBody s)

/-- R5. -/
def execReadLineGeometry (tag : Nat) (c : Content Unit) (s : State) : Outcome :=
  .next (request .readLineGeometry tag c (fun _ s => answerWith (.lineGeometry s.pos.configured s.pos.geometry) s) s)

/-- R5. -/
def execReadPosition (tag : Nat) (c : Content Unit) (s : State) : Outcome :=
  .next (request .readPosition tag c (fun _ s => answerWith
    (.position s.pos.y s.pos.lastLine s.pos.debt s.pos.speed s.pos.overspeed s.pos.ribbon s.pos.breakLevel
      s.pos.breakMarking) s) s)

end Sys2Proof.Machine
end

