-- ==== Sys2Proof/Machine/Modes.lean ====
section
/-!
DEFINITION. The requests that change the mode (R200 to R202), RESET, and the full reset with its three causes (R204).
-/

namespace Sys2Proof.Machine

/-! ### START INSPECT (R200, R6, R19, R20, R42, R67) -/

/-- R20, R42: one lane at the start: a named lane is started with expected line and acceptance label 0. -/
def startNamed (set : BitVec 8) (i : LaneId) (s : State) : State :=
  if set.getLsbD i.val then
    setLaneState i .settling (s.modLane i fun l => { l.fresh 0 with acceptance := 0 })
  else s

/-- R42: a configured lane's interval opens at label 0. -/
def openAtStart (i : LaneId) (s : State) : State :=
  if (s.lane i).configured then openLaneInterval i 0 s else s

/-- R6: the Position Unit at the start. -/
def Position.restart (p : Position) : Position := { p with y := 0, rem := 0, debt := 0 }

/-- R67. -/
def Tracker.restart (t : Tracker) : Tracker :=
  { t with tables := Vector.replicate 8 FlawTable.empty, frontier := 0 }

/-- R13, R14: BREAK present at the start. With action HALT the report follows the start (log 31). -/
def markAtStart (s : State) : State :=
  if s.pos.breakLevel ∧ s.geo.breakAction = .mark then openMarking 0 s else s

def haltAtStart (s : State) : State :=
  if s.pos.breakLevel ∧ s.geo.breakAction = .halt then report2 .ribbonBreak s.here s else s

/-- R200: the blocks take the start; the trigger for line 0 is issued at once. -/
def startInspect (set : BitVec 8) (s : State) : State :=
  let s := setMode .inspect ((s.modFault fun f => { f with before := none }).modPos Position.restart)
  let s := forLanes (startNamed set) (fixOwnedSpans (s.modTracker Tracker.restart))
  haltAtStart (trigger 0 (markAtStart (forLanes openAtStart s)))

/-- A named lane is not configured. -/
def State.namesUnconfigured (s : State) (set : BitVec 8) : Bool :=
  allLanes.any fun i => set.getLsbD i.val && !(s.lane i).configured

/-- R200, checks 1 to 3. -/
def startInspectBody (set : BitVec 8) (s : State) : Answer :=
  if !s.pos.configured || s.tracker.active.isNone || s.namesUnconfigured set then .refuse .notConfigured
  else if s.spansRefused then .refuse .badField
  else if s.coverageGap then .refuse .coverageGap
  else .ok (startInspect set s) .empty

def execStartInspect (tag : Nat) (c : Content (BitVec 8)) (s : State) : Outcome :=
  .next (request .startInspect tag c startInspectBody s)

/-! ### STOP INSPECT (R201, R64) -/

/-- R64: a pending set becomes the active copy at once, and the apply is answered OK with its switch line. -/
def completeApply (s : State) : State :=
  match s.tracker.apply with
  | .waiting set l =>
    answerDelayed .applyDetection .ok (.switchLine l)
      (s.modTracker fun t => { t with active := some set, apply := .none })
  | .none | .switched _ => s

def stopInspect (s : State) : State := returnToIdle (completeApply s)

def execStopInspect (tag : Nat) (c : Content Unit) (s : State) : Outcome :=
  .next (request .stopInspect tag c (fun _ s => .ok (stopInspect s) .empty) s)

/-! ### START PRODUCTION (R202, R107) -/

/-- R202: the exhausted mark is cleared, the head cut committed, an order activated and the triggers tested. -/
def startProduction (a : Agreement) (s : State) : State :=
  testRoom (activateNext (commitHead (s.headCutPos a)
    ((setMode .produce s).modOrders fun u => { u with exhausted := false })))

def startProductionBody (s : State) : Answer :=
  if !s.planner.configured ∨ s.grader.version = 0 then .refuse .notConfigured
  else
    match s.cutter.agreement with
    | none => .refuse .noAgreement
    | some a => .ok (startProduction a s) (.headCut s.planner.nextCut (s.headCutPos a))

def execStartProduction (tag : Nat) (c : Content Unit) (s : State) : Outcome :=
  .next (request .startProduction tag c (fun _ => startProductionBody) s)

/-! ### The full reset (R204) -/

/-- Every block takes its values after a full reset, with the levels its inputs then have and the straps as read. What the part has
sent and the queue of commands are no state of a block (log 5). -/
def State.afterReset (s : State) (pins : Pins) : State :=
  { State.reset with
    pos := Position.initial pins.phaseA pins.phaseB pins.breakLevel, cutter := CutterLink.initial pins.ready,
    ctl := ⟨pins.reset, false, pins.straps⟩, out := s.out, pending := s.pending }

/-- The levels of the inputs as they stand with the RESET pin released, and the given straps. -/
def State.pins (s : State) (straps : Straps) : Pins :=
  ⟨s.pos.phaseA, s.pos.phaseB, s.pos.breakLevel, s.cutter.ready, false, straps⟩

/-- R204: RESET is answered OK; the full reset follows once the reply has been sent. -/
def execReset (tag : Nat) (c : Content Unit) (s : State) : Outcome :=
  .next (request .reset tag c (fun _ s => .ok (s.modCtl fun k => { k with resetting := true }) .empty) s)

/-- FULL RESET: the full reset that a RESET taken calls for. -/
def fullReset (straps : Straps) (s : State) : State :=
  if s.ctl.resetting && !s.ctl.held then s.afterReset (s.pins straps) else s

def execFullReset (straps : Straps) (s : State) : Outcome := .next (fullReset straps s)

/-- POWER ON: power-on completes. With the RESET pin asserted the part stays held in reset until its release. -/
def execPowerOn (pins : Pins) (s : State) : Outcome := .next (s.afterReset pins)

/-- RESET PIN: asserted, the part is held in reset; released, the full reset is performed. -/
def resetPin (asserted : Bool) (straps : Straps) (s : State) : State :=
  if asserted then s.modCtl fun k => { k with held := true }
  else if s.ctl.held then s.afterReset (s.pins straps)
  else s

def execResetPin (asserted : Bool) (straps : Straps) (s : State) : Outcome := .next (resetPin asserted straps s)

end Sys2Proof.Machine
end

