-- ==== Sys2Proof/Machine/Dispatch.lean ====
section
/-!
DEFINITION. The meaning of every command: one arm for each constructor of Instr, each a direct call of its meaning.
-/

namespace Sys2Proof.Machine

def exec (i : Instr) (s : State) : Host.Outcome State Fault Refusal :=
  match i with
  | .encoderStateChange a b late => Sys2Proof.Machine.execEncoderStateChange a b late s
  | .stall => Sys2Proof.Machine.execStall s
  | .speedWindow => Sys2Proof.Machine.execSpeedWindow s
  | .breakAsserted late => Sys2Proof.Machine.execBreakAsserted late s
  | .breakCleared => Sys2Proof.Machine.execBreakCleared s
  | .gantryDigest lane d => Sys2Proof.Machine.execGantryDigest lane d s
  | .digestDeadline => Sys2Proof.Machine.execDigestDeadline s
  | .gantryFrameDiscarded lane => Sys2Proof.Machine.execGantryFrameDiscarded lane s
  | .gantryByteTimeout lane => Sys2Proof.Machine.execGantryByteTimeout lane s
  | .detectionSwitch => Sys2Proof.Machine.execDetectionSwitch s
  | .switchComplete => Sys2Proof.Machine.execSwitchComplete s
  | .mapFullEnd => Sys2Proof.Machine.execMapFullEnd s
  | .mapRetirement => Sys2Proof.Machine.execMapRetirement s
  | .normalPlan => Sys2Proof.Machine.execNormalPlan s
  | .forcedPlan => Sys2Proof.Machine.execForcedPlan s
  | .planOverrun late => Sys2Proof.Machine.execPlanOverrun late s
  | .cutOverdue => Sys2Proof.Machine.execCutOverdue s
  | .cutAccept cut => Sys2Proof.Machine.execCutAccept cut s
  | .cutDone cut => Sys2Proof.Machine.execCutDone cut s
  | .cutReject cut reason => Sys2Proof.Machine.execCutReject cut reason s
  | .cutMissed cut => Sys2Proof.Machine.execCutMissed cut s
  | .capability c late => Sys2Proof.Machine.execCapability c late s
  | .malformedRecord cut => Sys2Proof.Machine.execMalformedRecord cut s
  | .cutterFrameDiscarded => Sys2Proof.Machine.execCutterFrameDiscarded s
  | .cutterReadyAsserted => Sys2Proof.Machine.execCutterReadyAsserted s
  | .cutterReadyCleared late => Sys2Proof.Machine.execCutterReadyCleared late s
  | .drainComplete => Sys2Proof.Machine.execDrainComplete s
  | .pendingClose => Sys2Proof.Machine.execPendingClose s
  | .frameDiscarded => Sys2Proof.Machine.execFrameDiscarded s
  | .frameTimeout => Sys2Proof.Machine.execFrameTimeout s
  | .unknownRequest kind tag => Sys2Proof.Machine.execUnknownRequest kind tag s
  | .setLineGeometry tag c => Sys2Proof.Machine.execSetLineGeometry tag c s
  | .readLineGeometry tag c => Sys2Proof.Machine.execReadLineGeometry tag c s
  | .readPosition tag c => Sys2Proof.Machine.execReadPosition tag c s
  | .setLaneGeometry tag c => Sys2Proof.Machine.execSetLaneGeometry tag c s
  | .startLane tag c => Sys2Proof.Machine.execStartLane tag c s
  | .stopLane tag c => Sys2Proof.Machine.execStopLane tag c s
  | .setDarkOffset tag c => Sys2Proof.Machine.execSetDarkOffset tag c s
  | .setColumnMask tag c => Sys2Proof.Machine.execSetColumnMask tag c s
  | .setDynamicMasking tag c => Sys2Proof.Machine.execSetDynamicMasking tag c s
  | .readLane tag c => Sys2Proof.Machine.execReadLane tag c s
  | .writeDetectionSet tag c => Sys2Proof.Machine.execWriteDetectionSet tag c s
  | .applyDetection tag c => Sys2Proof.Machine.execApplyDetection tag c s
  | .readDetectionSet tag c => Sys2Proof.Machine.execReadDetectionSet tag c s
  | .readOpenFlaws tag c => Sys2Proof.Machine.execReadOpenFlaws tag c s
  | .readFlaws tag c => Sys2Proof.Machine.execReadFlaws tag c s
  | .readBlind tag c => Sys2Proof.Machine.execReadBlind tag c s
  | .loadOrder tag c => Sys2Proof.Machine.execLoadOrder tag c s
  | .withdrawOrder tag c => Sys2Proof.Machine.execWithdrawOrder tag c s
  | .readOrders tag c => Sys2Proof.Machine.execReadOrders tag c s
  | .setCutParameters tag c => Sys2Proof.Machine.execSetCutParameters tag c s
  | .readCutParameters tag c => Sys2Proof.Machine.execReadCutParameters tag c s
  | .stopProduction tag c => Sys2Proof.Machine.execStopProduction tag c s
  | .readPlates tag c => Sys2Proof.Machine.execReadPlates tag c s
  | .writeGradeRows tag c => Sys2Proof.Machine.execWriteGradeRows tag c s
  | .applyGradeTable tag c => Sys2Proof.Machine.execApplyGradeTable tag c s
  | .readGradeTable tag c => Sys2Proof.Machine.execReadGradeTable tag c s
  | .readCutter tag c => Sys2Proof.Machine.execReadCutter tag c s
  | .closeShift tag c => Sys2Proof.Machine.execCloseShift tag c s
  | .readShift tag c => Sys2Proof.Machine.execReadShift tag c s
  | .readShiftReport tag c => Sys2Proof.Machine.execReadShiftReport tag c s
  | .readJournal tag c => Sys2Proof.Machine.execReadJournal tag c s
  | .haltLine tag c => Sys2Proof.Machine.execHaltLine tag c s
  | .readFault tag c => Sys2Proof.Machine.execReadFault tag c s
  | .clearFault tag c => Sys2Proof.Machine.execClearFault tag c s
  | .startInspect tag c => Sys2Proof.Machine.execStartInspect tag c s
  | .stopInspect tag c => Sys2Proof.Machine.execStopInspect tag c s
  | .startProduction tag c => Sys2Proof.Machine.execStartProduction tag c s
  | .reset tag c => Sys2Proof.Machine.execReset tag c s
  | .fullReset straps => Sys2Proof.Machine.execFullReset straps s
  | .powerOn pins => Sys2Proof.Machine.execPowerOn pins s
  | .resetPin asserted straps => Sys2Proof.Machine.execResetPin asserted straps s
  | .readEvents tag c => Sys2Proof.Machine.execReadEvents tag c s
  | .clearEvents tag c => Sys2Proof.Machine.execClearEvents tag c s
  | .setEventMask tag c => Sys2Proof.Machine.execSetEventMask tag c s

end Sys2Proof.Machine
end

