-- ==== Sys2Proof/Machine/Step.lean ====
section
/-!
DEFINITION. One step: the command at the front of the queue, or with no command waiting the first of the part's own steps that is due
(log 1), or nothing.
-/

namespace Sys2Proof.Machine

/-- A lane's expected digest is overdue (R26). -/
def State.deadlineDue (s : State) : Bool :=
  s.mode.scanning && allLanes.any fun i =>
    (s.lane i).state.examining && s.pos.lastLine.any fun t => decide ((s.lane i).expected + 2 ≤ t)

/-- A live cut is overdue (R120). -/
def State.overdueDue (s : State) : Bool := s.mode.cutting && s.planner.cuts.any s.overdue

/-- A pending close that CUT DONE, the drain and the halt have left to make (R177). -/
def State.closeDue (s : State) : Bool := s.report.pendingClose.isSome && !s.mode.cutting

/-- The part's own steps with their conditions, in the order the model tries them (log 1). -/
def State.ownSteps (s : State) : List (Bool × Instr) :=
  [(s.ctl.resetting, .fullReset s.ctl.straps), (s.dueSwitch.isSome, .detectionSwitch), (s.deadlineDue, .digestDeadline),
   (s.switchDue, .switchComplete), (s.map.fullEnd.isSome, .mapFullEnd), (s.map.testDue, .mapRetirement),
   (s.overdueDue, .cutOverdue), (s.drainDone, .drainComplete), (s.closeDue, .pendingClose), (s.normalDue, .normalPlan),
   (s.forcedDue, .forcedPlan), (s.overrunDue, .planOverrun false)]

/-- The first of the part's own steps that is due. None while the part is held in reset. -/
def State.due (s : State) : Option Instr :=
  if s.ctl.held then none else (s.ownSteps.find? fun p => p.1).map Prod.snd

/-- One step. -/
def step (s : State) : Host.Outcome State Fault Refusal :=
  match s.pending with
  | c :: rest => exec c { s with pending := rest }
  | [] =>
    match s.due with
    | some c => exec c s
    | none => .next s

/-- The command a word spells is put at the front of the queue. The table gives no row bits, so no word spells one. -/
def State.withFetchWord (s : State) (nbits w : Nat) : State :=
  match decodeTableWord nbits w with
  | some c => { s with pending := c :: s.pending }
  | none => s

end Sys2Proof.Machine
end

