-- ==== Sys2Proof/Safety.lean ====
section
/-!
DEFINITION. What counts as a safe state and the terms in which claims are made: the laws of the part that a single state can meet or break, the
capacities of its collections, what a taken request is, and the state after a reply.
-/

namespace Sys2Proof.Machine

/-! ### Laws and invariants -/

/-- The twelfth law (R185, R203): the mode is HALTED only, and exactly, while the slot is HALT HELD. -/
def HaltLaw (s : State) : Prop := s.port.mode = .halted ↔ ∃ r, s.fault.slot = .haltHeld r

/-- The eleventh law (R88): the queue holds at most 8 orders, no two with the same order id. -/
def OrderLaw (s : State) : Prop := s.orders.queue.length ≤ 8 ∧ (s.orders.queue.map Order.id).Nodup

/-- R70, R79: the map in map order, the blind list in list order. -/
def ListOrders (s : State) : Prop :=
  s.map.entries.Pairwise (fun a b => a.yFirst ≤ b.yFirst) ∧ s.map.blind.Pairwise (fun a b => a.yStart ≤ b.yStart)

/-- The detection sets the Tracker holds: the three copies and a pending set (Table 3-1). -/
def Tracker.holds (t : Tracker) (d : DetectionSet) : Prop :=
  t.active = some d ∨ t.outgoing = some d ∨ t.staged = some d ∨ ∃ line, t.apply = .waiting d line

/-- The capacities of Table 0-3 and of the tables of state, but for those of one lane: the masks are those of all lanes together. -/
structure Capacities (s : State) : Prop where
  masks : (s.lanes.toList.map fun l => l.staticMask.length).sum ≤ 256
  sequences : ∀ d, s.tracker.holds d → 1 ≤ d.slots.length ∧ d.slots.length ≤ 5
  map : s.map.entries.length ≤ 1024
  blind : s.map.blind.length ≤ 64
  queue : s.orders.queue.length ≤ 8
  finished : s.orders.finished.length ≤ 8
  table : s.planner.table.length ≤ 128
  store : s.report.store.length ≤ 4
  journal : s.report.journal.length ≤ 64
  delayed : s.port.delayed.length ≤ 4

/-- The capacities of one lane: 8 samples a ring, 64 masked and 8 dynamic columns, 32 open flaws, 32 marks. -/
structure LaneCapacities (l : Lane) (t : FlawTable) : Prop where
  staticMask : l.staticMask.length ≤ 64
  bright : l.rings.bright.length ≤ 8
  dark : l.rings.dark.length ≤ 8
  oblique : l.rings.oblique.length ≤ 8
  dynColumns : l.dynColumns.length ≤ 8
  flaws : t.flaws.length ≤ 32
  marks : t.marks.length ≤ 32

/-- Table 1-1 and R4: the ranges of the Position Unit. -/
structure RibbonRanges (p : Position) : Prop where
  y : p.y ≤ 2 ^ 48 - 1
  debt : p.debt ≤ 4096
  window : p.windowCount ≤ 65535
  speed : p.speed ≤ 65535
  rem : p.configured = true → 10000 ≤ p.geometry.ppm ∧ p.rem < p.geometry.ppm

/-- R115, the fifth law's contiguity: each record's Y start equals the Y end of the record before it. -/
def contiguous : List PlateRecord → Prop
  | [] => True
  | [_] => True
  | r :: q :: rs => r.yEnd = q.yStart ∧ contiguous (q :: rs)

/-! ### Requests -/

/-- The content of a request has the length its kind requires. -/
def rightLength {α : Type} : Content α → Bool
  | .wrongLength => false
  | .fields _ => true

/-- The kind, the tag and whether the content has its right length, of a command that is a request of Table 11-9. -/
def requestOf : Instr → Option (Request × Nat × Bool)
  | .setLineGeometry t c => some (.setLineGeometry, t, rightLength c)
  | .readLineGeometry t c => some (.readLineGeometry, t, rightLength c)
  | .readPosition t c => some (.readPosition, t, rightLength c)
  | .setLaneGeometry t c => some (.setLaneGeometry, t, rightLength c)
  | .startLane t c => some (.startLane, t, rightLength c)
  | .stopLane t c => some (.stopLane, t, rightLength c)
  | .setDarkOffset t c => some (.setDarkOffset, t, rightLength c)
  | .setColumnMask t c => some (.setColumnMask, t, rightLength c)
  | .setDynamicMasking t c => some (.setDynamicMasking, t, rightLength c)
  | .readLane t c => some (.readLane, t, rightLength c)
  | .writeDetectionSet t c => some (.writeDetectionSet, t, rightLength c)
  | .applyDetection t c => some (.applyDetection, t, rightLength c)
  | .readDetectionSet t c => some (.readDetectionSet, t, rightLength c)
  | .readOpenFlaws t c => some (.readOpenFlaws, t, rightLength c)
  | .readFlaws t c => some (.readFlaws, t, rightLength c)
  | .readBlind t c => some (.readBlind, t, rightLength c)
  | .loadOrder t c => some (.loadOrder, t, rightLength c)
  | .withdrawOrder t c => some (.withdrawOrder, t, rightLength c)
  | .readOrders t c => some (.readOrders, t, rightLength c)
  | .setCutParameters t c => some (.setCutParameters, t, rightLength c)
  | .readCutParameters t c => some (.readCutParameters, t, rightLength c)
  | .stopProduction t c => some (.stopProduction, t, rightLength c)
  | .readPlates t c => some (.readPlates, t, rightLength c)
  | .writeGradeRows t c => some (.writeGradeRows, t, rightLength c)
  | .applyGradeTable t c => some (.applyGradeTable, t, rightLength c)
  | .readGradeTable t c => some (.readGradeTable, t, rightLength c)
  | .readCutter t c => some (.readCutter, t, rightLength c)
  | .closeShift t c => some (.closeShift, t, rightLength c)
  | .readShift t c => some (.readShift, t, rightLength c)
  | .readShiftReport t c => some (.readShiftReport, t, rightLength c)
  | .readJournal t c => some (.readJournal, t, rightLength c)
  | .haltLine t c => some (.haltLine, t, rightLength c)
  | .readFault t c => some (.readFault, t, rightLength c)
  | .clearFault t c => some (.clearFault, t, rightLength c)
  | .startInspect t c => some (.startInspect, t, rightLength c)
  | .stopInspect t c => some (.stopInspect, t, rightLength c)
  | .startProduction t c => some (.startProduction, t, rightLength c)
  | .reset t c => some (.reset, t, rightLength c)
  | .readEvents t c => some (.readEvents, t, rightLength c)
  | .clearEvents t c => some (.clearEvents, t, rightLength c)
  | .setEventMask t c => some (.setEventMask, t, rightLength c)
  | .encoderStateChange _ _ _ | .stall | .speedWindow | .breakAsserted _ | .breakCleared | .gantryDigest _ _
  | .digestDeadline | .gantryFrameDiscarded _ | .gantryByteTimeout _ | .detectionSwitch | .switchComplete
  | .mapFullEnd | .mapRetirement | .normalPlan | .forcedPlan | .planOverrun _ | .cutOverdue | .cutAccept _
  | .cutDone _ | .cutReject _ _ | .cutMissed _ | .capability _ _ | .malformedRecord _ | .cutterFrameDiscarded
  | .cutterReadyAsserted | .cutterReadyCleared _ | .drainComplete | .pendingClose | .frameDiscarded
  | .frameTimeout | .unknownRequest _ _ | .fullReset _ | .powerOn _ | .resetPin _ _ => none

/-- The part takes requests, and no delayed request has the tag (R197 check 1, R204). -/
abbrev Listens (s : State) (tag : Nat) : Prop :=
  s.ctl.held = false ∧ s.ctl.resetting = false ∧ ∀ d ∈ s.port.delayed, d.tag ≠ tag

/-- The state after one reply to a request (R198): the reply frame is sent and nothing else changes. -/
def State.answered (s : State) (k : Request) (tag : Nat) (r : Result) (b : ReplyBody) : State :=
  { s with out := { s.out with replies := s.out.replies ++ [⟨k.code + 32768, tag, r, b⟩] } }

/-! ### Hypotheses of the statements -/

/-- Nothing that the issue of a trigger calls for is outstanding: no detection switch, no overdue digest, no end of a switch and no end of a map-full
condition (log 2). -/
structure NoTriggerWork (s : State) : Prop where
  noSwitch : s.dueSwitch = none
  noDeadline : s.deadlineDue = false
  noCompletion : s.switchDue = false
  noMapEnd : s.map.fullEnd = none

/-- R62, R63: `set` is the detection set in force for a line, and `now` the active one. They differ only for the lines below the switch line of
a switch in progress. -/
def InForce (s : State) (line : Nat) (set now : DetectionSet) : Prop :=
  s.tracker.active = some now ∧ (∀ l, s.tracker.apply = .switched l → line < l → s.tracker.outgoing = some set) ∧
    ((∀ l, s.tracker.apply = .switched l → l ≤ line) → set = now)

/-- R186, R187: the mode in which the Cutter Link Unit takes its event. With `late` (log 7) it has not yet taken the last change to HALTED. -/
def State.cutterMode (s : State) (late : Bool) : Mode :=
  if late then (s.fault.before.map fun b => b.mode).getD s.port.mode else s.port.mode

/-- R169: the line reset has taken an agreement away and a late Cutter Link Unit has not yet heard (log 7). -/
def State.lossUnheard (s : State) (late : Bool) : Prop := late = true ∧ ∃ b, s.fault.before = some b ∧ b.unseenLoss = true

/-- The Fault Unit's record of the halt once the Cutter Link Unit has heard (log 7). -/
def FaultUnit.heard (f : FaultUnit) : FaultUnit := { f with before := f.before.map fun b => { b with unseenLoss := false } }

/-- The input pins and power-on, which a part held in reset still follows. -/
def followsInputs : Instr → Bool
  | .encoderStateChange _ _ _ | .breakAsserted _ | .breakCleared | .cutterReadyAsserted | .cutterReadyCleared _ | .powerOn _
  | .resetPin _ _ => true
  | _ => false

/-- The three commands that perform a full reset. -/
def performsFullReset : Instr → Bool
  | .powerOn _ | .fullReset _ | .resetPin _ _ => true
  | _ => false

/-- The event set after more events have been raised. -/
def withEvents (old : BitVec 16) (es : List Event) : BitVec 16 := es.foldl (fun v e => v ||| e.single) old

/-! ### Commits -/

/-- R114, R124, R137, R144, R146, R149, R81: what the record `r` holds that a plan taken in `s` commits over a Y span, with the ids it takes and
the open chain it joins, if there is one. -/
structure CommittedAs (s : State) (named : Option Order) (plate cut start stop : Nat) (early : Bool) (chain : Option Nat)
    (r : PlateRecord) : Prop where
  id : r.id = plate
  kind : r.kind = if named.isSome then .plate else .cull
  order : r.order = named.map Order.id
  yStart : r.yStart = start
  yEnd : r.yEnd = stop
  cut : r.cut = ⟨cut, stop, .sent⟩
  state : r.state = .committed
  version : r.version = s.grader.version
  forced : r.forced = early
  rejectDest : r.rejectDest = s.grader.active.dest.x
  absorbedInto : r.absorbedInto = chain
  graded : chain = none → r.pieces = s.gradePieces named early ⟨start, stop⟩ ∧ r.grade = worstGrade r.pieces ∧
    ∀ p ∈ r.pieces, p.dest = s.grader.active.dest.get p.grade
  references : chain = none → r.flawRefs = s.meetingFlaws start stop ∧ r.blindRefs = s.meetingBlind start stop
  absorbed : ∀ h, chain = some h → r.grade = .x ∧
    (r.pieces = (s.gradePieces named early ⟨start, stop⟩).map fun p => { p with grade := .x, dest := r.rejectDest }) ∧
    r.flawRefs = [] ∧ r.blindRefs = [] ∧ r.counted = false

/-- R114 step 5, R161: what a plan that commits `n` records up to `stop` moves on, and what it leaves. -/
structure Advanced (s t : State) (stop n : Nat) : Prop where
  yPrev : t.planner.yPrev = stop
  lastCut : t.planner.lastCut = some stop
  nextPlate : t.planner.nextPlate = nextId^[n] s.planner.nextPlate
  nextCut : t.planner.nextCut = nextId^[n] s.planner.nextCut
  planning : t.planner.planning = .ready ∨ t.planner.planning = .waiting
  head : t.planner.head = s.planner.head
  params : t.planner.params = s.planner.params
  sent : t.cutter = { s.cutter with sentCut := min 4294967295 (s.cutter.sentCut + n) }
  pos : t.pos = s.pos
  lanes : t.lanes = s.lanes
  tracker : t.tracker = s.tracker
  grader : t.grader = s.grader
  fault : t.fault = s.fault
  mode : t.port.mode = s.port.mode
  journal : t.report.journal = s.report.journal
  replies : t.out.replies = s.out.replies

/-! ### References taken and given back -/

/-- R81: the map and the blind list after a record over a Y span has taken its references. -/
def MapUnit.referenced (start stop : Nat) (m : MapUnit) : MapUnit :=
  { m with
    entries := m.entries.map fun e => if e.yFirst < stop ∧ start ≤ e.yLast then { e with refs := e.refs + 1 } else e,
    blind := m.blind.map fun b =>
      if b.yStart < stop ∧ b.yEnd.all (fun y => decide (start < y ∧ b.yStart < y)) = true then { b with refs := b.refs + 1 } else b }

/-- R82, R83, R78, R76: the map and the blind list after the references to the named ids have been given back, in the mode and at the Y of
`s`, which is not in IDLE. -/
def State.released (s : State) (flaws blind : List Nat) (m : MapUnit) : MapUnit :=
  let past (y : Nat) : Bool := decide (y + s.pos.geometry.dgc ≤ s.pos.y)
  let entries := (m.entries.map fun e => if e.id ∈ flaws then { e with refs := e.refs - 1 } else e).filter fun e =>
    !(flaws.contains e.id && decide (e.refs = 0) && past e.yLast && (s.port.mode != .produce || decide (e.yLast < s.planner.yPrev)))
  { m with
    entries := entries,
    blind := (m.blind.map fun b => if b.id ∈ blind then { b with refs := b.refs - 1 } else b).filter fun b =>
      !(blind.contains b.id && decide (b.refs = 0) &&
        b.yEnd.any fun y => past y && (s.port.mode != .produce || decide (y ≤ s.planner.yPrev))),
    highRaised := m.highRaised && decide (896 ≤ entries.length),
    room := m.room || (m.full.isSome && m.fullEnd.isNone && decide (entries.length ≤ 896)) }

/-! ### Orders -/

/-- R90, R91: the fit checks of an order against an agreement. -/
def Order.fits (o : Order) (a : Agreement) (p : CutParameters) (dgc : Nat) : Bool :=
  decide (a.cMin ≤ o.length ∧ o.split ≤ a.cap.across ∧ o.length + p.maxCull + a.lead + p.guard ≤ dgc)

/-- R98: the Order Unit once every order has stayed, perhaps changed, or has finished, in queue order. -/
def OrderUnit.kept (u : OrderUnit) (shift : Nat) (stays : Order → Option Order) (outcome : Order → OrderOutcome) : OrderUnit :=
  { u with
    queue := u.queue.filterMap stays,
    finished := (u.queue.filter fun o => (stays o).isNone).foldl
      (fun fs o => (if 8 ≤ fs.length then fs.drop 1 else fs) ++
        [⟨o.id, o.quantity, o.target, o.planned, o.delivered, outcome o, shift⟩]) u.finished }

/-- R91, R98: the Order Unit after the fit checks in a mode other than PRODUCE. An order that fails enters ENDING while it has records in the
plate table; without any it finishes, WITHDRAWN if it was QUEUED. -/
def State.fitted (s : State) (fits : Order → Bool) : OrderUnit :=
  s.orders.kept s.report.shift.seq
    (fun o =>
      if fits o || o.state == .ending then some o
      else if s.planner.table.any fun r => r.order == some o.id && r.state != .void then some { o with state := .ending }
      else none)
    (fun o =>
      if o.state = .queued then .withdrawn else if 0 < o.quantity ∧ o.delivered < o.quantity then .short else .complete)

/-- R95, R93: what the Order Unit does as a plate of the ACTIVE order `o` is committed in `s`. -/
structure OrderCounts (s t : State) (o : Order) (counted : Bool) : Prop where
  uncounted : counted = false → t.orders = s.orders
  below : counted = true → (o.quantity = 0 ∨ min 4294967295 (o.planned + 1) ≠ o.quantity) →
    t.orders = { s.orders with queue := s.orders.queue.map fun q =>
      if q.id = o.id then { q with planned := min 4294967295 (q.planned + 1) } else q }
  reached : ∀ ended : List Order, counted = true → 0 < o.quantity → min 4294967295 (o.planned + 1) = o.quantity →
    ended = (s.orders.queue.map fun q =>
      if q.id = o.id then { q with planned := min 4294967295 (q.planned + 1), state := .ending } else q) →
    ((∀ q ∈ ended, q.state ≠ .queued) ∨ s.port.mode ≠ .produce → t.orders = { s.orders with queue := ended }) ∧
    ∀ n, s.port.mode = .produce → (∀ q ∈ ended, q.state ≠ .active) → ended.find? (fun q => q.state == .queued) = some n →
      s.fitCheck n = none → (n.quantity = 0 ∨ n.planned < n.quantity) →
      t.orders = { s.orders with queue := ended.map fun q => if q.id = n.id then { q with state := .active } else q, exhausted := false } ∧
        t.latched .orderActivated = true

end Sys2Proof.Machine
end

