-- ==== Sys2Proof/WellFormed.lean ====
section
/-!
DEFINITION. Which commands a frame or a pin can give: every field within the width its layout has (Tables 11-8, 11-12, 11-14), every list within the
count its content can carry. A command outside this is no event of the part; the meanings are total and do not depend on it.
-/

namespace Sys2Proof

/-- A value of a field of `w` bytes. -/
def fits (w v : Nat) : Bool := decide (v < 256 ^ w)

def Content.wf {α : Type} (p : α → Bool) : Content α → Bool
  | .wrongLength => true
  | .fields v => p v

def LineGeometryFields.wf (g : LineGeometryFields) : Bool :=
  fits 4 g.ppm && fits 1 g.pitch && fits 4 g.dgc && fits 2 g.xL && fits 2 g.xR && fits 2 g.maxSpeed && fits 1 g.stallTime &&
    fits 1 g.breakAction

def LaneGeometryFields.wf (g : LaneGeometryFields) : Bool :=
  fits 1 g.lane && fits 2 g.x0 && fits 1 g.pitch && fits 2 g.columns && fits 1 g.binning

def SlotFields.wf (s : SlotFields) : Bool :=
  fits 1 s.kind && fits 2 s.threshold && fits 2 s.low && fits 2 s.high

def DetectionFields.wf (d : DetectionFields) : Bool :=
  fits 1 d.slots.length && d.slots.all SlotFields.wf && fits 1 d.join && fits 1 d.gap && fits 2 d.maxLength &&
    fits 1 d.aspect && fits 2 d.stone

def FlawQuery.wf : FlawQuery → Bool
  | .byId id => fits 4 id
  | .byLabel y k => fits 6 y && fits 2 k

def PageQuery.wf : PageQuery → Bool
  | .byId id => fits 4 id
  | .bySkip k => fits 1 k

def OrderFields.wf (o : OrderFields) : Bool :=
  fits 2 o.id && fits 2 o.length && fits 1 o.split && fits 2 o.quantity && fits 1 o.target && fits 1 o.fallback &&
    fits 1 o.positions.length && o.positions.all (fits 2)

def CutParameters.wf (p : CutParameters) : Bool :=
  fits 2 p.minCull && fits 2 p.maxCull && fits 2 p.clearance && fits 2 p.guard && fits 2 p.overdue

def GradeRow.wf : GradeRow → Bool
  | .limit g k es ec cs cc => fits 1 g && fits 1 k && fits 2 es && fits 1 ec && fits 2 cs && fits 1 cc
  | .floor b s l f => fits 2 b && fits 2 s && fits 2 l && fits 2 f
  | .general band blind a b c u x => fits 2 band && fits 2 blind && fits 1 a && fits 1 b && fits 1 c && fits 1 u && fits 1 x
  | .other kind => fits 1 kind && decide (3 ≤ kind)

def CloseFields.wf (c : CloseFields) : Bool := fits 1 c.mode && fits 4 c.hostTime && fits 1 c.label.length

def Capability.wf (c : Capability) : Bool :=
  fits 2 c.spacing && fits 2 c.lead && fits 2 c.speed && fits 1 c.across && fits 1 c.destinations

def Run.wf (r : Run) : Bool := decide (r.first < 4096) && decide (r.last < 4096) && decide (r.peak < 4096)

def Digest.wf (d : Digest) : Bool :=
  fits 2 d.line && decide (d.slot < 8) && decide (d.level < 4096) && decide (d.runs.length ≤ 16) && d.runs.all Run.wf

/-- A tag has two bytes (Table 11-6). -/
def tagged {α : Type} (tag : Nat) (c : Content α) (p : α → Bool) : Bool := fits 2 tag && c.wf p

/-- Any content of no fields, or of fields that their type already bounds. -/
def anyFields {α : Type} (_ : α) : Bool := true

def Instr.wf : Instr → Bool
  | .gantryDigest _ d => d.wf
  | .cutAccept id | .cutDone id | .cutMissed id | .cutReject id _ => fits 4 id
  | .capability c _ => c.wf
  | .malformedRecord id => id.all (fits 4)
  | .unknownRequest kind tag => fits 2 kind && fits 2 tag
  | .setLineGeometry t c => tagged t c LineGeometryFields.wf
  | .setLaneGeometry t c => tagged t c LaneGeometryFields.wf
  | .startLane t c | .stopLane t c | .readLane t c | .readOpenFlaws t c => tagged t c (fits 1)
  | .setDarkOffset t c => tagged t c fun v => fits 1 v.1 && fits 2 v.2
  | .setColumnMask t c => tagged t c fun v => fits 1 v.1 && fits 1 v.2.length && v.2.all (fits 2)
  | .setDynamicMasking t c => tagged t c fun v => fits 1 v.1 && fits 1 v.2
  | .writeDetectionSet t c => tagged t c DetectionFields.wf
  | .readFlaws t c => tagged t c FlawQuery.wf
  | .readBlind t c | .readPlates t c => tagged t c PageQuery.wf
  | .loadOrder t c => tagged t c OrderFields.wf
  | .withdrawOrder t c | .clearFault t c => tagged t c (fits 2)
  | .setCutParameters t c => tagged t c CutParameters.wf
  | .writeGradeRows t c => tagged t c fun rows => fits 1 rows.length && rows.all GradeRow.wf
  | .closeShift t c => tagged t c CloseFields.wf
  | .readShiftReport t c | .readJournal t c => tagged t c (fits 4)
  | .startInspect t c => tagged t c anyFields
  | .clearEvents t c | .setEventMask t c => tagged t c anyFields
  | .readLineGeometry t c | .readPosition t c | .applyDetection t c | .readDetectionSet t c | .readOrders t c
  | .readCutParameters t c | .stopProduction t c | .applyGradeTable t c | .readGradeTable t c | .readCutter t c
  | .readShift t c | .haltLine t c | .readFault t c | .stopInspect t c | .startProduction t c | .reset t c
  | .readEvents t c => tagged t c anyFields
  | .encoderStateChange _ _ _ | .stall | .speedWindow | .breakAsserted _ | .breakCleared | .digestDeadline
  | .gantryFrameDiscarded _ | .gantryByteTimeout _ | .detectionSwitch | .switchComplete | .mapFullEnd | .mapRetirement
  | .normalPlan | .forcedPlan | .planOverrun _ | .cutOverdue | .cutterFrameDiscarded | .cutterReadyAsserted
  | .cutterReadyCleared _ | .drainComplete | .pendingClose | .frameDiscarded | .frameTimeout | .fullReset _ | .powerOn _
  | .resetPin _ _ => true

end Sys2Proof
end

