-- ==== Sys2Proof/Certificates/Slice0/Obligations.lean ====
section
/-!
DEFINITION. The statements for the provers, chapter by chapter: what each command does, in the terms of the manual's rules, and what no command
breaks. A statement that rests on a choice of the model names the log entry in its docstring.
-/

open Sys2Proof Sys2Proof.Machine

/-! ### The machine -/

/-- One step with a command in front is the meaning of that command on the state with the queue's rest. On an empty queue (the model's choice,
log 1) the first of the part's own steps that is due is taken, and with none due, or while the part is held in reset, the block idles. -/
def Obligations.StepRunsTheFrontCommand : Prop :=
  (∀ (c : Instr) (rest : List Instr) (s : State),
      s.pending = c :: rest → step s = exec c { s with pending := rest }) ∧
  (∀ s : State, s.pending = [] →
      (∀ c, s.due = some c → step s = exec c s) ∧ (s.due = none → step s = .next s) ∧ (s.ctl.held = true → step s = .next s))


/-! ### Chapter 11: the supervisor port -/

/-- R197, checks 1, 3 and 4 for all 41 requests, with Table 11-4 row by row and R189: a tag in use, then a content of the wrong length, then a
mode that its row does not mark, each answered with its refusal and without any other effect. -/
def Obligations.RequestsRefusedInOrder : Prop :=
  (∀ (c : Instr) (k : Request) (tag : Nat) (lengthOk : Bool) (s : State),
      requestOf c = some (k, tag, lengthOk) → s.ctl.held = false → s.ctl.resetting = false →
        ((∃ d ∈ s.port.delayed, d.tag = tag) → exec c s = .next (s.answered k tag .tagInUse .empty)) ∧
        ((∀ d ∈ s.port.delayed, d.tag ≠ tag) →
          (lengthOk = false → exec c s = .next (s.answered k tag .badLength .empty)) ∧
          (lengthOk = true → takenIn k s.port.mode = false → exec c s = .next (s.answered k tag .wrongMode .empty)))) ∧
  (∀ (c : Instr) (k : Request) (tag : Nat) (s : State), requestOf c = some (k, tag, true) → Listens s tag →
      (k ∈ [Request.setLineGeometry, .setLaneGeometry, .setCutParameters, .startInspect] → s.port.mode ≠ .idle →
        exec c s = .next (s.answered k tag .wrongMode .empty)) ∧
      (k ∈ [Request.stopInspect, .startProduction] → s.port.mode ≠ .inspect →
        exec c s = .next (s.answered k tag .wrongMode .empty)) ∧
      (k = .stopProduction → s.port.mode ≠ .produce → exec c s = .next (s.answered k tag .wrongMode .empty)) ∧
      (k ∈ [Request.startLane, .haltLine] → s.port.mode = .idle ∨ s.port.mode = .halted →
        exec c s = .next (s.answered k tag .wrongMode .empty)) ∧
      (k ∈ [Request.stopLane, .setDarkOffset, .setColumnMask, .setDynamicMasking, .writeDetectionSet, .applyDetection, .loadOrder,
          .withdrawOrder, .writeGradeRows, .applyGradeTable, .closeShift, .clearEvents, .setEventMask] → s.port.mode = .halted →
        exec c s = .next (s.answered k tag .wrongMode .empty)))

/-- R197 checks 1 and 2: a good frame of a kind that Table 11-9 does not hold is answered UNKNOWN REQUEST under its own kind with the reply bit
set and its own tag, unless the tag is in use. R204: while the part is held in reset, and after RESET is taken, a frame is neither taken nor
answered. R196, R152, R211: a discarded frame of the supervisor port or of the cutter link is only counted, the count saturating at 65,535,
and a discarded digest frame has no effect at all. -/
def Obligations.FramesThatAreNoRequest : Prop :=
  (∀ (kind tag : Nat) (s : State), s.ctl.held = false → s.ctl.resetting = false → Request.ofCode kind = none →
      exec (.unknownRequest kind tag) s = .next { s with out := { s.out with replies := s.out.replies ++
        [⟨if kind < 32768 then kind + 32768 else kind, tag,
          if ∃ d ∈ s.port.delayed, d.tag = tag then .tagInUse else .unknownRequest, .empty⟩] } }) ∧
  (∀ s : State, s.ctl.held = true ∨ s.ctl.resetting = true →
      (∀ (c : Instr) (r : Request × Nat × Bool), requestOf c = some r → exec c s = .next s) ∧
      ∀ kind tag, exec (.unknownRequest kind tag) s = .next s) ∧
  (∀ s : State,
      (s.ctl.held = false →
        exec .frameDiscarded s =
          .next { s with port := { s.port with receiver := .hunting, discarded := min 65535 (s.port.discarded + 1) } } ∧
        exec .frameTimeout s =
          .next { s with port := { s.port with receiver := .hunting, discarded := min 65535 (s.port.discarded + 1) } } ∧
        exec .cutterFrameDiscarded s =
          .next { s with cutter := { s.cutter with discarded := min 65535 (s.cutter.discarded + 1) } }) ∧
      ∀ lane, exec (.gantryFrameDiscarded lane) s = .next s ∧ exec (.gantryByteTimeout lane) s = .next s)

/-- R207 with R205: CLEAR EVENTS removes the named events and replies with the set after the clear, SET EVENT MASK replaces the mask; ATTN then
is asserted exactly while an event is in the set and in the mask and the part is not held in reset. -/
def Obligations.EventSetRequests : Prop :=
  ∀ (s : State) (tag : Nat) (v : BitVec 16), Listens s tag → s.port.mode ≠ .halted →
    exec (.clearEvents tag (.fields v)) s =
      .next ({ s with port := { s.port with events := s.port.events &&& ~~~v } }.answered .clearEvents tag .ok
        (.eventSet (s.port.events &&& ~~~v))) ∧
    exec (.setEventMask tag (.fields v)) s =
      .next ({ s with port := { s.port with mask := v } }.answered .setEventMask tag .ok .empty) ∧
    (∀ t, exec (.clearEvents tag (.fields v)) s = .next t ∨ exec (.setEventMask tag (.fields v)) s = .next t →
      (t.attn = true ↔ ∃ e : Fin 16, t.port.events.getLsbD e = true ∧ t.port.mask.getLsbD e = true))

/-- The READ requests whose rules this says whole: each is taken in every mode, changes no state, and replies with the values its rule names as
they stand. READ DETECTION SET gives what R65 lists, without the outgoing copy that Table 3-1 says it shows (the model's choice, log 38); READ CUT PARAMETERS
gives what R105 lists, without the agreed speed that Table 8-1 says it shows (the model's choice, log 38). -/
def Obligations.ReadRepliesAsTheyStand : Prop :=
  ∀ (s : State) (tag : Nat), Listens s tag →
    exec (.readEvents tag (.fields ())) s = .next (s.answered .readEvents tag .ok
      (.events s.port.events s.port.mask (decide (s.port.events &&& s.port.mask ≠ 0#16)) s.port.mode s.port.delayed
        s.port.discarded)) ∧
    exec (.readGradeTable tag (.fields ())) s = .next (s.answered .readGradeTable tag .ok
      (.gradeTables s.grader.version s.grader.active s.grader.staged s.grader.stagedFlag)) ∧
    exec (.readCutter tag (.fields ())) s = .next (s.answered .readCutter tag .ok
      (.cutter s.cutter.ready s.cutter.agreement s.cutter.held s.cutter.lastDecline s.cutter.discarded s.cutter.sentCut
        s.cutter.sentResult s.cutter.sentHalt)) ∧
    exec (.readCutParameters tag (.fields ())) s = .next (s.answered .readCutParameters tag .ok
      (.cutParameters s.planner.configured s.planner.params (s.cutter.agreement.map fun a =>
        (a.cMin, a.lead, (s.orders.queue.find? fun o => o.state == .active).map fun o =>
          s.planner.params.maxCull + o.length)))) ∧
    exec (.readOrders tag (.fields ())) s = .next (s.answered .readOrders tag .ok
      (.orders (s.orders.queue.map fun o =>
          (o, (s.planner.table.filter fun r => r.order == some o.id && r.state != .void).length))
        s.orders.finished s.orders.exhausted)) ∧
    exec (.readDetectionSet tag (.fields ())) s = .next (s.answered .readDetectionSet tag .ok
      (.detectionSets s.tracker.active s.tracker.staged s.tracker.stagedFlag
        (match s.tracker.apply with
          | .none => none
          | .waiting _ l | .switched l => some (l, s.pos.lastLine.any fun t => decide (l ≤ t)))
        (match s.tracker.apply with
          | .waiting d _ => some d
          | .none | .switched _ => none)))

/-- The other READ requests, each taken in every mode and changing no state: READ LINE GEOMETRY, READ POSITION, READ FAULT, READ SHIFT, READ
LANE and READ OPEN FLAWS (BAD FIELD for a lane number beyond 7); READ FLAWS, READ BLIND and READ PLATES by id (NOT FOUND, or the first entry
held under it: with an id held twice the model's choice, log 23) and by skip count (BAD FIELD above 1,023, 63 and 127, else at most 16, 16
and 8 from the (k + 1)th on); READ SHIFT REPORT (0 the newest, else the first report of that number, log 23, or NOT FOUND); READ JOURNAL (up
to 8 entries at or above the plate id, in journal order). READ LANE gives every item of R44. Its rings and limit-run counters are those of
the active set (the model's reading, log 18), its view kinds in the order BRIGHT, DARK, OBLIQUE (the model's choice, log 37), and its
lane field is the lane's number, without a written geometry too (the model's choice, log 48). -/
def Obligations.ReadRepliesOfNamedItems : Prop :=
  (∀ (s : State) (tag : Nat), Listens s tag →
      exec (.readLineGeometry tag (.fields ())) s =
        .next (s.answered .readLineGeometry tag .ok (.lineGeometry s.pos.configured s.pos.geometry)) ∧
      exec (.readPosition tag (.fields ())) s = .next (s.answered .readPosition tag .ok
        (.position s.pos.y s.pos.lastLine s.pos.debt s.pos.speed s.pos.overspeed s.pos.ribbon s.pos.breakLevel
          s.pos.breakMarking)) ∧
      exec (.readFault tag (.fields ())) s =
        .next (s.answered .readFault tag .ok (.fault s.fault.slot s.fault.nextNumber)) ∧
      exec (.readShift tag (.fields ())) s = .next (s.answered .readShift tag .ok
        (.shift s.report.shift.inDm2 (s.report.pendingClose.map fun p => (p.label, p.hostTime)))) ∧
      (∀ n, 8 ≤ n → exec (.readLane tag (.fields n)) s = .next (s.answered .readLane tag .badField .empty) ∧
        exec (.readOpenFlaws tag (.fields n)) s = .next (s.answered .readOpenFlaws tag .badField .empty)) ∧
      (∀ i : LaneId, ∃ r : LaneReply,
        exec (.readLane tag (.fields i.val)) s = .next (s.answered .readLane tag .ok (.lane r)) ∧
          r.lane = i.val ∧ r.state = s.lanes[i.val].state ∧ r.configured = s.lanes[i.val].configured ∧
          r.geometry = s.lanes[i.val].geometry ∧
          r.reported = (if s.lanes[i.val].geometry.binning = 1 then s.lanes[i.val].geometry.columns
            else (s.lanes[i.val].geometry.columns + 1) / 2) ∧
          r.owned = s.lanes[i.val].owned ∧ r.dark = s.lanes[i.val].dark ∧
          (s.tracker.active = none → r.rings = [] ∧ r.limitRuns = []) ∧
          (∀ d, s.tracker.active = some d → r.limitRuns = s.lanes[i.val].limitRuns.toList.take d.slots.length ∧
            r.rings = ([ViewKind.bright, .dark, .oblique].filter fun k => d.slots.any fun q => q.kind == k).map fun k =>
              (k, (s.lanes[i.val].rings.get k).length,
                if 8 ≤ (s.lanes[i.val].rings.get k).length then some ((s.lanes[i.val].rings.get k).sum / 8) else none)) ∧
          r.expected = s.lanes[i.val].expected ∧ r.lastProcessed = s.lanes[i.val].lastProcessed ∧
          r.acceptance = s.lanes[i.val].acceptance ∧ r.openFlaws = s.tracker.tables[i.val].flaws.length ∧
          r.staticMask = s.lanes[i.val].staticMask ∧ r.dynMasking = s.lanes[i.val].dynMasking ∧
          r.dynColumns = s.lanes[i.val].dynColumns ∧ r.interval = s.lanes[i.val].interval) ∧
      ∀ i : LaneId, exec (.readOpenFlaws tag (.fields i.val)) s = .next (s.answered .readOpenFlaws tag .ok
        (.openFlaws s.tracker.frontier s.tracker.nextId i s.tracker.tables[i.val].flaws s.tracker.tables[i.val].marks))) ∧
  (∀ (s : State) (tag : Nat), Listens s tag →
      (∀ y k, 1023 < k → exec (.readFlaws tag (.fields (.byLabel y k))) s = .next (s.answered .readFlaws tag .badField .empty)) ∧
      (∀ y k, k ≤ 1023 → exec (.readFlaws tag (.fields (.byLabel y k))) s = .next (s.answered .readFlaws tag .ok
        (.flaws (.page (some (s.map.entries.filter fun e => decide (y ≤ e.yFirst)).length)
          (((s.map.entries.filter fun e => decide (y ≤ e.yFirst)).drop k).take 16)) s.map.entries.length s.map.highRaised
          s.map.refused s.map.full))) ∧
      (∀ id, (∀ e ∈ s.map.entries, e.id ≠ id) →
        exec (.readFlaws tag (.fields (.byId id))) s = .next (s.answered .readFlaws tag .notFound .empty)) ∧
      (∀ id e, s.map.entries.find? (fun q => q.id == id) = some e →
        exec (.readFlaws tag (.fields (.byId id))) s = .next (s.answered .readFlaws tag .ok
          (.flaws (.one e) s.map.entries.length s.map.highRaised s.map.refused s.map.full))) ∧
      (∀ k, 63 < k → exec (.readBlind tag (.fields (.bySkip k))) s = .next (s.answered .readBlind tag .badField .empty)) ∧
      (∀ id, (∀ b ∈ s.map.blind, b.id ≠ id) →
        exec (.readBlind tag (.fields (.byId id))) s = .next (s.answered .readBlind tag .notFound .empty)) ∧
      (∀ (q : PageQuery) (bs : Found Interval),
        ((∃ k, k ≤ 63 ∧ q = .bySkip k ∧ bs = .page none ((s.map.blind.drop k).take 16)) ∨
          ∃ id b, q = .byId id ∧ s.map.blind.find? (fun x => x.id == id) = some b ∧ bs = .one b) →
        exec (.readBlind tag (.fields q)) s = .next (s.answered .readBlind tag .ok
          (.blind bs s.map.blind.length s.map.nextId
            ((s.map.blind.find? fun b => b.lane.isNone && b.yEnd.isNone).map fun b => b.id) s.map.fullLabel s.map.breakLabel
            (s.lanes.toList.map Lane.interval)))) ∧
      (∀ k, 127 < k → exec (.readPlates tag (.fields (.bySkip k))) s = .next (s.answered .readPlates tag .badField .empty)) ∧
      (∀ id, (∀ r ∈ s.planner.table, r.id ≠ id) →
        exec (.readPlates tag (.fields (.byId id))) s = .next (s.answered .readPlates tag .notFound .empty)) ∧
      ∀ (q : PageQuery) (rs : Found PlateRecord),
        ((∃ k, k ≤ 127 ∧ q = .bySkip k ∧ rs = .page none ((s.planner.table.drop k).take 8)) ∨
          ∃ id r, q = .byId id ∧ s.planner.table.find? (fun x => x.id == id) = some r ∧ rs = .one r) →
        exec (.readPlates tag (.fields q)) s = .next (s.answered .readPlates tag .ok
          (.plates rs s.planner.planning s.planner.yPrev s.planner.lastCut (s.planner.head.map HeadCut.cut)
            s.planner.table.length s.planner.nextPlate s.planner.nextCut s.planner.openChain))) ∧
  (∀ (s : State) (tag : Nat), Listens s tag →
      (s.report.store = [] →
        exec (.readShiftReport tag (.fields 0)) s = .next (s.answered .readShiftReport tag .notFound .empty)) ∧
      (∀ older newest, s.report.store = older ++ [newest] →
        exec (.readShiftReport tag (.fields 0)) s = .next (s.answered .readShiftReport tag .ok
          (.shiftReport newest.inDm2 (s.report.store.map Shift.seq)))) ∧
      (∀ n, n ≠ 0 → (∀ h ∈ s.report.store, h.seq ≠ n) →
        exec (.readShiftReport tag (.fields n)) s = .next (s.answered .readShiftReport tag .notFound .empty)) ∧
      (∀ n h, n ≠ 0 → s.report.store.find? (fun q => q.seq == n) = some h →
        exec (.readShiftReport tag (.fields n)) s = .next (s.answered .readShiftReport tag .ok
          (.shiftReport h.inDm2 (s.report.store.map Shift.seq)))) ∧
      ∀ p, exec (.readJournal tag (.fields p)) s = .next (s.answered .readJournal tag .ok
        (.journal s.report.journal.length (s.report.journal.head?.map JournalEntry.plate)
          (s.report.journal.getLast?.map JournalEntry.plate)
          ((s.report.journal.filter fun e => decide (p ≤ e.plate)).take 8))))

/-- R204 with R16, R45, R68, R87, R103, R130, R150, R168, R182, R195 and R208: what each of the three causes of a full reset leaves, block by
block. The input levels are those the inputs have, the straps those read; at a power-on with the RESET pin asserted the part is held in reset
(log 21). What has been sent and the queue of commands stay (the model's choice, log 5). -/
def Obligations.FullResetLeaves : Prop :=
  ∀ (s : State) (c : Instr) (p : Pins),
    (c = .powerOn p ∨
      (∃ straps, c = .fullReset straps ∧ s.ctl.resetting = true ∧ s.ctl.held = false ∧
        p = ⟨s.pos.phaseA, s.pos.phaseB, s.pos.breakLevel, s.cutter.ready, false, straps⟩) ∨
      ∃ straps, c = .resetPin false straps ∧ s.ctl.held = true ∧
        p = ⟨s.pos.phaseA, s.pos.phaseB, s.pos.breakLevel, s.cutter.ready, false, straps⟩) →
    ∃ t, exec c s = .next t ∧
      t.pos = ⟨0, 0, 0, p.phaseA, p.phaseB, none, 0, 0, false, .stopped, false, p.breakLevel, false,
        ⟨0, 0, 0, 0, 0, 0, 0, .halt⟩, false⟩ ∧
      (∀ i : LaneId, t.lanes[i.val] = ⟨.off, ⟨0, 0, 0, 0⟩, false, none, 0, ⟨[], [], []⟩, Vector.replicate 5 0, 0, none, 0, [],
        false, [], [], none⟩) ∧
      (∀ i : LaneId, t.tracker.tables[i.val] = ⟨[], []⟩) ∧
      t.tracker.nextId = 1 ∧ t.tracker.frontier = 0 ∧ t.tracker.active = none ∧ t.tracker.outgoing = none ∧
      t.tracker.staged = none ∧ t.tracker.stagedFlag = false ∧ t.tracker.apply = .none ∧
      t.map = ⟨[], false, 0, [], 1, none, none, none, none, false, false⟩ ∧
      t.orders = ⟨[], [], false⟩ ∧
      t.planner = ⟨⟨0, 0, 0, 0, 0⟩, false, .off, [], none, 0, none, 1, 1⟩ ∧
      t.grader.version = 0 ∧ t.grader.stagedFlag = false ∧ t.grader.active = t.grader.staged ∧ t.grader.active.floors = ⟨0, 0, 0, 0⟩ ∧
      t.grader.active.band = 0 ∧ t.grader.active.blindLimit = 0 ∧ t.grader.active.dest = ⟨0, 0, 0, 0, 0⟩ ∧
      (∀ k, t.grader.active.limitA.get k = ⟨⟨0, 0⟩, ⟨0, 0⟩⟩ ∧ t.grader.active.limitB.get k = ⟨⟨0, 0⟩, ⟨0, 0⟩⟩ ∧
        t.grader.active.limitC.get k = ⟨⟨0, 0⟩, ⟨0, 0⟩⟩) ∧
      t.cutter = ⟨p.ready, none, none, none, 0, 0, 0, 0⟩ ∧
      t.report.shift =
        { seq := 1, label := [], openTime := 0, closeTime := none, openY := 0, closeY := none, inspected := 0,
          plates := ⟨0, 0, 0, 0, 0⟩, pieces := ⟨0, 0, 0, 0, 0⟩, areas := ⟨0, 0, 0, 0, 0⟩, cullCount := 0, cullArea := 0, voidCount := 0,
          voidArea := 0, flaws := ⟨0, 0, 0, 0⟩, forced := 0, rejected := 0, missed := 0, overdue := 0, class1 := 0,
          laneFaults := Vector.replicate 8 0, complete := 0, short := 0, withdrawn := 0 } ∧
      t.report.pendingClose = none ∧ t.report.store = [] ∧ t.report.journal = [] ∧
      t.fault.slot = .empty ∧ t.fault.nextNumber = 1 ∧
      t.port = ⟨.idle, .hunting, 0, [], 0#16, 0xFFFF#16⟩ ∧
      t.ctl = ⟨p.reset, false, p.straps⟩ ∧ t.out = s.out ∧ t.pending = s.pending

/-- R204, R198: RESET is answered OK in every mode and its full reset is still to be performed. Until it is performed, by FULL RESET, by the RESET
pin or by a power-on, no command is answered and no delayed request either: none leaves the list. While the RESET pin is asserted ATTN is
released, only the input pins, power-on and the pin itself do anything, no reply is sent, and the input pins change only their own levels
(the model's reading, log 21). FULL RESET without a RESET taken changes nothing (the model's reading, log 2), nor does the release of a
RESET pin that is not asserted (the model's choice, log 28). -/
def Obligations.ResetRequestAndHold : Prop :=
  (∀ s : State,
      (∀ tag, Listens s tag → exec (.reset tag (.fields ())) s =
        .next ({ s with ctl := { s.ctl with resetting := true } }.answered .reset tag .ok .empty)) ∧
      (∀ straps, s.ctl.resetting = false → exec (.fullReset straps) s = .next s) ∧
      (∀ straps, exec (.resetPin true straps) s = .next { s with ctl := { s.ctl with held := true } }) ∧
      (∀ straps, s.ctl.held = false → exec (.resetPin false straps) s = .next s) ∧
      (s.ctl.resetting = true → ∀ c t, performsFullReset c = false → exec c s = .next t →
        t.out.replies = s.out.replies ∧ t.port.delayed = s.port.delayed ∧ t.ctl.resetting = true) ∧
      (s.ctl.held = true → ∀ c t, performsFullReset c = false → exec c s = .next t →
        t.out.replies = s.out.replies ∧ t.ctl.held = true)) ∧
  (∀ s : State, s.ctl.held = true →
      s.attn = false ∧
      (∀ c, followsInputs c = false → exec c s = .next s) ∧
      (∀ a b late, exec (.encoderStateChange a b late) s = .next { s with pos := { s.pos with phaseA := a, phaseB := b } }) ∧
      (∀ late, exec (.breakAsserted late) s = .next { s with pos := { s.pos with breakLevel := true } }) ∧
      exec .breakCleared s = .next { s with pos := { s.pos with breakLevel := false } } ∧
      exec .cutterReadyAsserted s = .next { s with cutter := { s.cutter with ready := true } } ∧
      ∀ late, exec (.cutterReadyCleared late) s = .next { s with cutter := { s.cutter with ready := false } })

/-- R200, R6, R19, R20, R42, R67, R13, R14: START INSPECT in IDLE. The configured lanes stand in order of origin, then of lane number; each owns its
span, cut at the midpoint of an overlap with a neighbour; the owned spans cannot be fixed if neighbours have one origin or the right one
ends first, or a span overlaps the span two places along. NOT CONFIGURED, BAD FIELD and COVERAGE GAP in this order, the gap being a cross
position of the net width in no owned span. Else the mode becomes INSPECT, Y, the remainder and the debt are 0, line 0 is triggered, the
owned spans are fixed, the named lanes are SETTLING from line 0, every configured lane in the net width has an interval from label 0, the
tables are empty and K is L. BREAK present with action HALT then halts the line. -/
def Obligations.StartInspectStartsTheLine : Prop :=
  (∀ s : State,
    let start (i : LaneId) : Nat := s.lanes[i.val].geometry.x0
    let stop (i : LaneId) : Nat := start i + (if s.lanes[i.val].geometry.binning = 1 then s.lanes[i.val].geometry.columns
      else (s.lanes[i.val].geometry.columns + 1) / 2) * s.lanes[i.val].geometry.pitch * s.lanes[i.val].geometry.binning
    let order : List LaneId := s.ownedSpans.map fun o => o.1
    order.Nodup ∧ (∀ i, i ∈ order ↔ s.lanes[i.val].configured = true) ∧
    order.Pairwise (fun i j => start i < start j ∨ (start i = start j ∧ i.val < j.val)) ∧
    (s.spansRefused = true ↔
      (∃ pre i j post, order = pre ++ i :: j :: post ∧ (start i = start j ∨ stop j ≤ stop i)) ∨
      ∃ pre i k j post, order = pre ++ i :: k :: j :: post ∧ start j < stop i) ∧
    ∀ pre i o post, s.ownedSpans = pre ++ (i, o) :: post →
      (∀ h x before, pre = before ++ [(h, x)] → o.start = if start i < stop h then (start i + stop h) / 2 else start i) ∧
      (pre = [] → o.start = start i) ∧
      (∀ j x after, post = (j, x) :: after → o.stop = if start j < stop i then (start j + stop i) / 2 else stop i) ∧
      (post = [] → o.stop = stop i)) ∧
  ∀ (s : State) (tag : Nat) (set : BitVec 8), Listens s tag → s.port.mode = .idle →
    let refused (r : Result) : Prop := exec (.startInspect tag (.fields set)) s = .next (s.answered .startInspect tag r .empty)
    let unready : Prop := s.pos.configured = false ∨ s.tracker.active = none ∨
      ∃ i : LaneId, set.getLsbD i.val = true ∧ s.lanes[i.val].configured = false
    let gap : Prop := ∃ x, s.pos.geometry.xL ≤ x ∧ x < s.pos.geometry.xR ∧
      ∀ o ∈ s.ownedSpans, ¬ (o.2.start ≤ x ∧ x < o.2.stop)
    (unready → refused .notConfigured) ∧ (¬ unready → s.spansRefused = true → refused .badField) ∧
    (¬ unready → s.spansRefused = false → gap → refused .coverageGap) ∧
    (¬ unready → s.spansRefused = false → ¬ gap → (∀ i : LaneId, s.lanes[i.val].state = .off) → s.map.blind = [] →
      s.map.full = none → (∀ r, s.fault.slot ≠ .haltHeld r) → s.tracker.apply = .none →
      ∃ t : State, exec (.startInspect tag (.fields set)) s = .next (t.answered .startInspect tag .ok .empty) ∧
        t.latched .modeChanged = true ∧ t.pos.y = 0 ∧ t.pos.rem = 0 ∧ t.pos.debt = 0 ∧ t.pos.lastLine = some 0 ∧
        t.out.triggers = s.out.triggers ++ [⟨0, 0⟩] ∧ t.pos.geometry = s.pos.geometry ∧
        t.tracker.frontier = s.pos.geometry.pitch ∧ (∀ i : LaneId, t.tracker.tables[i.val] = ⟨[], []⟩) ∧
        t.tracker.active = s.tracker.active ∧ t.tracker.nextId = s.tracker.nextId ∧
        (∀ o ∈ s.ownedSpans, t.lanes[o.1.val].owned = some o.2) ∧
        (∀ i : LaneId, set.getLsbD i.val = true → t.lanes[i.val].state = .settling ∧ t.lanes[i.val].expected = 0 ∧
          t.lanes[i.val].acceptance = 0 ∧ t.lanes[i.val].rings = ⟨[], [], []⟩ ∧ t.lanes[i.val].persistence = []) ∧
        (∀ i : LaneId, set.getLsbD i.val = false → t.lanes[i.val].state = .off) ∧
        (∀ i o, (i, o) ∈ s.ownedSpans → max o.start s.pos.geometry.xL < min o.stop s.pos.geometry.xR →
          ∃ b ∈ t.map.blind, b.lane = some i ∧ t.lanes[i.val].interval = some b.id ∧ b.yStart = 0 ∧ b.yEnd = none ∧
            b.xStart = max o.start s.pos.geometry.xL ∧ b.xEnd = min o.stop s.pos.geometry.xR ∧
            b.reason = if set.getLsbD i.val then .settling else .off) ∧
        (s.pos.breakLevel = false ∨ s.pos.geometry.breakAction = .mark → t.port.mode = .inspect ∧ t.fault.slot = s.fault.slot) ∧
        (s.pos.breakLevel = true → s.pos.geometry.breakAction = .mark → t.pos.breakMarking = true ∧
          ∃ b ∈ t.map.blind, b.lane = none ∧ b.reason = .breakReason ∧ b.yStart = 0 ∧ b.yEnd = none) ∧
        (s.pos.breakLevel = true → s.pos.geometry.breakAction = .halt → t.port.mode = .halted ∧
          t.latched .faultCaptured = true ∧ ∃ r, t.fault.slot = .haltHeld r ∧ r.kind = .ribbonBreak))

/-- R201, R8, R24, R46, R54, R64, R86, R131, R169: STOP INSPECT in INSPECT. The mode becomes IDLE, every lane OFF with what its stay held
cleared, open flaws, marks, map and blind list are emptied, K is 0, y_prev 0 and the last cut position none, a pending apply becomes active
and is answered OK first, and the ids, the agreement, the orders, the grade tables, the shift and the fault slot stay. -/
def Obligations.StopInspectReturnsToIdle : Prop :=
  ∀ (s : State) (tag : Nat), Listens s tag → s.port.mode = .inspect →
    ∃ t : State, exec (.stopInspect tag (.fields ())) s = .next t ∧
      t.port.mode = .idle ∧ t.latched .modeChanged = true ∧
      t.pos = { s.pos with breakMarking := false, overspeed := false } ∧
      (∀ i : LaneId, t.lanes[i.val] =
        { s.lanes[i.val] with state := .off, owned := none, rings := ⟨[], [], []⟩, limitRuns := Vector.replicate 5 0, expected := 0,
                              lastProcessed := none, acceptance := 0, persistence := [], interval := none }) ∧
      ((∃ i : LaneId, s.lanes[i.val].state ≠ .off) → t.latched .laneChanged = true) ∧
      (∀ i : LaneId, t.tracker.tables[i.val] = ⟨[], []⟩) ∧ t.tracker.frontier = 0 ∧ t.tracker.outgoing = none ∧
      t.tracker.apply = .none ∧ t.tracker.nextId = s.tracker.nextId ∧ t.tracker.staged = s.tracker.staged ∧
      t.tracker.stagedFlag = s.tracker.stagedFlag ∧
      t.map = ⟨[], false, 0, [], s.map.nextId, none, none, none, none, false, false⟩ ∧
      t.planner = { s.planner with yPrev := 0, lastCut := none } ∧
      t.orders = s.orders ∧ t.cutter = s.cutter ∧ t.grader = s.grader ∧ t.report = s.report ∧ t.fault = s.fault ∧
      ((∀ d l, s.tracker.apply ≠ .waiting d l) → t.tracker.active = s.tracker.active ∧ t.port.delayed = s.port.delayed ∧
        t.out.replies = s.out.replies ++ [⟨32929, tag, .ok, .empty⟩]) ∧
      (∀ d l n, s.tracker.apply = .waiting d l →
        s.port.delayed.find? (fun e => e.kind == .applyDetection) = some ⟨.applyDetection, n⟩ →
        t.tracker.active = some d ∧ t.port.delayed = s.port.delayed.filter (fun e => e.kind != .applyDetection) ∧
        t.out.replies = s.out.replies ++ [⟨32801, n, .ok, .switchLine l⟩, ⟨32929, tag, .ok, .empty⟩])

/-- R196, R197, R209, R210, Tables 11-6, 11-9 and 11-14, and R152 with Tables 11-11 and 11-12: the receiver reads every request and every well-
formed record back from the frame that the encoder makes of it, with every field at every value its layout admits. -/
def Obligations.FramesDecodeToTheirCommands : Prop :=
  ∀ i : Instr, i.wf = true →
    (∀ k tag content bytes, requestParts i = some (k, tag, content) → content.length ≤ 1020 → encodeRequest i = some bytes →
      supervisorCommand bytes = some i) ∧
    ∀ bytes, encodeRecord i = some bytes → cutterCommand bytes = some i


/-! ### Chapter 1: the Position Unit -/

/-- R1 to R3: the classification of every change of the phase inputs and the arithmetic of Y, the remainder and the reverse debt, in every mode,
once the line geometry is configured. The last clause also takes a change to the levels that stand, which R1 calls no change of state and no
pin makes (the model's choice, log 28). -/
def Obligations.EncoderArithmetic : Prop :=
  ∀ (s : State) (a b late : Bool), s.ctl.held = false → s.pos.configured = true →
    ∃ t, exec (.encoderStateChange a b late) s = .next t ∧ t.pos.phaseA = a ∧ t.pos.phaseB = b ∧
      (a = !s.pos.phaseB ∧ b = s.pos.phaseA → 0 < s.pos.debt →
        t.pos.y = s.pos.y ∧ t.pos.rem = s.pos.rem ∧ t.pos.debt = s.pos.debt - 1) ∧
      (a = !s.pos.phaseB ∧ b = s.pos.phaseA → s.pos.debt = 0 → s.pos.rem + 10000 < s.pos.geometry.ppm →
        t.pos.y = s.pos.y ∧ t.pos.rem = s.pos.rem + 10000 ∧ t.pos.debt = 0) ∧
      (a = !s.pos.phaseB ∧ b = s.pos.phaseA → s.pos.debt = 0 → s.pos.geometry.ppm ≤ s.pos.rem + 10000 → s.pos.y < 2 ^ 48 - 1 →
        t.pos.y = s.pos.y + 1 ∧ t.pos.rem = s.pos.rem + 10000 - s.pos.geometry.ppm ∧ t.pos.debt = 0) ∧
      (a = !s.pos.phaseB ∧ b = s.pos.phaseA → s.pos.debt = 0 → s.pos.geometry.ppm ≤ s.pos.rem + 10000 → 2 ^ 48 - 1 ≤ s.pos.y →
        t.pos.y = s.pos.y ∧ t.pos.rem = 0 ∧ t.pos.debt = 0) ∧
      (a = s.pos.phaseB ∧ b = !s.pos.phaseA →
        t.pos.y = s.pos.y ∧ t.pos.rem = s.pos.rem ∧ t.pos.debt = if s.pos.debt < 4096 then s.pos.debt + 1 else s.pos.debt) ∧
      ((a ≠ s.pos.phaseA ∧ b ≠ s.pos.phaseB) ∨ (a = s.pos.phaseA ∧ b = s.pos.phaseB) →
        t.pos.y = s.pos.y ∧ t.pos.rem = s.pos.rem ∧ t.pos.debt = s.pos.debt)

/-- R1, R3: a phase error, and a reverse pulse at a debt of 4,096, are reported as ENCODER PHASE and RIBBON REVERSAL with the current Y and last
triggered line in INSPECT, PRODUCE and DRAINING, and change only the phase state in IDLE and HALTED. While the geometry is not configured,
only the phase state follows. -/
def Obligations.EncoderFaults : Prop :=
  ∀ (s : State) (a b : Bool), s.ctl.held = false →
    let moved : State := { s with pos := { s.pos with phaseA := a, phaseB := b } }
    let items : ReportItems := ⟨s.pos.y, s.pos.lastLine, none, none, none, none, none⟩
    (s.pos.configured = false → ∀ late, exec (.encoderStateChange a b late) s = .next moved) ∧
    (s.pos.configured = true → NoTriggerWork s →
      (a ≠ s.pos.phaseA ∧ b ≠ s.pos.phaseB →
        (s.port.mode.scanning = true →
          exec (.encoderStateChange a b false) s = .next (report2 .encoderPhase items moved)) ∧
        (s.port.mode.scanning = false → exec (.encoderStateChange a b false) s = .next moved)) ∧
      (a = s.pos.phaseB ∧ b = !s.pos.phaseA → s.pos.debt = 4096 →
        (s.port.mode.scanning = true →
          exec (.encoderStateChange a b false) s = .next (report2 .ribbonReversal items moved)) ∧
        (s.port.mode.scanning = false → exec (.encoderStateChange a b false) s = .next moved)))

/-- R2, R9, R10, R12, R171, R83, R106: everything a Y increment does where it reaches no line. In IDLE it moves Y, restarts the stall timer,
sets a STOPPED ribbon MOVING with RIBBON STATE, and counts toward the speed window. Outside IDLE it also calls for the retirement test and
the test of the planning triggers, and in INSPECT, PRODUCE and DRAINING it is added to the inspected length. -/
def Obligations.YIncrementBetweenLines : Prop :=
  ∀ (s : State) (a b late : Bool), s.ctl.held = false → s.pos.configured = true → NoTriggerWork s →
    a = !s.pos.phaseB → b = s.pos.phaseA → s.pos.debt = 0 → s.pos.geometry.ppm ≤ s.pos.rem + 10000 → s.pos.y < 2 ^ 48 - 1 →
    s.port.mode = .idle ∨ (s.pos.y + 1) % s.pos.geometry.pitch ≠ 0 →
    exec (.encoderStateChange a b late) s = .next
      { s with
        pos := { s.pos with phaseA := a, phaseB := b, y := s.pos.y + 1, rem := s.pos.rem + 10000 - s.pos.geometry.ppm,
                            windowCount := min 65535 (s.pos.windowCount + 1), stallRunning := true, ribbon := .moving },
        port := { s.port with events := if s.pos.ribbon = .stopped then s.port.events ||| Event.ribbonState.single else s.port.events },
        report := { s.report with shift := { s.report.shift with
          inspected := if s.port.mode.scanning then min (2 ^ 64 - 1) (s.report.shift.inspected + 1) else s.report.shift.inspected } },
        map := { s.map with testDue := s.map.testDue || s.port.mode != .idle },
        planner := { s.planner with planning :=
          if s.port.mode ≠ .idle ∧ (s.planner.planning = .ready ∨ s.planner.planning = .waiting) then
            if s.planner.yPrev + s.planner.params.maxCull + s.plateLength ≤ s.tracker.frontier ∧ 127 ≤ s.planner.table.length then .waiting
            else .ready
          else s.planner.planning } }

/-- R9: outside IDLE a Y increment that takes Y to n × L broadcasts the trigger for line n, with the low 16 bits of n and slot n modulo the
length of the set in force for line n, and line n becomes the last triggered line; no other pulse, and none in IDLE, issues a trigger. The
mode is taken to be HALTED only while the slot is HALT HELD. R26, R61 to R63: with the trigger itself, in every state, a pending switch whose
line has been reached is made, every lane whose digest is overdue has left the examining states, and a switch whose line is past is
complete, so that neither a halt nor a request taken next finds them outstanding. -/
def Obligations.TriggersAtMultiplesOfThePitch : Prop :=
  (∀ (s : State) (a b late : Bool), s.ctl.held = false → s.pos.configured = true →
    ∃ t, exec (.encoderStateChange a b late) s = .next t ∧ ∀ n, t.pos.lastLine = some n →
      (t.port.mode.scanning = true → (∀ d l, t.tracker.apply = .waiting d l → n < l) ∧
        ∀ i : LaneId, t.lanes[i.val].state ∈ [LaneState.settling, .active, .crowded] → n < t.lanes[i.val].expected + 2) ∧
      ∀ l, t.tracker.apply = .switched l → n ≤ l) ∧
  ∀ (s : State) (a b late : Bool) (d : DetectionSet), HaltLaw s → s.ctl.held = false → s.pos.configured = true →
    s.tracker.apply = .none → s.tracker.active = some d →
    ∃ t, exec (.encoderStateChange a b late) s = .next t ∧
      (s.port.mode ≠ .idle → t.pos.y = s.pos.y + 1 → t.pos.y % s.pos.geometry.pitch = 0 →
        t.pos.lastLine = some (t.pos.y / s.pos.geometry.pitch) ∧
        t.out.triggers = s.out.triggers ++
          [⟨t.pos.y / s.pos.geometry.pitch % 65536, t.pos.y / s.pos.geometry.pitch % d.slots.length⟩]) ∧
      (s.port.mode = .idle ∨ t.pos.y = s.pos.y ∨ t.pos.y % s.pos.geometry.pitch ≠ 0 →
        t.pos.lastLine = s.pos.lastLine ∧ t.out.triggers = s.out.triggers)

/-- R10, R11: at a window end the count becomes the speed estimate and counting starts again; in PRODUCE and DRAINING under an agreement an
estimate above the agreed speed opens an excursion and reports OVERSPEED once, one at or below it closes the excursion. R12: when the
running stall timer expires it stops, and a MOVING ribbon becomes STOPPED with RIBBON STATE; a stopped timer does not expire. -/
def Obligations.SpeedAndStall : Prop :=
  (∀ s : State, s.ctl.held = false →
      let measured : Position := { s.pos with speed := s.pos.windowCount, windowCount := 0 }
      (s.port.mode.cutting = false ∨ s.cutter.agreement = none → exec .speedWindow s = .next { s with pos := measured }) ∧
      ∀ a, s.port.mode.cutting = true → s.cutter.agreement = some a →
        (s.pos.windowCount ≤ a.speed → exec .speedWindow s = .next { s with pos := { measured with overspeed := false } }) ∧
        (a.speed < s.pos.windowCount → s.pos.overspeed = true → exec .speedWindow s = .next { s with pos := measured }) ∧
        (a.speed < s.pos.windowCount → s.pos.overspeed = false → exec .speedWindow s =
          .next (report1 .overspeed ⟨s.pos.y, s.pos.lastLine, none, none, none, none, some s.pos.windowCount⟩
            { s with pos := { measured with overspeed := true } }))) ∧
  (∀ s : State, s.ctl.held = false →
      (s.pos.stallRunning = false → exec .stall s = .next s) ∧
      (s.pos.stallRunning = true → s.pos.ribbon = .moving → exec .stall s =
        .next { s with pos := { s.pos with stallRunning := false, ribbon := .stopped },
                       port := { s.port with events := s.port.events ||| Event.ribbonState.single } }) ∧
      (s.pos.stallRunning = true → s.pos.ribbon = .stopped → exec .stall s =
        .next { s with pos := { s.pos with stallRunning := false } }))

/-- R13, R14: assertion of BREAK. In IDLE and HALTED only the level follows, as it does where BREAK is already present (the model's choice, log
28). In INSPECT, PRODUCE and DRAINING it is RIBBON BREAK with action HALT; with action MARK the marking opens with BREAK, an ALL interval
from the next line's label on is entered with BLIND OPENED, an ALL interval already open takes reason BREAK instead, and a full list ends in
BLIND LIST FULL with the marking in force. R15, R77, R80: when BREAK clears, only the level follows without a marking. With one, the marking
closes with BREAK and its label is recorded. With the map-full condition CLEAR the ALL interval closes at the larger of the label of the
next line and a recorded map-full label, and both recorded labels go; with no ALL interval nothing closes and they stay. With the condition
OPEN the interval takes reason MAP FULL. -/
def Obligations.BreakMarksOrHalts : Prop :=
  (∀ s : State, s.ctl.held = false →
      let seen : State := { s with pos := { s.pos with breakLevel := true } }
      let marked : State := { seen with pos := { seen.pos with breakMarking := true },
                                        port := { s.port with events := s.port.events ||| Event.breakEvent.single } }
      let items : ReportItems := ⟨s.pos.y, s.pos.lastLine, none, none, none, none, none⟩
      (s.port.mode.scanning = false ∨ s.pos.breakLevel = true → exec (.breakAsserted false) s = .next seen) ∧
      (s.port.mode.scanning = true → s.pos.breakLevel = false →
        (s.pos.geometry.breakAction = .halt → exec (.breakAsserted false) s = .next (report2 .ribbonBreak items seen)) ∧
        (s.pos.geometry.breakAction = .mark →
          (∀ o, s.map.blind.find? (fun b => b.lane.isNone && b.yEnd.isNone) = some o → exec (.breakAsserted false) s =
            .next { marked with map := { s.map with blind := s.map.blind.map fun b =>
              if b.id = o.id then { b with reason := .breakReason } else b } }) ∧
          ((∀ b ∈ s.map.blind, b.lane = none → b.yEnd ≠ none) →
            (64 ≤ s.map.blind.length → exec (.breakAsserted false) s = .next (report2 .blindListFull items marked)) ∧
            (s.map.blind.length < 64 → ∀ n, s.pos.lastLine = some n → exec (.breakAsserted false) s =
              .next { marked with
                port := { s.port with events := s.port.events ||| Event.breakEvent.single ||| Event.blindOpened.single },
                map := { s.map with
                  blind := insertByKey (fun b => b.yStart)
                    ⟨s.map.nextId, .breakReason, none, s.pos.geometry.xL, s.pos.geometry.xR, (n + 1) * s.pos.geometry.pitch, none, 0⟩
                    s.map.blind,
                  nextId := if 4294967295 ≤ s.map.nextId then 1 else s.map.nextId + 1 } }))))) ∧
  (∀ s : State, s.ctl.held = false →
      let seen : State := { s with pos := { s.pos with breakLevel := false } }
      let closed : State := { seen with pos := { seen.pos with breakMarking := false },
                                        port := { s.port with events := s.port.events ||| Event.breakEvent.single } }
      (s.pos.breakMarking = false → exec .breakCleared s = .next seen) ∧
      (s.pos.breakMarking = true → ∀ m, s.pos.lastLine = some m →
        (s.map.full = none →
          ((∀ b ∈ s.map.blind, b.lane = none → b.yEnd ≠ none) → exec .breakCleared s = .next { closed with map := { s.map with
            breakLabel := some ((m + 1) * s.pos.geometry.pitch) } }) ∧
          ∀ o, s.map.blind.find? (fun b => b.lane.isNone && b.yEnd.isNone) = some o → exec .breakCleared s =
            .next { closed with map := { s.map with
              fullLabel := none, breakLabel := none,
              blind := s.map.blind.map fun b =>
                if b.id = o.id then
                  { b with yEnd := some (max ((m + 1) * s.pos.geometry.pitch) (s.map.fullLabel.getD 0)) } else b } }) ∧
        (s.map.full ≠ none → exec .breakCleared s = .next { closed with map := { s.map with
          breakLabel := some ((m + 1) * s.pos.geometry.pitch),
          blind := match s.map.blind.find? (fun b => b.lane.isNone && b.yEnd.isNone) with
            | none => s.map.blind
            | some o => s.map.blind.map fun b => if b.id = o.id then { b with reason := .mapFull } else b } })))

/-- R4, R92, R157: SET LINE GEOMETRY in IDLE. A record outside Table 1-2 is refused with BAD FIELD. Otherwise the whole record replaces the
geometry, the flag is set, the remainder and the debt are cleared, the stall timer restarts with the ribbon state as it is, and Y and the
last triggered line stay. Every order with a split position outside the new net width is withdrawn (in queue order: the model's choice, log
42); then a capability in force is evaluated again, declined by the first condition of Table 8-4 or agreed to with new terms. R104, R157: SET
CUT PARAMETERS in IDLE: BAD FIELD with nothing written where a value lies outside Table 6-2, else the whole record is written, the configured
flag is set, and a capability in force is evaluated again. R91: with either, a new agreement has every order's fit checks made. -/
def Obligations.SettingsWrittenInIdle : Prop :=
  (∀ (s : State) (tag : Nat) (f : LineGeometryFields), Listens s tag → s.port.mode = .idle →
      let inRange : Prop :=
        (10000 ≤ f.ppm ∧ f.ppm ≤ 400000) ∧ (1 ≤ f.pitch ∧ f.pitch ≤ 64) ∧ (40000 ≤ f.dgc ∧ f.dgc ≤ 400000) ∧ f.xL ≤ 59000 ∧
        (f.xL + 1000 ≤ f.xR ∧ f.xR ≤ f.xL + 36000 ∧ f.xR ≤ 60000) ∧ (50 ≤ f.maxSpeed ∧ f.maxSpeed ≤ 1000) ∧
        (5 ≤ f.stallTime ∧ f.stallTime ≤ 100) ∧ f.breakAction ≤ 1
      let written : Position := { s.pos with
        geometry := ⟨f.ppm, f.pitch, f.dgc, f.xL, f.xR, f.maxSpeed, f.stallTime, if f.breakAction = 0 then .halt else .mark⟩,
        configured := true, rem := 0, debt := 0, stallRunning := decide (s.pos.ribbon = .moving) }
      (¬ inRange → exec (.setLineGeometry tag (.fields f)) s = .next (s.answered .setLineGeometry tag .badField .empty)) ∧
      (inRange →
        (∃ t, exec (.setLineGeometry tag (.fields f)) s = .next t ∧ t.pos = written ∧ t.lanes = s.lanes ∧ t.tracker = s.tracker ∧
          t.map = s.map ∧ t.grader = s.grader ∧ t.fault = s.fault ∧ t.port.mode = .idle ∧
          t.out.replies = s.out.replies ++ [⟨32769, tag, .ok, .empty⟩]) ∧
        (s.cutter.agreement = none → (∀ o ∈ s.orders.queue, ∀ x ∈ o.positions, f.xL < x ∧ x < f.xR) →
          exec (.setLineGeometry tag (.fields f)) s =
            .next ({ s with pos := written }.answered .setLineGeometry tag .ok .empty)) ∧
        (OrderLaw s →
          let inside (o : Order) : Bool := o.positions.all fun x => decide (f.xL < x ∧ x < f.xR)
          let split : OrderUnit :=
            s.orders.kept s.report.shift.seq (fun o => if inside o then some o else none) fun _ => .withdrawn
          ∃ t, exec (.setLineGeometry tag (.fields f)) s = .next t ∧
            ((∃ o ∈ s.orders.queue, inside o = false) → t.latched .orderWithdrawn = true) ∧
            (s.cutter.agreement = none → t.orders = split ∧ t.cutter = s.cutter ∧ t.planner = s.planner ∧ t.out.cutter = s.out.cutter) ∧
            ∀ a, s.cutter.agreement = some a → capabilityInRange a.cap = true →
              let v := min a.cap.speed f.maxSpeed
              let c := max s.planner.params.minCull a.cap.spacing
              let lead := (a.cap.lead * v + 99) / 100
              let declined (r : DeclineReason) : Prop := t.cutter = { s.cutter with agreement := none, lastDecline := some r } ∧
                t.out.cutter = s.out.cutter ++ [.decline r v c lead] ∧ t.orders = split ∧ t.latched .agreementChanged = true
              (s.planner.params.maxCull < c → declined .minCull) ∧
              (c ≤ s.planner.params.maxCull → f.dgc < c + lead + s.planner.params.guard → declined .travel) ∧
              (c ≤ s.planner.params.maxCull → c + lead + s.planner.params.guard ≤ f.dgc →
                (s.grader.active.destBeyond a.cap.destinations = true → declined .destinations) ∧
                (s.grader.active.destBeyond a.cap.destinations = false →
                  t.cutter = { s.cutter with agreement := some ⟨a.cap, v, c, lead⟩, lastDecline := none } ∧
                  t.out.cutter = s.out.cutter ++ [.agree v c lead a.cap.across a.cap.destinations] ∧
                  t.orders = { s with orders := split }.fitted (fun o => o.fits ⟨a.cap, v, c, lead⟩ s.planner.params f.dgc) ∧
                  t.latched .agreementChanged = true))))) ∧
  (∀ (s : State) (tag : Nat) (p : CutParameters), Listens s tag → s.port.mode = .idle →
      let inRange : Prop := (500 ≤ p.minCull ∧ p.minCull ≤ 20000) ∧ (p.minCull ≤ p.maxCull ∧ p.maxCull ≤ 30000) ∧
        p.clearance ≤ 500 ∧ p.guard ≤ 20000 ∧ (500 ≤ p.overdue ∧ p.overdue ≤ 20000)
      (¬ inRange → exec (.setCutParameters tag (.fields p)) s = .next (s.answered .setCutParameters tag .badField .empty)) ∧
      (inRange → s.cutter.agreement = none → exec (.setCutParameters tag (.fields p)) s =
        .next ({ s with planner := { s.planner with params := p, configured := true } }.answered .setCutParameters tag .ok
          .empty)) ∧
      (inRange → ∀ a, s.cutter.agreement = some a →
        let v := min a.cap.speed s.pos.geometry.maxSpeed
        let c := max p.minCull a.cap.spacing
        let lead := (a.cap.lead * v + 99) / 100
        capabilityInRange a.cap = true →
        (p.maxCull < c → exec (.setCutParameters tag (.fields p)) s =
          .next ({ s with
            planner := { s.planner with params := p, configured := true },
            cutter := { s.cutter with agreement := none, lastDecline := some .minCull },
            port := { s.port with events := s.port.events ||| Event.agreementChanged.single },
            out := { s.out with cutter := s.out.cutter ++ [CutterRecord.decline .minCull v c lead] } }.answered .setCutParameters tag .ok
            .empty)) ∧
        (c ≤ p.maxCull → c + lead + p.guard ≤ s.pos.geometry.dgc →
          s.grader.active.destBeyond a.cap.destinations = false → s.planner.planning = .off → s.orders.queue = [] →
          exec (.setCutParameters tag (.fields p)) s =
            .next ({ s with
              planner := { s.planner with params := p, configured := true },
              cutter := { s.cutter with agreement := some ⟨a.cap, v, c, lead⟩, lastDecline := none },
              port := { s.port with events := s.port.events ||| Event.agreementChanged.single },
              out := { s.out with cutter := s.out.cutter ++ [CutterRecord.agree v c lead a.cap.across a.cap.destinations] } }.answered
              .setCutParameters tag .ok .empty)) ∧
        (OrderLaw s → c ≤ p.maxCull → c + lead + p.guard ≤ s.pos.geometry.dgc →
          s.grader.active.destBeyond a.cap.destinations = false →
          ∃ t, exec (.setCutParameters tag (.fields p)) s = .next t ∧ t.planner.params = p ∧ t.planner.configured = true ∧
            t.cutter = { s.cutter with agreement := some ⟨a.cap, v, c, lead⟩, lastDecline := none } ∧
            t.orders = s.fitted (fun o => o.fits ⟨a.cap, v, c, lead⟩ p s.pos.geometry.dgc) ∧
            ((∃ o ∈ s.orders.queue, o.fits ⟨a.cap, v, c, lead⟩ p s.pos.geometry.dgc = false ∧ o.state ≠ .ending) →
              t.latched .orderWithdrawn = true) ∧
            t.out.replies = s.out.replies ++ [⟨32848, tag, .ok, .empty⟩])))


/-! ### Chapter 2: the Lane Units -/

/-- R18: SET LANE GEOMETRY in IDLE. BAD FIELD outside Table 2-2 or where the span would end beyond 60,000; else the fields are written, the
configured flag is set, the static mask and the dynamic column list are emptied, and nothing else changes. R38, R39: the masks of a lane.
SET COLUMN MASK is refused in order with BAD FIELD (lane), NOT CONFIGURED, LANE BUSY, BAD FIELD (list), and else writes the list in
ascending order and empties the dynamic list. SET DYNAMIC MASKING sets the option, and OFF empties the persistence tracker; BAD FIELD for
an option code beyond 1 is the model's choice (log 35). -/
def Obligations.LaneSettings : Prop :=
  (∀ (s : State) (tag : Nat) (f : LaneGeometryFields), Listens s tag → s.port.mode = .idle →
      let columns := if f.binning = 1 then f.columns else (f.columns + 1) / 2
      let inRange : Prop := f.lane ≤ 7 ∧ f.x0 ≤ 60000 ∧ (1 ≤ f.pitch ∧ f.pitch ≤ 4) ∧ (1 ≤ f.columns ∧ f.columns ≤ 4096) ∧
        (1 ≤ f.binning ∧ f.binning ≤ 2) ∧ f.x0 + columns * f.pitch * f.binning ≤ 60000
      (¬ inRange → exec (.setLaneGeometry tag (.fields f)) s = .next (s.answered .setLaneGeometry tag .badField .empty)) ∧
      ∀ i : LaneId, i.val = f.lane → inRange →
        exec (.setLaneGeometry tag (.fields f)) s =
          .next ({ s with lanes := s.lanes.set i.val { s.lanes[i.val] with
            geometry := ⟨f.x0, f.pitch, f.columns, f.binning⟩, configured := true, staticMask := [], dynColumns := [] } }.answered
            .setLaneGeometry tag .ok .empty)) ∧
  (∀ (s : State) (tag : Nat), Listens s tag → s.port.mode ≠ .halted →
      (∀ n cols v, 8 ≤ n →
        exec (.setColumnMask tag (.fields (n, cols))) s = .next (s.answered .setColumnMask tag .badField .empty) ∧
        exec (.setDynamicMasking tag (.fields (n, v))) s = .next (s.answered .setDynamicMasking tag .badField .empty)) ∧
      ∀ i : LaneId,
        (∀ cols, s.lanes[i.val].configured = false →
          exec (.setColumnMask tag (.fields (i.val, cols))) s = .next (s.answered .setColumnMask tag .notConfigured .empty)) ∧
        (∀ cols, s.lanes[i.val].configured = true → s.lanes[i.val].state ∈ [LaneState.settling, .active, .crowded] →
          exec (.setColumnMask tag (.fields (i.val, cols))) s = .next (s.answered .setColumnMask tag .laneBusy .empty)) ∧
        (∀ cols : List Nat, s.lanes[i.val].configured = true → s.lanes[i.val].state ∈ [LaneState.off, .faulted] →
          let fits : Prop := cols.length ≤ 64 ∧ cols.Nodup ∧ (∀ c ∈ cols, c < s.lanes[i.val].geometry.reported) ∧
            ((allLanes.filter fun j => j ≠ i).map fun j => s.lanes[j.val].staticMask.length).sum + cols.length ≤ 256
          (¬ fits → exec (.setColumnMask tag (.fields (i.val, cols))) s = .next (s.answered .setColumnMask tag .badField .empty)) ∧
          (fits → ∃ m : List Nat, m.Perm cols ∧ m.Pairwise (fun x y => x < y) ∧
            exec (.setColumnMask tag (.fields (i.val, cols))) s =
              .next ({ s with lanes := s.lanes.set i.val { s.lanes[i.val] with staticMask := m, dynColumns := [] } }.answered
                .setColumnMask tag .ok .empty))) ∧
        (∀ v, 2 ≤ v →
          exec (.setDynamicMasking tag (.fields (i.val, v))) s = .next (s.answered .setDynamicMasking tag .badField .empty)) ∧
        exec (.setDynamicMasking tag (.fields (i.val, 1))) s =
          .next ({ s with lanes := s.lanes.set i.val { s.lanes[i.val] with dynMasking := true } }.answered
            .setDynamicMasking tag .ok .empty) ∧
        exec (.setDynamicMasking tag (.fields (i.val, 0))) s =
          .next ({ s with lanes := s.lanes.set i.val { s.lanes[i.val] with dynMasking := false, persistence := [] } }.answered
            .setDynamicMasking tag .ok .empty))

/-- R22, R23, R21, R43: START LANE is refused in order with BAD FIELD, NOT CONFIGURED, LANE BUSY; else the lane empties its rings, counters and
persistence tracker, expects the line after the last triggered one and is SETTLING, with its interval's reason changed. STOP LANE leaves an
OFF lane unchanged; a SETTLING or FAULTED lane becomes OFF with its interval renamed; an ACTIVE or CROWDED lane leaves as
LeavingActiveOpensAnInterval says, and STOP LANE is answered after it: where the blind list is full with a CLOSE SHIFT AT CUT pending, after
the OK of CLOSE SHIFT (the model's choice, log 25). -/
def Obligations.StartAndStopLane : Prop :=
  ∀ (s : State) (tag : Nat) (i : LaneId), Listens s tag →
    let renamed (reason : BlindReason) : List Interval :=
      match s.lanes[i.val].interval with
      | none => s.map.blind
      | some id => s.map.blind.map fun b => if b.id = id then { b with reason := reason } else b
    (s.port.mode.scanning = true →
      (∀ n, 8 ≤ n → exec (.startLane tag (.fields n)) s = .next (s.answered .startLane tag .badField .empty)) ∧
      (s.lanes[i.val].configured = false →
        exec (.startLane tag (.fields i.val)) s = .next (s.answered .startLane tag .notConfigured .empty)) ∧
      (s.lanes[i.val].configured = true → s.lanes[i.val].state ∈ [LaneState.settling, .active, .crowded] →
        exec (.startLane tag (.fields i.val)) s = .next (s.answered .startLane tag .laneBusy .empty)) ∧
      (s.lanes[i.val].configured = true → s.lanes[i.val].state ∈ [LaneState.off, .faulted] → ∀ n, s.pos.lastLine = some n →
        exec (.startLane tag (.fields i.val)) s = .next
          ({ s with
            lanes := s.lanes.set i.val { s.lanes[i.val] with
              state := .settling, rings := ⟨[], [], []⟩, limitRuns := Vector.replicate 5 0, persistence := [], expected := n + 1 },
            map := { s.map with blind := renamed .settling },
            port := { s.port with events := s.port.events ||| Event.laneChanged.single } }.answered .startLane tag .ok .empty))) ∧
    (s.port.mode ≠ .halted →
      (∀ n, 8 ≤ n → exec (.stopLane tag (.fields n)) s = .next (s.answered .stopLane tag .badField .empty)) ∧
      (s.lanes[i.val].state = .off → exec (.stopLane tag (.fields i.val)) s = .next (s.answered .stopLane tag .ok .empty)) ∧
      (s.lanes[i.val].state ∈ [LaneState.settling, .faulted] → exec (.stopLane tag (.fields i.val)) s = .next
        ({ s with
          lanes := s.lanes.set i.val { s.lanes[i.val] with state := .off, persistence := [] },
          map := { s.map with blind := renamed .off },
          port := { s.port with events := s.port.events ||| Event.laneChanged.single } }.answered .stopLane tag .ok .empty)) ∧
      (s.lanes[i.val].state ∈ [LaneState.active, .crowded] →
        exec (.stopLane tag (.fields i.val)) s = .next ((laneTo i .off s).answered .stopLane tag .ok .empty)))

/-- R40: SET DARK OFFSET. BAD FIELD, NOT CONFIGURED, BAD FIELD in order; else the offset is stored; in SETTLING the rings are emptied too; in
ACTIVE and CROWDED the rings are emptied and the lane leaves for SETTLING; in OFF and FAULTED nothing further. SET DARK OFFSET
is answered last: where the lane's departure finds the blind list full with a CLOSE SHIFT AT CUT pending, after the OK of CLOSE SHIFT (the
model's choice, log 25). -/
def Obligations.DarkOffsetByLaneState : Prop :=
  ∀ (s : State) (tag v : Nat) (i : LaneId), Listens s tag → s.port.mode ≠ .halted →
    (∀ n, 8 ≤ n → exec (.setDarkOffset tag (.fields (n, v))) s = .next (s.answered .setDarkOffset tag .badField .empty)) ∧
    (s.lanes[i.val].configured = false →
      exec (.setDarkOffset tag (.fields (i.val, v))) s = .next (s.answered .setDarkOffset tag .notConfigured .empty)) ∧
    (s.lanes[i.val].configured = true → 1023 < v →
      exec (.setDarkOffset tag (.fields (i.val, v))) s = .next (s.answered .setDarkOffset tag .badField .empty)) ∧
    (s.lanes[i.val].configured = true → v ≤ 1023 →
      (s.lanes[i.val].state ∈ [LaneState.off, .faulted] → exec (.setDarkOffset tag (.fields (i.val, v))) s =
        .next ({ s with lanes := s.lanes.set i.val { s.lanes[i.val] with dark := v } }.answered .setDarkOffset tag .ok .empty)) ∧
      (s.lanes[i.val].state = .settling → exec (.setDarkOffset tag (.fields (i.val, v))) s =
        .next ({ s with lanes := s.lanes.set i.val { s.lanes[i.val] with dark := v, rings := ⟨[], [], []⟩ } }.answered
          .setDarkOffset tag .ok .empty)) ∧
      (s.lanes[i.val].state ∈ [LaneState.active, .crowded] → exec (.setDarkOffset tag (.fields (i.val, v))) s =
        .next ((laneTo i .settling
          { s with lanes := s.lanes.set i.val { s.lanes[i.val] with dark := v, rings := ⟨[], [], []⟩ } }).answered
          .setDarkOffset tag .ok .empty)))

/-- R42, R43, R54, R80, R21, R37, R175: a lane that leaves ACTIVE, or CROWDED for OFF, SETTLING or FAULTED. From ACTIVE an interval is asked for: over
the owned span within the net width, from the larger of e × L and the acceptance label, with no end and the reason of the new state; none for
a lane outside the net width; with 64 held none is entered, BLIND LIST FULL is reported and the line halts, the lane's change of state
standing, its flaws held (the model's order, logs 9 and 10). From CROWDED the open interval takes the new reason. A lane that leaves the two
inspecting states has every open flaw closed and every mark removed, with none held back by a full map. K does not fall. A lane entering
FAULTED is counted. -/
def Obligations.LeavingActiveOpensAnInterval : Prop :=
  ∀ (s : State) (i : LaneId) (st : LaneState) (d : DetectionSet),
    s.port.mode.scanning = true → st ≠ .active → st ≠ s.lanes[i.val].state →
    s.tracker.apply = .none → s.tracker.active = some d →
    let t := laneTo i st s
    let reason : BlindReason := match st with | .settling => .settling | .crowded => .crowded | .faulted => .faulted | _ => .off
    let from_ := max (s.lanes[i.val].expected * s.pos.geometry.pitch) s.lanes[i.val].acceptance
    let meets (o : Span) : Prop := max o.start s.pos.geometry.xL < min o.stop s.pos.geometry.xR
    let room : Prop := s.map.entries.length + s.tracker.tables[i.val].flaws.length ≤ 1024
    let left : Prop := t.lanes[i.val].state = st ∧ t.latched .laneChanged = true ∧ t.port.mode = s.port.mode ∧ t.fault = s.fault ∧
      s.tracker.frontier ≤ t.tracker.frontier ∧
      (∀ j : LaneId, j ≠ i → t.lanes[j.val] = s.lanes[j.val] ∧ t.tracker.tables[j.val] = s.tracker.tables[j.val]) ∧
      (st = .crowded → t.tracker = s.tracker ∧ t.map.entries = s.map.entries) ∧
      (st ≠ .crowded → t.tracker.tables[i.val] = ⟨[], []⟩ ∧ t.lanes[i.val].persistence = [] ∧ t.map.refused = s.map.refused) ∧
      t.report.shift.laneFaults[i.val] = if st = .faulted then min 4294967295 (s.report.shift.laneFaults[i.val] + 1)
        else s.report.shift.laneFaults[i.val]
    (s.lanes[i.val].state = .active → room →
      (∀ o, s.lanes[i.val].owned = some o → meets o → s.map.blind.length < 64 →
        left ∧ t.lanes[i.val].interval = some s.map.nextId ∧ t.latched .blindOpened = true ∧
          t.map.blind = insertByKey (fun b => b.yStart)
            ⟨s.map.nextId, reason, some i, max o.start s.pos.geometry.xL, min o.stop s.pos.geometry.xR, from_, none, 0⟩ s.map.blind) ∧
      ((∀ o, s.lanes[i.val].owned = some o → ¬ meets o) →
        left ∧ t.lanes[i.val].interval = s.lanes[i.val].interval ∧ t.map.blind = s.map.blind)) ∧
    (s.lanes[i.val].state = .active → ∀ o, s.lanes[i.val].owned = some o → meets o → 64 ≤ s.map.blind.length →
      (∀ r, s.fault.slot ≠ .haltHeld r) →
      t.lanes[i.val].state = st ∧ t.lanes[i.val].interval = none ∧ t.latched .laneChanged = true ∧ t.port.mode = .halted ∧
        t.tracker = s.tracker ∧ (∀ b ∈ t.map.blind, ∃ q ∈ s.map.blind, q.id = b.id) ∧
        ∃ r, t.fault.slot = .haltHeld r ∧ r.kind = .blindListFull ∧ r.items.lane = some i ∧ r.items.y = s.pos.y) ∧
    (s.lanes[i.val].state = .crowded → room →
      left ∧ t.lanes[i.val].interval = s.lanes[i.val].interval ∧
        t.map.blind = match s.lanes[i.val].interval with
          | none => s.map.blind
          | some id => s.map.blind.map fun b => if b.id = id then { b with reason := reason } else b)

/-- R25: the digests that change nothing: in a mode other than INSPECT, PRODUCE and DRAINING or a lane state other than SETTLING, ACTIVE and
CROWDED; with no line of its low 16 bits yet triggered; with a slot that differs from the one issued; and for a line below the expected one.
R25, R28, R30: a digest of a later line than the expected one is DIGEST MISSING with the expected line; a HEAD FAULT is reported with the
line itself; the fourth out-of-limit sample in a row of its slot is LIGHT LOW or LIGHT HIGH. Each lane then enters FAULTED, with the
expected line unmoved. The slots are those of the set in force for the line, the outgoing one below the switch line of a switch (R63). -/
def Obligations.DigestsDiscardedOrFaulty : Prop :=
  (∀ (s : State) (i : LaneId) (d : Digest) (t m : Nat) (set now : DetectionSet), s.ctl.held = false → NoTriggerWork s →
      (s.port.mode = .idle ∨ s.port.mode = .halted ∨ s.lanes[i.val].state = .off ∨ s.lanes[i.val].state = .faulted →
        exec (.gantryDigest i d) s = .next s) ∧
      (s.pos.lastLine = none ∨ s.pos.lastLine = some t ∧ t < d.line → exec (.gantryDigest i d) s = .next s) ∧
      (s.pos.lastLine = some t → m ≤ t → t < m + 65536 → m % 65536 = d.line → InForce s m set now →
        (d.slot ≠ m % set.slots.length ∨ m < s.lanes[i.val].expected → exec (.gantryDigest i d) s = .next s))) ∧
  (∀ (s : State) (i : LaneId) (d : Digest) (t m : Nat) (set now : DetectionSet) (slot : Slot), s.ctl.held = false →
      NoTriggerWork s →
      s.port.mode.scanning = true → s.lanes[i.val].state ∈ [LaneState.settling, .active, .crowded] →
      s.pos.lastLine = some t → m ≤ t → t < m + 65536 → m % 65536 = d.line → InForce s m set now →
      d.slot = m % set.slots.length → set.slots[d.slot]? = some slot →
      let items (line : Nat) : ReportItems := ⟨s.pos.y, some line, some i, none, none, none, none⟩
      (s.lanes[i.val].expected < m →
        exec (.gantryDigest i d) s =
          .next (laneTo i .faulted (report1 .digestMissing (items s.lanes[i.val].expected) s))) ∧
      (s.lanes[i.val].expected = m → d.headFault = true →
        exec (.gantryDigest i d) s = .next (laneTo i .faulted (report1 .headFault (items m) s))) ∧
      (∀ h : d.slot < 5, s.lanes[i.val].expected = m → d.headFault = false → s.lanes[i.val].limitRuns[d.slot] = 3 →
        let counted : State := { s with lanes := s.lanes.set i.val { s.lanes[i.val] with
          limitRuns := s.lanes[i.val].limitRuns.set d.slot 4 } }
        (d.level < slot.low → exec (.gantryDigest i d) s =
          .next (laneTo i .faulted (report1 .lightLow (items m) counted))) ∧
        (slot.low ≤ slot.high → slot.high < d.level → exec (.gantryDigest i d) s =
          .next (laneTo i .faulted (report1 .lightHigh (items m) counted)))))

/-- R26: the deadline at the trigger for the last line t. With no lane overdue, and in IDLE and HALTED, nothing changes. Where one lane alone is
overdue, DIGEST MISSING is reported with the lane and its expected line and it enters FAULTED. While the line goes on inspecting, exactly
the overdue lanes are FAULTED by it, and every other keeps its state. -/
def Obligations.DigestDeadlineFaultsOverdueLanes : Prop :=
  ∀ (s : State) (t : Nat), s.ctl.held = false → s.pos.lastLine = some t →
    let overdue (i : LaneId) : Prop := s.lanes[i.val].state ∈ [LaneState.settling, .active, .crowded] ∧ s.lanes[i.val].expected + 2 ≤ t
    (s.port.mode.scanning = false ∨ (∀ i, ¬ overdue i) → exec .digestDeadline s = .next s) ∧
    (s.port.mode.scanning = true → ∀ i, overdue i → (∀ j, j ≠ i → ¬ overdue j) →
      exec .digestDeadline s = .next (laneTo i .faulted
        (report1 .digestMissing ⟨s.pos.y, some s.lanes[i.val].expected, some i, none, none, none, none⟩ s))) ∧
    (s.port.mode.scanning = true → ∃ u, exec .digestDeadline s = .next u ∧
      (u.port.mode.scanning = true → ∀ i : LaneId,
        (overdue i → u.lanes[i.val].state = .faulted) ∧ (¬ overdue i → u.lanes[i.val].state = s.lanes[i.val].state)))

/-- R27, R29, R31, R41: a digest of the expected line. A sample within the limits of its slot, which are those of the set in force for the line,
joins its ring of at most 8, if the active set holds its kind (log 12), and the slot's counter is 0; the first to third outside leaves the
ring and adds 1 to the counter, and processing goes on. In SETTLING the line becomes the last processed one and the next is expected; with 8
samples of every kind of both sets (log 11) the lane enters ACTIVE at the larger of (n + 1) × L and K, forgets its interval and closes it
there. R35 to R37, R55: in ACTIVE and CROWDED an accepted overflow flag, and a dropped run, make an ACTIVE lane CROWDED; the kept runs are
handed on in order, then the narrow ones counted, then the Tracker works, and a CROWDED lane with 24 flaws or fewer and no overflow is ACTIVE
again. Below the acceptance label, and with the kind no longer held, no run is used. Where a full blind list or the map halts the line part
way, what is left of the digest's work is not done (the model's choice, log 9). Narrow runs: counts rise line by line; one that reaches 64 is
COLUMN MASKED, and a new column with room is listed and its flaws closed. -/
def Obligations.SettlingLaneTakesADigest : Prop :=
  (∀ (s : State) (i : LaneId) (d : Digest) (t n : Nat) (set now : DetectionSet) (slot : Slot), s.ctl.held = false → NoTriggerWork s →
    s.port.mode.scanning = true → s.lanes[i.val].state = .settling → s.lanes[i.val].expected = n →
    s.tracker.tables[i.val] = ⟨[], []⟩ → s.pos.lastLine = some t → n ≤ t → t < n + 65536 → n % 65536 = d.line →
    InForce s n set now → d.slot = n % set.slots.length → set.slots[d.slot]? = some slot → ∀ h : d.slot < 5, d.headFault = false →
    slot.low ≤ d.level ∧ d.level ≤ slot.high ∨ s.lanes[i.val].limitRuns[d.slot] ≤ 2 →
    ∃ u, exec (.gantryDigest i d) s = .next u ∧
      let ring := (if 8 ≤ (s.lanes[i.val].rings.get slot.kind).length then (s.lanes[i.val].rings.get slot.kind).drop 1
        else s.lanes[i.val].rings.get slot.kind) ++ [d.level]
      let rings := if (slot.low ≤ d.level ∧ d.level ≤ slot.high) ∧ ∃ q ∈ now.slots, q.kind = slot.kind
        then s.lanes[i.val].rings.set slot.kind ring else s.lanes[i.val].rings
      u.lanes[i.val].rings = rings ∧
      u.lanes[i.val].limitRuns = s.lanes[i.val].limitRuns.set d.slot
        (if slot.low ≤ d.level ∧ d.level ≤ slot.high then 0 else s.lanes[i.val].limitRuns[d.slot] + 1) ∧
      u.lanes[i.val].lastProcessed = some n ∧ u.lanes[i.val].expected = n + 1 ∧ u.lanes[i.val].persistence = [] ∧
      (∀ j : LaneId, j ≠ i → u.lanes[j.val] = s.lanes[j.val]) ∧ u.port.mode = s.port.mode ∧ u.fault = s.fault ∧
      u.map.entries = s.map.entries ∧ u.tracker.tables = s.tracker.tables ∧
      ((∃ q ∈ set.slots ++ now.slots, (rings.get q.kind).length < 8) →
        u.lanes[i.val].state = .settling ∧ u.lanes[i.val].interval = s.lanes[i.val].interval ∧ u.map.blind = s.map.blind) ∧
      ((∀ q ∈ set.slots ++ now.slots, 8 ≤ (rings.get q.kind).length) →
        u.lanes[i.val].state = .active ∧ u.lanes[i.val].interval = none ∧
        u.lanes[i.val].acceptance = max ((n + 1) * s.pos.geometry.pitch) s.tracker.frontier ∧
        ∀ id, s.lanes[i.val].interval = some id → u.map.blind = s.map.blind.map fun b =>
          if b.id = id then { b with yEnd := some (max ((n + 1) * s.pos.geometry.pitch) s.tracker.frontier) } else b)) ∧
  (∀ (s : State) (i : LaneId) (d : Digest) (t n : Nat) (set now : DetectionSet) (slot : Slot), s.ctl.held = false → NoTriggerWork s →
    s.port.mode.scanning = true → s.lanes[i.val].state ∈ [LaneState.active, .crowded] → s.lanes[i.val].expected = n →
    s.pos.lastLine = some t → n ≤ t → t < n + 65536 → n % 65536 = d.line →
    InForce s n set now → d.slot = n % set.slots.length → set.slots[d.slot]? = some slot → ∀ h : d.slot < 5, d.headFault = false →
    slot.low ≤ d.level ∧ d.level ≤ slot.high ∨ s.lanes[i.val].limitRuns[d.slot] ≤ 2 →
    let ring := (if 8 ≤ (s.lanes[i.val].rings.get slot.kind).length then (s.lanes[i.val].rings.get slot.kind).drop 1
      else s.lanes[i.val].rings.get slot.kind) ++ [d.level]
    let sampled : State := { s with lanes := s.lanes.set i.val { s.lanes[i.val] with
      limitRuns := s.lanes[i.val].limitRuns.set d.slot
        (if slot.low ≤ d.level ∧ d.level ≤ slot.high then 0 else s.lanes[i.val].limitRuns[d.slot] + 1),
      rings := if (slot.low ≤ d.level ∧ d.level ≤ slot.high) ∧ ∃ q ∈ now.slots, q.kind = slot.kind
        then s.lanes[i.val].rings.set slot.kind ring else s.lanes[i.val].rings } }
    let unused (u : State) : State := { u with lanes := u.lanes.set i.val { u.lanes[i.val] with persistence := [] } }
    let finished (u : State) : Outcome := .next (tryUncrowd n i d (trackerWork n i
      { u with lanes := u.lanes.set i.val { u.lanes[i.val] with lastProcessed := some n, expected := n + 1 } }))
    (n * s.pos.geometry.pitch < s.lanes[i.val].acceptance → exec (.gantryDigest i d) s = finished (unused sampled)) ∧
    (s.lanes[i.val].acceptance ≤ n * s.pos.geometry.pitch →
      s.lanes[i.val].state = .crowded ∨ s.map.blind.length < 64 ∨ (∀ r, s.fault.slot ≠ .haltHeld r) →
      let entered := if d.overflow = true ∧ s.lanes[i.val].state = .active then laneTo i .crowded sampled else sampled
      ((∀ q ∈ now.slots, q.kind ≠ slot.kind) →
        (entered.port.mode = .halted → exec (.gantryDigest i d) s = .next (unused entered)) ∧
        (entered.port.mode ≠ .halted → exec (.gantryDigest i d) s = finished (unused entered))) ∧
      ((∃ q ∈ now.slots, q.kind = slot.kind) →
        let kept := d.runs.filterMap fun r => sampled.lanes[i.val].keep n slot r
        let handed (rs : List KeptRun) : State := rs.foldl (fun v r => takeRun set i r v) entered
        let u := followNarrow n i ((kept.filter fun r => decide (r.last ≤ r.first + 1)).map fun r => r.first) (handed kept)
        (∀ before after, kept = before ++ after → (handed before).port.mode = .halted →
          (∀ b r, before = b ++ [r] → (handed b).port.mode ≠ .halted) → exec (.gantryDigest i d) s = .next (handed before)) ∧
        ((handed kept).port.mode ≠ .halted → u.port.mode = .halted → exec (.gantryDigest i d) s = .next u) ∧
        ((handed kept).port.mode ≠ .halted → u.port.mode ≠ .halted → exec (.gantryDigest i d) s = finished u)))) ∧
  (∀ (set : DetectionSet) (i : LaneId) (r : KeptRun) (d : Digest) (n : Nat) (s : State),
    ((handRun set i r s).2 = true → s.lanes[i.val].state = .active →
      takeRun set i r s = laneTo i .crowded (handRun set i r s).1) ∧
    ((handRun set i r s).2 = false ∨ s.lanes[i.val].state ≠ .active → takeRun set i r s = (handRun set i r s).1) ∧
    (s.lanes[i.val].state ≠ .crowded ∨ d.overflow = true ∨ 24 < s.tracker.tables[i.val].flaws.length ∨ s.port.mode = .halted →
      tryUncrowd n i d s = s) ∧
    (s.lanes[i.val].state = .crowded → d.overflow = false → s.tracker.tables[i.val].flaws.length ≤ 24 → s.port.mode ≠ .halted →
      let label := max ((n + 1) * s.pos.geometry.pitch) s.tracker.frontier
      (tryUncrowd n i d s).lanes = s.lanes.set i.val
        { s.lanes[i.val] with state := .active, acceptance := label, interval := none } ∧
      (tryUncrowd n i d s).latched .laneChanged = true ∧ (tryUncrowd n i d s).tracker.tables = s.tracker.tables ∧
      (tryUncrowd n i d s).map = { s.map with blind := match s.lanes[i.val].interval with
        | none => s.map.blind
        | some id => s.map.blind.map fun b => if b.id = id then { b with yEnd := some label } else b })) ∧
  ∀ (n : Nat) (i : LaneId) (cols : List Nat) (s : State),
    let count (c : Nat) : Nat := ((s.lanes[i.val].persistence.find? fun e => e.1 == c).map fun e => e.2).getD 0 + 1
    let counted (l : Lane) : Prop := l.persistence.Nodup ∧ ∀ e, e ∈ l.persistence ↔ e.1 ∈ cols ∧ e.2 = count e.1 ∧ e.2 < 64
    let full (c : Nat) : Prop := c ∈ cols ∧ 64 ≤ count c
    let u := followNarrow n i cols s
    (s.lanes[i.val].dynMasking = false ∨ s.port.mode = .halted → u = s) ∧
    (HaltLaw s → s.lanes[i.val].dynMasking = true → s.port.mode ≠ .halted →
      counted u.lanes[i.val] ∧ ((∃ c, full c) → u.latched .columnMasked = true) ∧
      ((∀ c, ¬ full c) → u = { s with lanes := s.lanes.set i.val { s.lanes[i.val] with persistence := u.lanes[i.val].persistence } }) ∧
      ∀ c d, full c → (∀ x, full x → x = c) → s.tracker.apply = .none → s.tracker.active = some d →
        (8 ≤ s.lanes[i.val].dynColumns.length ∨ c ∈ s.lanes[i.val].dynColumns →
          u.lanes[i.val].dynColumns = s.lanes[i.val].dynColumns ∧ u.tracker = s.tracker ∧ u.map = s.map) ∧
        (s.lanes[i.val].dynColumns.length < 8 → c ∉ s.lanes[i.val].dynColumns →
          u.lanes[i.val].dynColumns = s.lanes[i.val].dynColumns ++ [c] ∧
          ((s.tracker.tables[i.val].flaws.map OpenFlaw.id).Nodup → u.port.mode = s.port.mode →
            u.tracker.tables[i.val].flaws = s.tracker.tables[i.val].flaws.filter (fun f => ¬ (f.seenFirst ≤ c ∧ c ≤ f.seenLast)) ∧
            u.tracker.tables[i.val].marks = s.tracker.tables[i.val].marks.filter (fun m => ¬ (m.seenFirst ≤ c ∧ c ≤ m.seenLast)))))

/-- R32 to R34: which runs a lane keeps, with what contrast. -/
def Obligations.RunsKeptByTheirContrast : Prop :=
  ∀ (l : Lane) (n : Nat) (slot : Slot) (r : Run) (ring : List Nat), l.rings.get slot.kind = ring → ring.length = 8 →
    (r.last < r.first ∨ l.geometry.reported ≤ r.first → l.keep n slot r = none) ∧
    (r.first ≤ r.last → r.first < l.geometry.reported →
      let last := min r.last (l.geometry.reported - 1)
      let b := max 16 (ring.sum / 8 - l.dark)
      let p := r.peak - l.dark
      let contrast := if r.peak = 4095 then 999 else min 999 ((if p < b then b - p else p - b) * 1000 / b)
      ((∀ c, r.first ≤ c → c ≤ last → c ∈ l.staticMask ∨ c ∈ l.dynColumns) ∨ contrast < slot.threshold → l.keep n slot r = none) ∧
      ((∃ c, r.first ≤ c ∧ c ≤ last ∧ c ∉ l.staticMask ∧ c ∉ l.dynColumns) → slot.threshold ≤ contrast →
        l.keep n slot r = some ⟨n, r.first, last, contrast, r.polarity, slot.kind, decide (r.peak = 4095)⟩))


/-! ### Chapter 3: the Flaw Tracker -/

/-- R60: WRITE DETECTION SET. WRONG MODE in HALTED; BAD FIELD with the staged copy unchanged if a field lies outside Table 3-3, a low limit is
above its high limit, or there are no slots or more than five; else the staged copy is replaced and the staged flag set, and nothing in
force changes. -/
def Obligations.WriteDetectionSetStages : Prop :=
  ∀ (s : State) (tag : Nat) (f : DetectionFields), Listens s tag →
    let inRange : Prop := (1 ≤ f.slots.length ∧ f.slots.length ≤ 5) ∧
      (∀ q : SlotFields, q ∈ f.slots → q.kind ≤ 2 ∧ (5 ≤ q.threshold ∧ q.threshold ≤ 999) ∧ q.low ≤ q.high ∧ q.high ≤ 4095) ∧
      f.join ≤ 8 ∧ (1 ≤ f.gap ∧ f.gap ≤ 16) ∧ (2000 ≤ f.maxLength ∧ f.maxLength ≤ 50000) ∧ (2 ≤ f.aspect ∧ f.aspect ≤ 16) ∧
      (5 ≤ f.stone ∧ f.stone ≤ 999)
    (s.port.mode = .halted →
      exec (.writeDetectionSet tag (.fields f)) s = .next (s.answered .writeDetectionSet tag .wrongMode .empty)) ∧
    (s.port.mode ≠ .halted → ¬ inRange →
      exec (.writeDetectionSet tag (.fields f)) s = .next (s.answered .writeDetectionSet tag .badField .empty)) ∧
    (s.port.mode ≠ .halted → inRange →
      exec (.writeDetectionSet tag (.fields f)) s = .next ({ s with tracker := { s.tracker with
        staged := some ⟨f.slots.map fun (q : SlotFields) =>
            ⟨if q.kind = 0 then .bright else if q.kind = 1 then .dark else .oblique, q.threshold, q.low, q.high⟩,
          f.join, f.gap, f.maxLength, f.aspect, f.stone⟩,
        stagedFlag := true } }.answered .writeDetectionSet tag .ok .empty))

/-- R61, R199: APPLY DETECTION. STAGE BUSY while a switch is in progress, then NOTHING STAGED, then by mode: in IDLE the staged copy is active
at once; in INSPECT, PRODUCE and DRAINING DELAY LIST FULL with 4 entries, else the request is delayed, the staged set pending, and the
switch line the smallest multiple of the active sequence length above the last triggered line. The staged copy is kept, the staged flag
cleared. -/
def Obligations.ApplyDetectionByMode : Prop :=
  ∀ (s : State) (tag : Nat), Listens s tag → s.port.mode ≠ .halted →
    (s.tracker.apply ≠ .none →
      exec (.applyDetection tag (.fields ())) s = .next (s.answered .applyDetection tag .stageBusy .empty)) ∧
    (s.tracker.apply = .none → s.tracker.stagedFlag = false →
      exec (.applyDetection tag (.fields ())) s = .next (s.answered .applyDetection tag .nothingStaged .empty)) ∧
    (∀ d, s.tracker.apply = .none → s.tracker.stagedFlag = true → s.tracker.staged = some d →
      (s.port.mode = .idle → exec (.applyDetection tag (.fields ())) s =
        .next ({ s with tracker := { s.tracker with active := some d, stagedFlag := false } }.answered .applyDetection tag .ok
          .empty)) ∧
      (s.port.mode ≠ .idle → 4 ≤ s.port.delayed.length →
        exec (.applyDetection tag (.fields ())) s = .next (s.answered .applyDetection tag .delayListFull .empty)) ∧
      (∀ a n, s.port.mode ≠ .idle → s.port.delayed.length < 4 → s.tracker.active = some a → 0 < a.slots.length →
        s.pos.lastLine = some n →
        ∃ line, line % a.slots.length = 0 ∧ n < line ∧ line ≤ n + a.slots.length ∧
          exec (.applyDetection tag (.fields ())) s =
            .next { s with port := { s.port with delayed := s.port.delayed ++ [⟨.applyDetection, tag⟩] },
                           tracker := { s.tracker with stagedFlag := false, apply := .waiting d line } }))

/-- R62, R41, R63: the detection switch. Nothing happens before the switch line is triggered, nor in HALTED. At it, while the line goes on
inspecting, the active copy becomes the outgoing one, the pending set the active one, each lane drops the rings of kinds the new set has not
and clears its counters, an ACTIVE or CROWDED lane that lacks samples of a kind goes to SETTLING, and the waiting APPLY DETECTION is
answered OK with the switch line, or not at all once RESET has been taken (R198). The trigger for the line after it releases the outgoing
copy and ends the switch. -/
def Obligations.DetectionSwitchAtItsLine : Prop :=
  ∀ s : State, s.ctl.held = false →
    (∀ d l, s.tracker.apply = .waiting d l → s.port.mode.scanning = false ∨ (∀ t, s.pos.lastLine = some t → t < l) →
      exec .detectionSwitch s = .next s) ∧
    ((s.tracker.apply = .none ∨ ∃ l, s.tracker.apply = .switched l) → exec .detectionSwitch s = .next s) ∧
    (∀ d l t tag, s.tracker.apply = .waiting d l → s.port.mode.scanning = true → s.pos.lastLine = some t → l ≤ t →
      s.port.delayed.find? (fun e => e.kind == .applyDetection) = some ⟨.applyDetection, tag⟩ →
      let lacking (i : LaneId) : Prop := (s.lanes[i.val].state = .active ∨ s.lanes[i.val].state = .crowded) ∧
        ∃ q : Slot, q ∈ d.slots ∧ s.lanes[i.val].rings.get q.kind = []
      ∃ u, exec .detectionSwitch s = .next u ∧ ((∀ i, ¬ lacking i) → u.port.mode = s.port.mode) ∧
        (u.port.mode.scanning = true →
          u.tracker.outgoing = s.tracker.active ∧ u.tracker.active = some d ∧ u.tracker.apply = .switched l ∧
          (s.ctl.resetting = false → u.out.replies = s.out.replies ++ [⟨32801, tag, .ok, .switchLine l⟩] ∧
            u.port.delayed = s.port.delayed.filter (fun e => e.kind != .applyDetection)) ∧
          (s.ctl.resetting = true → u.out.replies = s.out.replies ∧ u.port.delayed = s.port.delayed) ∧
          ∀ i : LaneId, u.lanes[i.val].limitRuns = Vector.replicate 5 0 ∧
            u.lanes[i.val].rings =
              ⟨if ∃ q : Slot, q ∈ d.slots ∧ q.kind = .bright then s.lanes[i.val].rings.bright else [],
               if ∃ q : Slot, q ∈ d.slots ∧ q.kind = .dark then s.lanes[i.val].rings.dark else [],
               if ∃ q : Slot, q ∈ d.slots ∧ q.kind = .oblique then s.lanes[i.val].rings.oblique else []⟩ ∧
            (lacking i → u.lanes[i.val].state = .settling) ∧ (¬ lacking i → u.lanes[i.val].state = s.lanes[i.val].state))) ∧
    (∀ l t, s.tracker.apply = .switched l → s.pos.lastLine = some t →
      (t ≤ l → exec .switchComplete s = .next s) ∧
      (l < t → exec .switchComplete s = .next { s with tracker := { s.tracker with outgoing := none, apply := .none } })) ∧
    ((∀ l, s.tracker.apply ≠ .switched l) ∨ s.pos.lastLine = none → exec .switchComplete s = .next s)

/-- R47 to R50, R53: what a kept run does. Matching no open flaw, it starts a flaw with the next id in an ACTIVE lane with fewer than 32 flaws,
a successor of the lowest matched mark if it matched one, and is dropped otherwise. Matching exactly one, it joins it; a flaw without a
predecessor takes the lowest matched mark. Matching more, they merge into the one of the lowest id, which it joins: the lowest first and
highest last line, the hull, the highest peak, the views and flags of all, the last-seen range of the run and of those last seen on its line
or later, its own predecessor, else the lowest of the others, else the lowest matched mark; the others leave the table. Matched marks leave
the list, those of a dropped run too: with the table full that is the model's reading (log 13). -/
def Obligations.RunsStartJoinOrMergeFlaws : Prop :=
  ∀ (set : DetectionSet) (i : LaneId) (r : KeptRun) (s : State),
    let overlaps (a b line : Nat) : Prop := r.first ≤ b + set.join ∧ a ≤ r.last + set.join ∧ r.line ≤ line + set.gap
    let table := s.tracker.tables[i.val]
    let kept := table.marks.filter fun m => ¬ (r.first ≤ m.seenLast + set.join ∧ m.seenFirst ≤ r.last + set.join ∧
      r.line ≤ m.lastLine + set.gap)
    let hit (g : OpenFlaw) : Prop := overlaps g.seenFirst g.seenLast g.lastLine
    let darkBright := decide (r.polarity = .dark ∧ r.kind = .bright)
    ((∀ f ∈ table.flaws, ¬ overlaps f.seenFirst f.seenLast f.lastLine) →
      (s.lanes[i.val].state ≠ .active ∨ 32 ≤ table.flaws.length →
        (handRun set i r s).2 = true ∧ (handRun set i r s).1.tracker.tables[i.val] = ⟨table.flaws, kept⟩ ∧
          (handRun set i r s).1.tracker.nextId = s.tracker.nextId) ∧
      (s.lanes[i.val].state = .active → table.flaws.length < 32 →
        (handRun set i r s).2 = false ∧
        (handRun set i r s).1.tracker.nextId = (if 4294967295 ≤ s.tracker.nextId then 1 else s.tracker.nextId + 1) ∧
        ∃ pred, ((∀ m ∈ table.marks, ¬ overlaps m.seenFirst m.seenLast m.lastLine) → pred = none) ∧
          (∀ m ∈ table.marks, overlaps m.seenFirst m.seenLast m.lastLine → ∃ p, pred = some p ∧ p ≤ m.id ∧
            ∃ q ∈ table.marks, q.id = p ∧ overlaps q.seenFirst q.seenLast q.lastLine) ∧
          (handRun set i r s).1.tracker.tables[i.val] = ⟨table.flaws ++ [⟨s.tracker.nextId, r.line, r.line, r.first, r.last,
            r.first, r.last, r.contrast, ⟨decide (r.kind = .bright), decide (r.kind = .dark), decide (r.kind = .oblique)⟩,
            darkBright, r.saturated, pred⟩], kept⟩)) ∧
    (∀ (pre post : List OpenFlaw) (f : OpenFlaw), table.flaws = pre ++ f :: post → (table.flaws.map OpenFlaw.id).Nodup →
      overlaps f.seenFirst f.seenLast f.lastLine →
      (∀ g ∈ pre ++ post, ¬ overlaps g.seenFirst g.seenLast g.lastLine) →
      (handRun set i r s).2 = false ∧ (handRun set i r s).1.tracker.nextId = s.tracker.nextId ∧
      ∃ pred, (f.pred ≠ none ∨ (∀ m ∈ table.marks, ¬ overlaps m.seenFirst m.seenLast m.lastLine) → pred = f.pred) ∧
        (f.pred = none → ∀ m ∈ table.marks, overlaps m.seenFirst m.seenLast m.lastLine → ∃ p, pred = some p ∧ p ≤ m.id ∧
          ∃ q ∈ table.marks, q.id = p ∧ overlaps q.seenFirst q.seenLast q.lastLine) ∧
      (handRun set i r s).1.tracker.tables[i.val] = ⟨pre ++ { f with
          lastLine := max f.lastLine r.line,
          seenFirst := if f.lastLine < r.line then r.first else min f.seenFirst r.first,
          seenLast := if f.lastLine < r.line then r.last else max f.seenLast r.last,
          firstCol := min f.firstCol r.first, lastCol := max f.lastCol r.last, peak := max f.peak r.contrast,
          views := ⟨f.views.bright || decide (r.kind = .bright), f.views.dark || decide (r.kind = .dark),
            f.views.oblique || decide (r.kind = .oblique)⟩,
          darkInBright := f.darkInBright || darkBright, saturated := f.saturated || r.saturated, pred := pred } :: post, kept⟩) ∧
    (∀ f ∈ table.flaws, hit f → (table.flaws.map OpenFlaw.id).Nodup → (∀ g ∈ table.flaws, hit g → f.id ≤ g.id) →
      (handRun set i r s).2 = false ∧ (handRun set i r s).1.tracker.nextId = s.tracker.nextId ∧
      ∃ (pre post : List OpenFlaw) (q : OpenFlaw),
        table.flaws.filter (fun g => g.id = f.id ∨ ¬ (r.first ≤ g.seenLast + set.join ∧ g.seenFirst ≤ r.last + set.join ∧
          r.line ≤ g.lastLine + set.gap)) = pre ++ f :: post ∧
        (handRun set i r s).1.tracker.tables[i.val] = ⟨pre ++ q :: post, kept⟩ ∧ q.id = f.id ∧
        (∃ g ∈ table.flaws, hit g ∧ q.firstLine = g.firstLine) ∧
        (q.lastLine = r.line ∨ ∃ g ∈ table.flaws, hit g ∧ q.lastLine = g.lastLine) ∧ r.line ≤ q.lastLine ∧
        (q.firstCol = r.first ∨ ∃ g ∈ table.flaws, hit g ∧ q.firstCol = g.firstCol) ∧ q.firstCol ≤ r.first ∧
        (q.lastCol = r.last ∨ ∃ g ∈ table.flaws, hit g ∧ q.lastCol = g.lastCol) ∧ r.last ≤ q.lastCol ∧
        (q.peak = r.contrast ∨ ∃ g ∈ table.flaws, hit g ∧ q.peak = g.peak) ∧ r.contrast ≤ q.peak ∧
        (∀ g ∈ table.flaws, hit g → q.firstLine ≤ g.firstLine ∧ g.lastLine ≤ q.lastLine ∧ q.firstCol ≤ g.firstCol ∧
          g.lastCol ≤ q.lastCol ∧ g.peak ≤ q.peak) ∧
        (q.views.bright = true ↔ r.kind = .bright ∨ ∃ g ∈ table.flaws, hit g ∧ g.views.bright = true) ∧
        (q.views.dark = true ↔ r.kind = .dark ∨ ∃ g ∈ table.flaws, hit g ∧ g.views.dark = true) ∧
        (q.views.oblique = true ↔ r.kind = .oblique ∨ ∃ g ∈ table.flaws, hit g ∧ g.views.oblique = true) ∧
        (q.darkInBright = true ↔ darkBright = true ∨ ∃ g ∈ table.flaws, hit g ∧ g.darkInBright = true) ∧
        (q.saturated = true ↔ r.saturated = true ∨ ∃ g ∈ table.flaws, hit g ∧ g.saturated = true) ∧
        q.seenFirst ≤ r.first ∧ r.last ≤ q.seenLast ∧
        (∀ g ∈ table.flaws, hit g → r.line ≤ g.lastLine → q.seenFirst ≤ g.seenFirst ∧ g.seenLast ≤ q.seenLast) ∧
        (q.seenFirst = r.first ∨ ∃ g ∈ table.flaws, hit g ∧ r.line ≤ g.lastLine ∧ q.seenFirst = g.seenFirst) ∧
        (q.seenLast = r.last ∨ ∃ g ∈ table.flaws, hit g ∧ r.line ≤ g.lastLine ∧ q.seenLast = g.seenLast) ∧
        (f.pred ≠ none → q.pred = f.pred) ∧
        (f.pred = none → ∀ g ∈ table.flaws, hit g → ∀ p, g.pred = some p → ∃ x, q.pred = some x ∧ x ≤ p ∧
          ∃ g' ∈ table.flaws, hit g' ∧ g'.pred = some x) ∧
        ((∀ g ∈ table.flaws, hit g → g.pred = none) →
          ((∀ m ∈ table.marks, ¬ overlaps m.seenFirst m.seenLast m.lastLine) → q.pred = none) ∧
          ∀ m ∈ table.marks, overlaps m.seenFirst m.seenLast m.lastLine → ∃ p, q.pred = some p ∧ p ≤ m.id ∧
            ∃ x ∈ table.marks, x.id = p ∧ overlaps x.seenFirst x.seenLast x.lastLine)) ∧
    (∀ j : LaneId, j ≠ i → (handRun set i r s).1.tracker.tables[j.val] = s.tracker.tables[j.val]) ∧
    (handRun set i r s).1.lanes = s.lanes ∧ (handRun set i r s).1.map = s.map

/-- R51, R52: the Tracker's work for a line, while the line goes on inspecting. The open flaws of the lane that stay are those seen within the gap
and shorter than F_max; a flaw that reached F_max leaves a mark with its id and last-seen range; of the marks held those within the gap stay,
and a mark that finds 32 takes the place of the lowest. Flaws that stay are unchanged, and no other lane's are touched. R54 to R57, R71: what
a closed flaw carries to the map: its extent, its size, its flags by the cause of the close, and its class by the first test that passes;
the flaw leaves its table and K is recomputed after the hand-over. -/
def Obligations.TrackerWorkForALine : Prop :=
  (∀ (n : Nat) (i : LaneId) (s : State) (d : DetectionSet), s.port.mode.scanning = true → s.tracker.apply = .none →
    s.tracker.active = some d → (s.tracker.tables[i.val].flaws.map OpenFlaw.id).Nodup →
    (trackerWork n i s).port.mode.scanning = true →
    let long (f : OpenFlaw) : Prop := d.maxLength ≤ (f.lastLine + 1 - f.firstLine) * s.pos.geometry.pitch
    (trackerWork n i s).tracker.tables[i.val].flaws =
      s.tracker.tables[i.val].flaws.filter (fun f => n ≤ f.lastLine + d.gap ∧ ¬ long f) ∧
    (trackerWork n i s).tracker.tables[i.val].marks =
      ((s.tracker.tables[i.val].flaws.filter fun f => n ≤ f.lastLine + d.gap ∧ long f).map fun f =>
        (⟨f.id, f.lastLine, f.seenFirst, f.seenLast⟩ : Mark)).foldl
        (fun ms m => insertByKey (fun x => x.id) m (if 32 ≤ ms.length then ms.drop 1 else ms))
        (s.tracker.tables[i.val].marks.filter fun m => n ≤ m.lastLine + d.gap) ∧
    (s.tracker.tables[i.val].marks.length ≤ 32 → (trackerWork n i s).tracker.tables[i.val].marks.length ≤ 32) ∧
    (∀ j : LaneId, j ≠ i → (trackerWork n i s).tracker.tables[j.val] = s.tracker.tables[j.val]) ∧
    (trackerWork n i s).lanes = s.lanes ∧ s.tracker.frontier ≤ (trackerWork n i s).tracker.frontier) ∧
  ∀ (set : DetectionSet) (i : LaneId) (cause : CloseCause) (s : State) (f : OpenFlaw),
    let g := s.lanes[i.val].geometry
    let e := s.closedFlaw set i cause f
    let along := (f.lastLine + 1 - f.firstLine) * s.pos.geometry.pitch
    let across := (f.lastCol + 1) * g.pitch * g.binning - f.firstCol * g.pitch * g.binning
    let surface : Prop := f.views = ⟨false, false, true⟩
    let linear : Prop := set.aspect * min along across ≤ max along across
    let stone : Prop := f.darkInBright = true ∧ set.stone ≤ f.peak
    e.id = f.id ∧ e.lanes = [i] ∧ e.yFirst = f.firstLine * s.pos.geometry.pitch ∧
      e.yLast = (f.lastLine + 1) * s.pos.geometry.pitch - 1 ∧ e.xFirst = g.x0 + f.firstCol * g.pitch * g.binning ∧
      e.xLast = g.x0 + (f.lastCol + 1) * g.pitch * g.binning - 1 ∧ e.size = max along across ∧ e.peak = f.peak ∧
      e.views = f.views ∧ e.pred = f.pred ∧ e.refs = 0 ∧
      e.flags = ⟨decide (cause = .length), decide (cause = .truncated), false, decide (cause = .suspect), f.saturated, false⟩ ∧
      (cause = .suspect → e.cls = .linear) ∧
      (cause ≠ .suspect → (surface → e.cls = .surface) ∧ (¬ surface → linear → e.cls = .linear) ∧
        (¬ surface → ¬ linear → stone → e.cls = .stone) ∧ (¬ surface → ¬ linear → ¬ stone → e.cls = .bubble)) ∧
      (s.port.mode ≠ .halted → closeFlaw set i cause s f = recomputeK (mapInsert set i e
        { s with tracker := { s.tracker with tables := s.tracker.tables.set i.val { s.tracker.tables[i.val] with
          flaws := s.tracker.tables[i.val].flaws.filter fun q => q.id != f.id } } }))

/-- R58: the recomputation of K. In INSPECT, PRODUCE and DRAINING K becomes the larger of K and the least of (h + 1) × L over the lanes in
ACTIVE and CROWDED and first line × L over every open flaw, or (t + 1) × L with none of either; in IDLE and HALTED it keeps its value. -/
def Obligations.FrontierIsTheLeastTerm : Prop :=
  ∀ s : State,
    let isTerm (v : Nat) : Prop :=
      (∃ i : LaneId, ∃ h, (s.lanes[i.val].state = .active ∨ s.lanes[i.val].state = .crowded) ∧
        s.lanes[i.val].lastProcessed = some h ∧ v = (h + 1) * s.pos.geometry.pitch) ∨
      ∃ i : LaneId, ∃ f ∈ s.tracker.tables[i.val].flaws, v = f.firstLine * s.pos.geometry.pitch
    (s.port.mode = .idle ∨ s.port.mode = .halted → recomputeK s = s) ∧
    (s.port.mode.scanning = true →
      (∀ i : LaneId, s.lanes[i.val].state = .active ∨ s.lanes[i.val].state = .crowded → s.lanes[i.val].lastProcessed ≠ none) →
      (∀ v, isTerm v → (∀ w, isTerm w → v ≤ w) → (recomputeK s).tracker.frontier = max s.tracker.frontier v) ∧
      ((∀ v, ¬ isTerm v) → ∀ t, s.pos.lastLine = some t →
        (recomputeK s).tracker.frontier = max s.tracker.frontier ((t + 1) * s.pos.geometry.pitch)) ∧
      (recomputeK s).tracker.tables = s.tracker.tables ∧ (recomputeK s).planner.table = s.planner.table)


/-! ### Chapter 4: the Map Unit -/

/-- R70, R71, R75, R78, R80: the insertion of a closed flaw that meets no seam. With fewer than 1,024 entries it is placed in map order after
every entry of its Y_first, and MAP HIGH is raised exactly as the map reaches 896 with the mark ARMED. With 1,024 it is refused and counted,
the refused top covers it, a line noted for the end of the condition (log 20) is dropped, and an ALL interval covers it from b, its Y_first or, if more, the Y end of the latest closed ALL interval in the
list (ids as yet not wrapped round): a new one with reason MAP FULL, or the open one, lowered and placed again if it starts above. With 64
intervals held and none of them an open ALL, BLIND LIST FULL is reported, the line halts, and the condition stays OPEN with no interval. -/
def Obligations.ClosedFlawEntersTheMap : Prop :=
  ∀ (d : DetectionSet) (i : LaneId) (e : MapEntry) (s : State), (∀ c ∈ s.map.entries, s.seamCandidate d i e c = false) →
    (s.map.entries.length < 1024 →
      mapInsert d i e s =
        { s with
          map := { s.map with entries := (mapInsert d i e s).map.entries,
                              highRaised := s.map.highRaised || decide (s.map.entries.length + 1 = 896) },
          port := { s.port with events := if s.map.entries.length + 1 = 896 ∧ s.map.highRaised = false then
            s.port.events ||| Event.mapHigh.single else s.port.events } } ∧
      (s.map.entries.Pairwise (fun a b => a.yFirst ≤ b.yFirst) →
        ∃ pre post, s.map.entries = pre ++ post ∧ (mapInsert d i e s).map.entries = pre ++ e :: post ∧
          (∀ a ∈ pre, a.yFirst ≤ e.yFirst) ∧ ∀ a ∈ post, e.yFirst < a.yFirst)) ∧
    (1024 ≤ s.map.entries.length → ∀ b : Nat,
      ((∀ q ∈ s.map.blind, q.lane = none → q.yEnd = none) ∧ b = e.yFirst ∨
        ∃ c y, c ∈ s.map.blind ∧ c.lane = none ∧ c.yEnd = some y ∧ c.id < s.map.nextId ∧
          (∀ q ∈ s.map.blind, q.lane = none → q.yEnd ≠ none → q = c ∨ q.id < c.id) ∧ b = max e.yFirst y) →
      let refused : State := { s with map := { s.map with
        refused := min 65535 (s.map.refused + 1), fullEnd := none,
        full := some (match s.map.full with | none => e.yLast + 1 | some top => max (e.yLast + 1) top) } }
      ((∀ q ∈ s.map.blind, q.lane = none → q.yEnd ≠ none) →
        (s.map.blind.length < 64 → mapInsert d i e s = { refused with
          map := { refused.map with
            blind := insertByKey (fun q => q.yStart)
              ⟨s.map.nextId, .mapFull, none, s.pos.geometry.xL, s.pos.geometry.xR, b, none, 0⟩ s.map.blind,
            nextId := if 4294967295 ≤ s.map.nextId then 1 else s.map.nextId + 1 },
          port := { s.port with events := s.port.events ||| Event.blindOpened.single } }) ∧
        (64 ≤ s.map.blind.length →
          mapInsert d i e s = report2 .blindListFull ⟨s.pos.y, s.pos.lastLine, none, none, none, none, none⟩ refused ∧
          (s.port.mode.scanning = true → (∀ r, s.fault.slot ≠ .haltHeld r) →
            (mapInsert d i e s).port.mode = .halted ∧ (mapInsert d i e s).map.full = refused.map.full ∧
            (mapInsert d i e s).map.refused = refused.map.refused ∧
            ∀ q ∈ (mapInsert d i e s).map.blind, ∃ x ∈ s.map.blind, x.id = q.id ∧ x.lane = q.lane ∧ x.yEnd = q.yEnd))) ∧
      ∀ o, s.map.blind.find? (fun q => q.lane.isNone && q.yEnd.isNone) = some o →
        (o.yStart ≤ b → mapInsert d i e s = refused) ∧
        (b < o.yStart → mapInsert d i e s = { refused with map := { refused.map with
          blind := insertByKey (fun q => q.yStart) { o with yStart := b } (s.map.blind.filter fun q => q.id != o.id) } }))

/-- R72 to R74: a map entry is a candidate that touches a closed flaw exactly if it holds a neighbour of the flaw's lane whose overlap the flaw's
hull meets (the lanes in the order of START INSPECT), and its hull, widened across by J times the larger column width of the two lanes and
along by G × L, meets the flaw's; one that holds both neighbours touches with either's width (the model's choice, log 40). The first such
candidate in map order, if it has no reference, is merged with the flaw into one entry, in a full map too: the lower id, the lanes, hull,
views and flags of both with MERGED, the higher peak, the predecessor of the lower id or else of the other, and the class of the first test
that passes. With a reference the candidate stays and the flaw is inserted with the flag SEAM, or refused by a full map. -/
def Obligations.SeamMergesOrFlags : Prop :=
  (∀ (d : DetectionSet) (i : LaneId) (e c : MapEntry) (s : State),
    let start (l : LaneId) : Nat := s.lanes[l.val].geometry.x0
    let width (l : LaneId) : Nat := s.lanes[l.val].geometry.pitch * s.lanes[l.val].geometry.binning
    let stop (l : LaneId) : Nat := start l + (if s.lanes[l.val].geometry.binning = 1 then s.lanes[l.val].geometry.columns
      else (s.lanes[l.val].geometry.columns + 1) / 2) * s.lanes[l.val].geometry.pitch * s.lanes[l.val].geometry.binning
    s.seamCandidate d i e c = true ↔ ∃ (pre post : List LaneId) (left right j : LaneId),
      s.ownedSpans.map (fun o => o.1) = pre ++ left :: right :: post ∧ (left = i ∧ right = j ∨ left = j ∧ right = i) ∧
        start right < stop left ∧ e.xFirst < stop left ∧ start right ≤ e.xLast ∧ j ∈ c.lanes ∧
        c.xFirst ≤ e.xLast + d.join * max (width i) (width j) ∧ e.xFirst ≤ c.xLast + d.join * max (width i) (width j) ∧
        c.yFirst ≤ e.yLast + d.gap * s.pos.geometry.pitch ∧ e.yFirst ≤ c.yLast + d.gap * s.pos.geometry.pitch) ∧
  ∀ (d : DetectionSet) (i : LaneId) (e c : MapEntry) (s : State), s.map.entries.find? (s.seamCandidate d i e) = some c →
    (s.map.entries.map MapEntry.id).Nodup →
    (c.refs = 0 → ∃ m : MapEntry,
      mapInsert d i e s = { s with map := { s.map with
        entries := insertByKey (fun q => q.yFirst) m (s.map.entries.filter fun q => q.id != c.id) } } ∧
      (mapInsert d i e s).map.entries.length = s.map.entries.length ∧
      (∀ q, q ∈ (mapInsert d i e s).map.entries ↔ q = m ∨ (q ∈ s.map.entries ∧ q.id ≠ c.id)) ∧
      m.id = min c.id e.id ∧ (∀ l, l ∈ m.lanes ↔ l ∈ c.lanes ∨ l ∈ e.lanes) ∧
      m.yFirst = min c.yFirst e.yFirst ∧ m.yLast = max c.yLast e.yLast ∧ m.xFirst = min c.xFirst e.xFirst ∧
      m.xLast = max c.xLast e.xLast ∧ m.peak = max c.peak e.peak ∧ m.refs = 0 ∧
      m.views = ⟨c.views.bright || e.views.bright, c.views.dark || e.views.dark, c.views.oblique || e.views.oblique⟩ ∧
      m.flags = ⟨c.flags.continued || e.flags.continued, c.flags.truncated || e.flags.truncated, c.flags.seam || e.flags.seam,
        c.flags.columnSuspect || e.flags.columnSuspect, c.flags.saturated || e.flags.saturated, true⟩ ∧
      m.pred = (if c.id ≤ e.id then c.pred <|> e.pred else e.pred <|> c.pred) ∧
      let along := m.yLast - m.yFirst + 1
      let across := m.xLast - m.xFirst + 1
      m.size = max along across ∧
      m.cls = if m.flags.columnSuspect then .linear else if m.views = ⟨false, false, true⟩ then .surface
        else if d.aspect * min along across ≤ max along across then .linear
        else if c.cls = .stone ∨ e.cls = .stone then .stone else .bubble) ∧
    (0 < c.refs →
      (s.map.entries.length < 1024 → ∀ q, q ∈ (mapInsert d i e s).map.entries ↔
        q = { e with flags := { e.flags with seam := true } } ∨ q ∈ s.map.entries) ∧
      (1024 ≤ s.map.entries.length → s.map.blind.length < 64 →
        (mapInsert d i e s).map.entries = s.map.entries ∧
        (mapInsert d i e s).map.refused = min 65535 (s.map.refused + 1) ∧ (mapInsert d i e s).port.mode = s.port.mode))

/-- R83, R78, R175: MAP RETIREMENT, once a Y increment has called for it. In a mode other than IDLE the entries and the closed intervals that
are unreferenced and past the cutter leave, but in PRODUCE none that reaches y_prev; each retired flaw is counted by its class, and a map
below 896 is ARMED. R76: a map left with 896 or fewer under an open condition has room (the model's mark, log 20). -/
def Obligations.MapRetirementPastTheCutter : Prop :=
  ∀ s : State, s.ctl.held = false →
    (s.map.testDue = false → exec .mapRetirement s = .next s) ∧
    (s.map.testDue = true → s.port.mode = .idle →
      exec .mapRetirement s = .next { s with map := { s.map with testDue := false } }) ∧
    (s.map.testDue = true → s.port.mode ≠ .idle →
      let gone (e : MapEntry) : Prop := e.refs = 0 ∧ e.yLast + s.pos.geometry.dgc ≤ s.pos.y ∧
        (s.port.mode = .produce → e.yLast < s.planner.yPrev)
      let closedPast (b : Interval) : Prop := b.refs = 0 ∧ ∃ y, b.yEnd = some y ∧ y + s.pos.geometry.dgc ≤ s.pos.y ∧
        (s.port.mode = .produce → y ≤ s.planner.yPrev)
      ∃ t, exec .mapRetirement s = .next t ∧
        (∀ e, e ∈ t.map.entries ↔ e ∈ s.map.entries ∧ ¬ gone e) ∧ (∀ b, b ∈ t.map.blind ↔ b ∈ s.map.blind ∧ ¬ closedPast b) ∧
        t.map.entries.Sublist s.map.entries ∧ t.map.blind.Sublist s.map.blind ∧
        t.map = { s.map with entries := t.map.entries, blind := t.map.blind, highRaised := t.map.highRaised, room := t.map.room,
                             testDue := false } ∧
        (t.map.room = true ↔
          s.map.room = true ∨ s.map.full ≠ none ∧ s.map.fullEnd = none ∧ t.map.entries.length ≤ 896) ∧
        (t.map.highRaised = true ↔ s.map.highRaised = true ∧ 896 ≤ t.map.entries.length) ∧
        (∀ c, s.report.shift.flaws.get c ≤ 4294967295 → t.report.shift.flaws.get c = min 4294967295
          (s.report.shift.flaws.get c + ((s.map.entries.filter fun e => e.cls == c).length -
            (t.map.entries.filter fun e => e.cls == c).length))) ∧
        t.pos = s.pos ∧ t.lanes = s.lanes ∧ t.tracker = s.tracker ∧ t.orders = s.orders ∧ t.planner = s.planner ∧ t.port = s.port ∧
        t.fault = s.fault ∧ t.out = s.out)

/-- R76, R77, R80: the end of an open map-full condition. A release that leaves 896 entries or fewer under it gives the map room (the model's mark,
log 20; a retirement does too, O35). Its line is noted as the Tracker next completes its work for a line, whatever that work itself inserts,
or, while no lane is in SETTLING, ACTIVE or CROWDED, at the next scan trigger; a halt part way through the work notes none, and the first
line noted counts (the model's choices, logs 9 and 20). MAP FULL END then makes the condition CLEAR; the closing label is the larger of
(h + 1) × L and the refused top, and it is recorded. With the break marking open the ALL interval stays; else it closes at the larger of the
label and a recorded break label, and the recorded labels go; with no ALL interval nothing closes and they stay. A label recorded twice keeps
the larger (the model's reading, log 33). -/
def Obligations.MapFullConditionEnds : Prop :=
  (∀ s : State, s.ctl.held = false →
    (s.map.fullEnd = none ∨ s.map.full = none → exec .mapFullEnd s = .next s) ∧
    (∀ h top, s.map.fullEnd = some h → s.map.full = some top →
      let label := max ((h + 1) * s.pos.geometry.pitch) top
      (s.pos.breakMarking = true → exec .mapFullEnd s = .next { s with map := { s.map with
        full := none, fullEnd := none, room := false, fullLabel := some (max label (s.map.fullLabel.getD 0)) } }) ∧
      (s.pos.breakMarking = false →
        ((∀ b ∈ s.map.blind, b.lane = none → b.yEnd ≠ none) → exec .mapFullEnd s = .next { s with map := { s.map with
          full := none, fullEnd := none, room := false, fullLabel := some (max label (s.map.fullLabel.getD 0)) } }) ∧
        ∀ o, s.map.blind.find? (fun b => b.lane.isNone && b.yEnd.isNone) = some o → exec .mapFullEnd s =
          .next { s with map := { s.map with
            full := none, fullEnd := none, room := false, fullLabel := none, breakLabel := none,
            blind := s.map.blind.map fun b =>
              if b.id = o.id then { b with yEnd := some (max label (s.map.breakLabel.getD 0)) } else b } }))) ∧
  (∀ (n : Nat) (i : LaneId) (s : State) (set now : DetectionSet), InForce s n set now →
    let u := trackerWork n i s
    (s.map.fullEnd = none → s.port.mode.scanning = true →
      (u.port.mode = s.port.mode → u.map.full ≠ none → s.map.room = true → u.map.fullEnd = some n ∧ u.map.room = false) ∧
      (u.port.mode = s.port.mode → u.map.full = none ∨ s.map.room = false → u.map.fullEnd = none ∧ u.map.room = s.map.room) ∧
      (u.port.mode = .halted → u.map.fullEnd = none)) ∧
    ∀ h, s.map.fullEnd = some h → s.map.entries.length + s.tracker.tables[i.val].flaws.length ≤ 1024 → u.map.fullEnd = some h) ∧
  (∀ (flaws blind : List Nat) (s : State), s.port.mode ≠ .idle →
    ((releaseReferences flaws blind s).map.room = true ↔
      s.map.room = true ∨ s.map.full ≠ none ∧ s.map.fullEnd = none ∧ (releaseReferences flaws blind s).map.entries.length ≤ 896)) ∧
  ∀ (n : Nat) (s : State),
    let ends : Prop := (∀ i : LaneId, s.lanes[i.val].state = .off ∨ s.lanes[i.val].state = .faulted) ∧ s.map.full ≠ none ∧
      s.map.fullEnd = none ∧ s.map.room = true
    (ends → (trigger n s).map = { s.map with fullEnd := some n, room := false }) ∧ (¬ ends → (trigger n s).map = s.map)


/-! ### Chapter 5: the Order Unit -/

/-- R89, R90, R93, R98: LOAD ORDER outside HALTED. The refusals in their order, and the effect: the order joins the tail as QUEUED with both
counts 0, and is ACTIVE at once in PRODUCE if every other order is ENDING. A refusal leaves the queue as it is. -/
def Obligations.LoadOrderChecksAndQueues : Prop :=
  ∀ (s : State) (tag : Nat) (f : OrderFields), Listens s tag → s.port.mode ≠ .halted →
    let refused (r : Result) : Prop := exec (.loadOrder tag (.fields f)) s = .next (s.answered .loadOrder tag r .empty)
    let inRange : Prop := (1 ≤ f.id ∧ f.id ≤ 65535) ∧ (6000 ≤ f.length ∧ f.length ≤ 60000) ∧ (1 ≤ f.split ∧ f.split ≤ 4) ∧
      f.quantity ≤ 65535 ∧ f.target ≤ 2 ∧ f.fallback ≤ 1 ∧ f.positions.length + 1 = f.split ∧
      f.positions.Pairwise (fun x y => x < y) ∧ ∀ x ∈ f.positions, s.pos.geometry.xL < x ∧ x < s.pos.geometry.xR
    let order (st : OrderState) : Order := ⟨f.id, f.length, f.split, f.positions, f.quantity,
      if f.target = 0 then .a else if f.target = 1 then .b else .c, if f.fallback = 0 then .take else .cull, st, 0, 0⟩
    let cuttable : Prop := ∀ a, s.cutter.agreement = some a → a.cMin ≤ f.length ∧ f.split ≤ a.cap.across
    let plannable : Prop := ∀ a, s.cutter.agreement = some a →
      f.length + s.planner.params.maxCull + a.lead + s.planner.params.guard ≤ s.pos.geometry.dgc
    (s.pos.configured = false → refused .notConfigured) ∧
    (s.pos.configured = true → ¬ inRange → refused .badField) ∧
    (s.pos.configured = true → inRange →
      (8 ≤ s.orders.queue.length → refused .queueFull) ∧
      (s.orders.queue.length < 8 → (∃ o ∈ s.orders.queue, o.id = f.id) → refused .duplicateId) ∧
      (s.orders.queue.length < 8 → (∀ o ∈ s.orders.queue, o.id ≠ f.id) →
        (¬ cuttable → refused .notCuttable) ∧ (cuttable → ¬ plannable → refused .orderTooLong) ∧
        (cuttable → plannable →
          (s.port.mode ≠ .produce ∨ (∃ o ∈ s.orders.queue, o.state = .active) →
            exec (.loadOrder tag (.fields f)) s =
              .next ({ s with orders := { s.orders with queue := s.orders.queue ++ [order .queued] } }.answered .loadOrder tag
                .ok (.loaded .queued))) ∧
          (s.port.mode = .produce → (∀ o ∈ s.orders.queue, o.state = .ending) →
            ∃ p : PlanningState, exec (.loadOrder tag (.fields f)) s =
              .next ({ s with
                orders := { s.orders with queue := s.orders.queue ++ [order .active], exhausted := false },
                planner := { s.planner with planning := p },
                port := { s.port with events := s.port.events ||| Event.orderActivated.single } }.answered .loadOrder tag
                .ok (.loaded .active))))))

/-- R99, R98, R93: WITHDRAW ORDER outside HALTED, by the state of the order. NOT FOUND for an id the queue does not hold. QUEUED: removed with
outcome WITHDRAWN, or ENDING while it has records. ACTIVE: ENDING, or finished at once without records, and in PRODUCE the oldest QUEUED
order that fits becomes ACTIVE. ENDING: unchanged. -/
def Obligations.WithdrawOrderByState : Prop :=
  ∀ (s : State) (tag id : Nat), Listens s tag → s.port.mode ≠ .halted →
    ((∀ o ∈ s.orders.queue, o.id ≠ id) →
      exec (.withdrawOrder tag (.fields id)) s = .next (s.answered .withdrawOrder tag .notFound .empty)) ∧
    ∀ (pre post : List Order) (o : Order), s.orders.queue = pre ++ o :: post → o.id = id → OrderLaw s →
      let ended : List Order := pre ++ { o with state := .ending } :: post
      let hasRecords : Prop := ∃ r ∈ s.planner.table, r.order = some id ∧ r.state ≠ .void
      let finished (outcome : OrderOutcome) : List FinishedEntry :=
        (if 8 ≤ s.orders.finished.length then s.orders.finished.drop 1 else s.orders.finished) ++
          [⟨o.id, o.quantity, o.target, o.planned, o.delivered, outcome, s.report.shift.seq⟩]
      (o.state = .queued → ¬ hasRecords → exec (.withdrawOrder tag (.fields id)) s =
        .next ({ s with
          orders := { s.orders with queue := pre ++ post, finished := finished .withdrawn },
          port := { s.port with events := s.port.events ||| Event.orderWithdrawn.single },
          report := { s.report with shift := { s.report.shift with
            withdrawn := min 4294967295 (s.report.shift.withdrawn + 1) } } }.answered .withdrawOrder tag .ok (.orderState none))) ∧
      (o.state = .queued → hasRecords → exec (.withdrawOrder tag (.fields id)) s =
        .next ({ s with orders := { s.orders with queue := ended } }.answered .withdrawOrder tag .ok
          (.orderState (some .ending)))) ∧
      (o.state = .ending → exec (.withdrawOrder tag (.fields id)) s =
        .next (s.answered .withdrawOrder tag .ok (.orderState (some .ending)))) ∧
      (o.state = .active → hasRecords →
        ((∀ q ∈ pre ++ post, q.state ≠ .queued) ∨ s.port.mode ≠ .produce →
          ∃ p : PlanningState, exec (.withdrawOrder tag (.fields id)) s =
            .next ({ s with orders := { s.orders with queue := ended },
                            planner := { s.planner with planning := p } }.answered .withdrawOrder tag .ok
              (.orderState (some .ending)))) ∧
        (∀ n, s.port.mode = .produce → (∀ q ∈ pre ++ post, q.state ≠ .active) →
          (pre ++ post).find? (fun q => q.state == .queued) = some n → s.fitCheck n = none →
          n.quantity = 0 ∨ n.planned < n.quantity →
          ∃ p : PlanningState, exec (.withdrawOrder tag (.fields id)) s =
            .next ({ s with
              orders := { s.orders with queue := ended.map fun (q : Order) => if q.id = n.id then { q with state := .active } else q,
                                        exhausted := false },
              planner := { s.planner with planning := p },
              port := { s.port with events := s.port.events ||| Event.orderActivated.single } }.answered .withdrawOrder tag .ok
              (.orderState (some .ending))))) ∧
      (o.state = .active → ¬ hasRecords → (∀ q ∈ pre ++ post, q.state ≠ .queued) ∨ s.port.mode ≠ .produce →
        ∃ t : State, exec (.withdrawOrder tag (.fields id)) s = .next (t.answered .withdrawOrder tag .ok (.orderState none)) ∧
          t.orders = { s.orders with queue := pre ++ post,
                                     finished := finished (if 0 < o.quantity ∧ o.delivered < o.quantity then .short else .complete) } ∧
          t.latched .orderFinished = true ∧ t.planner.table = s.planner.table ∧ t.fault = s.fault ∧ t.pos = s.pos ∧
          t.lanes = s.lanes ∧ t.tracker = s.tracker ∧ t.map = s.map ∧ t.cutter = s.cutter ∧ t.out = s.out)


/-! ### Chapter 6: the Cut Planner -/

/-- R202, R107, R161, R93: START PRODUCTION in INSPECT. NOT CONFIGURED, then NO AGREEMENT; else the head cut takes the least multiple of L at or
above Y + lead + guard − D_gc and, after an earlier cut, at least C_min beyond it; its CUT is sent, y_prev and the last cut position become
its position, the mode becomes PRODUCE, and the oldest QUEUED order becomes ACTIVE if it fits. -/
def Obligations.StartProductionCommitsTheHeadCut : Prop :=
  ∀ (s : State) (tag : Nat), Listens s tag → s.port.mode = .inspect →
    (s.planner.configured = false ∨ s.grader.version = 0 →
      exec (.startProduction tag (.fields ())) s = .next (s.answered .startProduction tag .notConfigured .empty)) ∧
    (s.planner.configured = true → s.grader.version ≠ 0 → s.cutter.agreement = none →
      exec (.startProduction tag (.fields ())) s = .next (s.answered .startProduction tag .noAgreement .empty)) ∧
    ∀ a, s.planner.configured = true → s.grader.version ≠ 0 → s.cutter.agreement = some a → 0 < s.pos.geometry.pitch →
      let bounded (p : Nat) : Prop := p % s.pos.geometry.pitch = 0 ∧
        s.pos.y + a.lead + s.planner.params.guard ≤ p + s.pos.geometry.dgc ∧ ∀ q, s.planner.lastCut = some q → q + a.cMin ≤ p
      ∃ (pos : Nat) (t : State), exec (.startProduction tag (.fields ())) s =
          .next (t.answered .startProduction tag .ok (.headCut s.planner.nextCut pos)) ∧
        bounded pos ∧ (∀ p, bounded p → pos ≤ p) ∧
        t.port.mode = .produce ∧ t.latched .modeChanged = true ∧ t.orders.exhausted = false ∧
        t.planner.head = some ⟨⟨s.planner.nextCut, pos, .sent⟩, true⟩ ∧ t.planner.yPrev = pos ∧ t.planner.lastCut = some pos ∧
        t.planner.nextCut = (if 4294967295 ≤ s.planner.nextCut then 1 else s.planner.nextCut + 1) ∧
        (t.planner.planning = .ready ∨ t.planner.planning = .waiting) ∧
        t.planner.table = s.planner.table ∧ t.planner.params = s.planner.params ∧ t.planner.nextPlate = s.planner.nextPlate ∧
        t.out.cutter = s.out.cutter ++
          [.cut s.planner.nextCut pos (pos + s.pos.geometry.dgc - s.pos.y) s.pos.speed] ∧
        t.cutter = { s.cutter with sentCut := min 4294967295 (s.cutter.sentCut + 1) } ∧
        t.lanes = s.lanes ∧ t.tracker = s.tracker ∧ t.map = s.map ∧ t.grader = s.grader ∧ t.fault = s.fault ∧
        ((∀ o ∈ s.orders.queue, o.state ≠ .queued) → t.orders.queue = s.orders.queue) ∧
        ∀ n, OrderLaw s → (∀ o ∈ s.orders.queue, o.state ≠ .active) →
          s.orders.queue.find? (fun q => q.state == .queued) = some n →
          a.cMin ≤ n.length → n.split ≤ a.cap.across →
          n.length + s.planner.params.maxCull + a.lead + s.planner.params.guard ≤ s.pos.geometry.dgc →
          n.quantity = 0 ∨ n.planned < n.quantity →
          t.latched .orderActivated = true ∧
            t.orders.queue = s.orders.queue.map fun q => if q.id = n.id then { q with state := .active } else q

/-- R108, R111, R112, R114, R124, R137, R146, R81, R95, R93: NORMAL PLAN. A chain is open at the end of the table when the last record has spilled,
or the lead-in with none in the table when its cut has failed. Nothing unless the Planner tests its triggers, K has reached W and two records
have room. With no ACTIVE order a filler cull of C_max is committed and ORDERS EXHAUSTED marks the start of a run. With one, the first
candidate whose plate meets the target is committed, its cull first; with none the fallback commits the plate at y_prev or a cull of C_max.
The first record joins the open chain, with X grades, no references and no count; one that joins none has its graded pieces and takes a
reference to every entry and interval over its span. A plate that counts adds 1 to the order's planned good; at Q the order enters ENDING
and the oldest QUEUED order that fits becomes ACTIVE. -/
def Obligations.NormalPlanCommits : Prop :=
  (∀ (s : State) (h : Nat), s.planner.openChain = some h ↔
    (∃ r, s.planner.table.getLast? = some r ∧ r.state = .spilled ∧ h = r.absorbedInto.getD r.id) ∨
      (s.planner.table = [] ∧ h = 0 ∧ ∃ c, s.planner.head = some c ∧ c.leadIn = true ∧
        (c.cut.state = .rejected ∨ c.cut.state = .missed))) ∧
  ∀ s : State, s.ctl.held = false →
    let due : Prop := (s.planner.planning = .ready ∨ s.planner.planning = .waiting) ∧
      s.planner.yPrev + s.planner.params.maxCull + s.plateLength ≤ s.tracker.frontier ∧ s.planner.table.length + 2 ≤ 128
    let y := s.planner.yPrev
    let far := y + s.planner.params.maxCull
    let meets (o : Order) (c : Nat) : Prop := (s.evaluatePlate o (y + c)).rank ≤ o.target.rank
    let one (order : Option Order) (stop : Nat) (t : State) (r : PlateRecord) : Prop :=
      exec .normalPlan s = .next t ∧ t.planner.table = s.planner.table ++ [r] ∧ Advanced s t stop 1 ∧
        CommittedAs s order s.planner.nextPlate s.planner.nextCut y stop false s.planner.openChain r ∧
        t.map = (if s.planner.openChain = none then s.map.referenced y stop else s.map) ∧
        t.out.cutter = s.out.cutter ++ [.cut s.planner.nextCut stop (stop + s.pos.geometry.dgc - s.pos.y) s.pos.speed]
    (¬ due → exec .normalPlan s = .next s) ∧
    (due → (∀ o ∈ s.orders.queue, o.state ≠ .active) →
      ∃ (t : State) (r : PlateRecord), one none far t r ∧ r.grade = .x ∧ t.orders = { s.orders with exhausted := true } ∧
        (s.orders.exhausted = false → t.latched .ordersExhausted = true) ∧
        (s.orders.exhausted = true → t.port = s.port)) ∧
    ∀ o, due → s.activeOrder = some o →
      (meets o 0 →
        ∃ (t : State) (r : PlateRecord), one (some o) (y + o.length) t r ∧ (OrderLaw s → OrderCounts s t o r.counted) ∧
          (s.planner.openChain = none → r.grade = s.evaluatePlate o y ∧ r.counted = true)) ∧
      (∀ c, ¬ meets o 0 → s.candidates.find? (fun c => (s.evaluatePlate o (y + c)).meetsTarget o.target) = some c →
        ∃ (t : State) (q r : PlateRecord), exec .normalPlan s = .next t ∧ t.planner.table = s.planner.table ++ [q, r] ∧
          Advanced s t (y + c + o.length) 2 ∧ (OrderLaw s → OrderCounts s t o true) ∧
          t.map = (if s.planner.openChain = none then s.map.referenced y (y + c) else s.map).referenced (y + c) (y + c + o.length) ∧
          CommittedAs s none s.planner.nextPlate s.planner.nextCut y (y + c) false s.planner.openChain q ∧
          q.grade = .x ∧
          CommittedAs s (some o) (nextId s.planner.nextPlate) (nextId s.planner.nextCut) (y + c) (y + c + o.length) false none r ∧
          r.grade = s.evaluatePlate o (y + c) ∧ r.grade.rank ≤ o.target.rank ∧ r.counted = true) ∧
      ((∀ c ∈ s.candidates, ¬ meets o c) →
        (o.fallback = .take →
          ∃ (t : State) (r : PlateRecord), one (some o) (y + o.length) t r ∧ (s.planner.openChain = none → r.grade = s.evaluatePlate o y) ∧
            r.counted = false ∧ t.orders = s.orders) ∧
        (o.fallback = .cull → ∃ (t : State) (r : PlateRecord), one none far t r ∧ r.grade = .x ∧ t.orders = s.orders))

/-- R110: the candidate lengths of a normal plan are 0 and the values C_min and Y_last + 1 + E − y_prev of the window flaws that lie from C_min
to C_max, each once, in ascending order, and of more than 16 the 16 smallest. -/
def Obligations.CandidateLengths : Prop :=
  ∀ (s : State) (a : Agreement), s.cutter.agreement = some a →
    let inWindow (e : MapEntry) : Prop :=
      e.yFirst < s.planner.yPrev + s.planner.params.maxCull + s.plateLength ∧ s.planner.yPrev ≤ e.yLast ∧
        e.xFirst < s.pos.geometry.xR ∧ s.pos.geometry.xL ≤ e.xLast
    let value (c : Nat) : Prop := c = 0 ∨ (a.cMin ≤ c ∧ c ≤ s.planner.params.maxCull ∧ (c = a.cMin ∨
      ∃ e ∈ s.map.entries, inWindow e ∧ c + s.planner.yPrev = e.yLast + 1 + s.planner.params.clearance))
    s.candidates.Pairwise (fun x y => x < y) ∧ s.candidates.length ≤ 16 ∧ (∀ c ∈ s.candidates, value c) ∧
    ∀ c, value c → c ∈ s.candidates ∨ (s.candidates.length = 16 ∧ ∀ d ∈ s.candidates, d < c)

/-- R109, R113, R124, R137, R148, R81, R95, R93: FORCED PLAN and PLAN OVERRUN. With the forced trigger met, no normal plan due and 127 records or
fewer, one record is committed from y_prev without a cull: the plate of the ACTIVE order, or a filler cull, with its forced flag set, PLAN
FORCED raised and the plan counted. It joins an open chain, or has its graded pieces and takes its references, and counts toward its order,
as a record of a normal plan does. With 128 records PLAN OVERRUN is reported and no plan is made. Otherwise neither does anything. The
trigger is read from the state at any step (the model's choice, log 46). -/
def Obligations.ForcedPlanCommits : Prop :=
  ∀ s : State, s.ctl.held = false →
    let y := s.planner.yPrev
    let testing : Prop := s.planner.planning = .ready ∨ s.planner.planning = .waiting
    let normal : Prop := y + s.planner.params.maxCull + s.plateLength ≤ s.tracker.frontier ∧ s.planner.table.length + 2 ≤ 128
    let forced : Prop := ∃ a, s.cutter.agreement = some a ∧
      (match s.activeOrder with
        | some o => y + min o.length a.cMin
        | none => y + s.planner.params.maxCull) + s.pos.geometry.dgc ≤ s.pos.y + a.lead + s.planner.params.guard
    let one (order : Option Order) (stop : Nat) (t : State) (r : PlateRecord) : Prop :=
      exec .forcedPlan s = .next t ∧ t.planner.table = s.planner.table ++ [r] ∧ Advanced s t stop 1 ∧
        CommittedAs s order s.planner.nextPlate s.planner.nextCut y stop true s.planner.openChain r ∧ t.latched .planForced = true ∧
        t.map = (if s.planner.openChain = none then s.map.referenced y stop else s.map) ∧
        t.report.shift.forced = min 4294967295 (s.report.shift.forced + 1) ∧
        t.out.cutter = s.out.cutter ++ [.cut s.planner.nextCut stop (stop + s.pos.geometry.dgc - s.pos.y) s.pos.speed]
    (¬ (testing ∧ forced ∧ s.planner.table.length + 1 ≤ 128 ∧ ¬ normal) → exec .forcedPlan s = .next s) ∧
    (testing → forced → s.planner.table.length + 1 ≤ 128 → ¬ normal →
      (s.activeOrder = none → ∃ (t : State) (r : PlateRecord), one none (y + s.planner.params.maxCull) t r ∧ r.grade = .x ∧
        t.orders = { s.orders with exhausted := true } ∧ (s.orders.exhausted = false → t.latched .ordersExhausted = true)) ∧
      ∀ o, s.activeOrder = some o → ∃ (t : State) (r : PlateRecord), one (some o) (y + o.length) t r ∧
        (OrderLaw s → OrderCounts s t o r.counted) ∧
        (s.planner.openChain = none → r.counted = r.grade.meetsTarget o.target)) ∧
    (¬ (testing ∧ forced ∧ 128 ≤ s.planner.table.length) → exec (.planOverrun false) s = .next s) ∧
    (testing → forced → 128 ≤ s.planner.table.length → exec (.planOverrun false) s =
      .next (report2 .planOverrun ⟨s.pos.y, s.pos.lastLine, none, none, none, none, none⟩ s))

/-- R121, R165, R152: an answer that names no cut the Planner holds, or a settled one, and a malformed record, are discarded as CUTTER PROTOCOL
with the current Y, the last triggered line and the cut id, and change no record. R117: CUT ACCEPT for a cut in state SENT makes it
ACCEPTED, and its record too unless it is SPILLED; for a cut already ACCEPTED it changes nothing. -/
def Obligations.AnswersWithoutEffectAndAccept : Prop :=
  (∀ (s : State) (id : Nat) (c : Instr), s.ctl.held = false →
      let protocol (cut : Option Nat) : State :=
        report1 .cutterProtocol ⟨s.pos.y, s.pos.lastLine, none, none, cut, none, none⟩ s
      let settled (k : Cut) : Prop := k.state = .done ∨ k.state = .rejected ∨ k.state = .missed
      (∀ cut, exec (.malformedRecord cut) s = .next (protocol cut) ∧ (protocol cut).planner = s.planner) ∧
      ((c = .cutAccept id ∨ c = .cutDone id ∨ c = .cutMissed id ∨ ∃ r, c = .cutReject id r) →
        (∀ h, s.planner.head = some h → h.cut.id = id → settled h.cut) →
        (∀ r ∈ s.planner.table, r.cut.id = id → settled r.cut) → exec c s = .next (protocol (some id)))) ∧
  (∀ (s : State) (id : Nat), s.ctl.held = false → (s.planner.cuts.map fun h => h.cut.id).Nodup →
      (s.planner.table.map PlateRecord.id).Nodup →
      (∀ h, s.planner.head = some h → h.cut.id = id →
        (h.cut.state = .accepted → exec (.cutAccept id) s = .next s) ∧
        (h.cut.state = .sent → exec (.cutAccept id) s =
          .next { s with planner := { s.planner with head := some { h with cut := { h.cut with state := .accepted } } } })) ∧
      ∀ (pre post : List PlateRecord) (r : PlateRecord), s.planner.table = pre ++ r :: post → r.cut.id = id →
        (r.cut.state = .accepted → exec (.cutAccept id) s = .next s) ∧
        (r.cut.state = .sent → exec (.cutAccept id) s =
          .next { s with planner := { s.planner with table := pre ++ { r with
            cut := { r.cut with state := .accepted },
            state := if r.state = .spilled then .spilled else .accepted } :: post } }))

/-- R118, R125, R126, R97, R82, R172, R173, R180, R177: CUT DONE in PRODUCE and DRAINING. Live cuts below it are settled first, in PRODUCE each exactly
as by a CUT MISSED. With none, the head cut becomes DONE and no record retires; the front record, not absorbed, retires: PLATE RESULT is
sent, its journal entry made, plates, pieces and area, or culls and cull area, are counted, a counted plate is delivered, its references are
given back, it leaves the table and its cut becomes the head cut. A joined chain whose last cut is DONE retires as one cull of the joined
length with a journal entry for each record. In DRAINING an open chain that comes to the front so retires with it. A pending close is made. -/
def Obligations.CutDoneRetiresTheRecord : Prop :=
  ∀ (s : State) (id : Nat), s.ctl.held = false → s.port.mode.cutting = true → (s.planner.cuts.map fun h => h.cut.id).Nodup →
    (s.planner.table.map PlateRecord.id).Nodup →
    let live (k : Cut) : Prop := k.state = .sent ∨ k.state = .accepted
    let chain (x : PlateRecord) : Nat := x.absorbedInto.getD x.id
    let length (x : PlateRecord) : Nat := x.yEnd - x.yStart
    let entry (x : PlateRecord) (first : Option (Nat × Nat)) : JournalEntry :=
      ⟨x.id, x.kind, x.order, length x, x.version, x.grade, x.pieces.map Piece.grade, x.forced, first.isSome, first.map fun p => p.1,
        first.map fun p => p.2, s.report.shift.seq⟩
    let noted (es : List JournalEntry) : List JournalEntry :=
      es.foldl (fun j e => (if 64 ≤ j.length then j.drop 1 else j) ++ [e]) s.report.journal
    let result (x : PlateRecord) : CutterRecord := .plateResult x.id x.kind (length x)
      (x.pieces.map fun p => ⟨p.xStart, p.xEnd, p.grade, p.dest⟩)
    let joined (first last : PlateRecord) (rs : List PlateRecord) : CutterRecord := .plateResult first.id .cull (rs.map length).sum
      [⟨s.pos.geometry.xL, s.pos.geometry.xR, .x, last.rejectDest⟩]
    let sums (rs : List PlateRecord) (first : PlateRecord) : List JournalEntry :=
      rs.map fun x => entry x (some (first.id, (rs.map length).sum))
    let settled (rest : List PlateRecord) : Prop :=
      s.port.mode = .draining → ∀ x, rest.getLast? = some x → x.state ≠ .spilled
    let frame (t : State) : Prop := t.latched .resultReady = true ∧ t.pos = s.pos ∧ t.lanes = s.lanes ∧ t.tracker = s.tracker ∧
      t.fault = s.fault ∧ t.port.mode = s.port.mode ∧
      ∀ p, s.report.pendingClose = some p → t.report.pendingClose = none ∧ t.report.shift.label = p.label ∧
        t.latched .shiftClosed = true
    (∀ (h e : HeldCut) (es : List HeldCut) (u : State), s.port.mode = .produce → s.findCut id = some h → live h.cut →
      s.planner.cuts.filter (fun k => k.cut.state.live && decide (k.cut.pos < h.cut.pos)) = e :: es →
      exec (.cutMissed e.cut.id) s = .next u → exec (.cutDone id) s = exec (.cutDone id) u) ∧
    (∀ h, s.planner.head = some h → h.cut.id = id → live h.cut →
      (∀ r ∈ s.planner.table, live r.cut → h.cut.pos ≤ r.cut.pos) → exec (.cutDone id) s =
        .next { s with planner := { s.planner with head := some { h with cut := { h.cut with state := .done } } } }) ∧
    (∀ (r : PlateRecord) (rest : List PlateRecord), s.planner.table = r :: rest → r.cut.id = id → live r.cut →
      r.absorbedInto = none → (∀ h, s.planner.head = some h → ¬ live h.cut) →
      (∀ q ∈ rest, live q.cut → r.cut.pos ≤ q.cut.pos) →
      (settled rest →
        ∃ t : State, exec (.cutDone id) s = .next t ∧ frame t ∧ t.planner.table = rest ∧
          t.planner.head = some ⟨{ r.cut with state := .done }, false⟩ ∧ t.out.cutter = s.out.cutter ++ [result r] ∧
          t.cutter = { s.cutter with sentResult := min 4294967295 (s.cutter.sentResult + 1) } ∧
          t.report.journal = noted [entry r none] ∧ t.map = s.released r.flawRefs r.blindRefs s.map ∧
          (s.report.pendingClose = none →
            (r.kind = .plate → t.report.shift.plates = s.report.shift.plates.modify (fun n => min 4294967295 (n + 1)) r.grade ∧
              t.report.shift.pieces =
                r.pieces.foldl (fun g p => g.modify (fun n => min 4294967295 (n + 1)) p.grade) s.report.shift.pieces ∧
              t.report.shift.areas = r.pieces.foldl
                (fun g p => g.modify (fun a => min (2 ^ 64 - 1) (a + (p.xEnd - p.xStart) * length r)) p.grade) s.report.shift.areas ∧
              t.report.shift.cullCount = s.report.shift.cullCount ∧ t.report.shift.cullArea = s.report.shift.cullArea) ∧
            (r.kind = .cull → t.report.shift.plates = s.report.shift.plates ∧ t.report.shift.pieces = s.report.shift.pieces ∧
              t.report.shift.areas = s.report.shift.areas ∧
              t.report.shift.cullCount = min 4294967295 (s.report.shift.cullCount + 1) ∧
              t.report.shift.cullArea = min (2 ^ 64 - 1) (s.report.shift.cullArea +
                (s.pos.geometry.xR - s.pos.geometry.xL) * length r))) ∧
          (∀ p, s.report.pendingClose = some p → t.report.shift.plates = ⟨0, 0, 0, 0, 0⟩) ∧
          (r.order = none → t.orders = s.orders) ∧
          ∀ (pre post : List Order) (o : Order), s.orders.queue = pre ++ o :: post → r.order = some o.id → OrderLaw s →
            let o' : Order := { o with delivered := if r.counted then min 4294967295 (o.delivered + 1) else o.delivered }
            (o.state ≠ .ending ∨ (∃ q ∈ rest, q.order = some o.id ∧ q.state ≠ .void) →
              t.orders = { s.orders with queue := pre ++ o' :: post }) ∧
            (o.state = .ending → (∀ q ∈ rest, q.order = some o.id → q.state = .void) →
              t.orders.queue = pre ++ post ∧ t.orders.finished.getLast? = some ⟨o.id, o.quantity, o.target, o.planned, o'.delivered,
                if 0 < o.quantity ∧ o'.delivered < o.quantity then .short else .complete, s.report.shift.seq⟩)) ∧
      (s.port.mode = .draining → ∀ (first last : PlateRecord) (mid : List PlateRecord), rest = first :: mid → rest.getLast? = some last →
        last.state = .spilled → (∀ x ∈ rest, chain x = chain last ∧ chain x ≠ r.id) →
        ∃ t : State, exec (.cutDone id) s = .next t ∧ frame t ∧ t.planner.table = [] ∧ t.planner.head = some ⟨last.cut, false⟩ ∧
          t.out.cutter = s.out.cutter ++ [result r, joined first last rest] ∧
          (s.report.pendingClose = none → t.report.journal = noted (entry r none :: sums rest first)))) ∧
    ∀ (rs rest : List PlateRecord) (first r : PlateRecord), s.planner.table = rs ++ r :: rest → (rs ++ [r]).head? = some first →
      r.cut.id = id → live r.cut → r.absorbedInto ≠ none → (∀ x ∈ rs, chain x = chain r) → (∀ x ∈ rest, chain x ≠ chain r) →
      (∀ h, s.planner.head = some h → ¬ live h.cut) → (∀ q ∈ rs ++ rest, live q.cut → r.cut.pos ≤ q.cut.pos) → settled rest →
      ∃ t : State, exec (.cutDone id) s = .next t ∧ frame t ∧ t.planner.table = rest ∧
        t.planner.head = some ⟨{ r.cut with state := .done }, false⟩ ∧ t.out.cutter = s.out.cutter ++ [joined first r (rs ++ [r])] ∧
        t.cutter = { s.cutter with sentResult := min 4294967295 (s.cutter.sentResult + 1) } ∧
        t.report.journal = noted (sums (rs ++ [r]) first) ∧ t.map = s.map ∧
        ((∀ o ∈ s.orders.queue, o.state ≠ .ending) → t.orders = s.orders) ∧
        (s.report.pendingClose = none → t.report.shift.plates = s.report.shift.plates ∧
          t.report.shift.pieces = s.report.shift.pieces ∧ t.report.shift.areas = s.report.shift.areas ∧
          t.report.shift.cullCount = min 4294967295 (s.report.shift.cullCount + 1) ∧
          t.report.shift.cullArea = min (2 ^ 64 - 1) (s.report.shift.cullArea +
            (s.pos.geometry.xR - s.pos.geometry.xL) * ((rs ++ [r]).map length).sum))

/-- R119, R120, R123, R124, R126, R96, R82, R149: a live cut that fails, by CUT REJECT, by CUT MISSED or by the overdue rule. The cut is settled,
the fault of its kind reported and counted; its record becomes SPILLED with grades X and its reject destination, and gives up its references
and its count; the record after it is absorbed into the chain, with the chain that it heads, and with none after it the chain stays open. A
failed head cut absorbs the first record into the lead-in. In DRAINING a chain left open that then stands at the front of the table retires
as one cull. CUT OVERDUE, in PRODUCE and DRAINING alone, takes every overdue cut in turn, in ribbon order, each as failing in the state that
the one before it left; with none it changes nothing. -/
def Obligations.FailedCutSpillsTheRecord : Prop :=
  ∀ (s : State) (id : Nat), s.ctl.held = false → (s.planner.cuts.map fun h => h.cut.id).Nodup →
    (s.planner.table.map PlateRecord.id).Nodup →
    let live (k : Cut) : Prop := k.state = .sent ∨ k.state = .accepted
    let isOverdue (k : Cut) : Prop := live k ∧ k.pos + s.pos.geometry.dgc + s.planner.params.overdue ≤ s.pos.y
    let chain (x : PlateRecord) : Nat := x.absorbedInto.getD x.id
    let length (x : PlateRecord) : Nat := x.yEnd - x.yStart
    let fails (o : Outcome) (k : FaultKind) (st : CutState) (why : Option RejectReason) : Prop :=
      (∃ w, o = exec (.cutReject id w) s ∧ k = .cutReject ∧ st = .rejected ∧ why = some w) ∨
      (o = exec (.cutMissed id) s ∧ k = .cutMissed ∧ st = .missed ∧ why = none) ∨
      (o = exec .cutOverdue s ∧ k = .cutOverdue ∧ st = .missed ∧ why = none ∧ s.port.mode.cutting = true ∧
        ∀ h ∈ s.planner.cuts, isOverdue h.cut ↔ h.cut.id = id) ∨
      (∃ h ∈ s.planner.cuts, h.cut.id = id ∧ o = .next (failCut .overdue h s) ∧ k = .cutOverdue ∧ st = .missed ∧ why = none)
    let rejected (x : PlateRecord) : PlateRecord :=
      { x with grade := .x, pieces := x.pieces.map fun p => { p with grade := .x, dest := x.rejectDest },
               flawRefs := [], blindRefs := [], counted := false }
    let absorbed (head : Nat) (q : PlateRecord) (table : List PlateRecord) : List PlateRecord := table.map fun x =>
      if x.id = q.id then { rejected x with absorbedInto := some head }
      else if x.absorbedInto = some q.id then { x with absorbedInto := some head } else x
    let uncounted (rs : List PlateRecord) : List Order := s.orders.queue.map fun o =>
      { o with planned := o.planned - (rs.filter fun r => r.counted && r.order == some o.id).length }
    let released (rs : List PlateRecord) : MapUnit := rs.foldl (fun m x => s.released x.flawRefs x.blindRefs m) s.map
    let reported (k : FaultKind) (plate : Option Nat) (why : Option RejectReason) (t : State) : Prop :=
      t.fault = (report1 k ⟨s.pos.y, s.pos.lastLine, none, plate, some id, why, none⟩ s).fault ∧
      t.report.shift.class1 = min 4294967295 (s.report.shift.class1 + 1) ∧
      t.report.shift.rejected = (if k = .cutReject then min 4294967295 (s.report.shift.rejected + 1) else s.report.shift.rejected) ∧
      t.report.shift.missed = (if k = .cutMissed then min 4294967295 (s.report.shift.missed + 1) else s.report.shift.missed) ∧
      t.report.shift.overdue = (if k = .cutOverdue then min 4294967295 (s.report.shift.overdue + 1) else s.report.shift.overdue) ∧
      t.pos = s.pos ∧ t.lanes = s.lanes ∧ t.tracker = s.tracker ∧ t.grader = s.grader ∧ t.port.mode = s.port.mode
    let quiet (t : State) : Prop := t.report.journal = s.report.journal ∧ t.out = s.out ∧ t.cutter = s.cutter
    let stays (table : List PlateRecord) : Prop := s.port.mode = .produce ∨
      (s.port.mode = .draining ∧ ∀ x q, table.getLast? = some x → x.state = .spilled → table.head? = some q → chain q ≠ chain x)
    let retired (k : FaultKind) (plate : Option Nat) (why : Option RejectReason) (table gone : List PlateRecord) (o : Outcome) : Prop :=
      s.port.mode = .draining → ∀ first last, table.head? = some first → table.getLast? = some last → last.state = .spilled →
        (∀ x ∈ table, chain x = chain last) →
        let total := (table.map length).sum
        ∃ t : State, o = .next t ∧ reported k plate why t ∧ t.planner.table = [] ∧ t.planner.head = some ⟨last.cut, false⟩ ∧
          t.map = released gone ∧
          t.out.cutter = s.out.cutter ++
            [.plateResult first.id .cull total [⟨s.pos.geometry.xL, s.pos.geometry.xR, .x, last.rejectDest⟩]] ∧
          t.cutter = { s.cutter with sentResult := min 4294967295 (s.cutter.sentResult + 1) } ∧
          t.report.journal = table.foldl (fun j x => (if 64 ≤ j.length then j.drop 1 else j) ++
            [⟨x.id, x.kind, x.order, length x, x.version, x.grade, x.pieces.map Piece.grade, x.forced, true, some first.id,
              some total, s.report.shift.seq⟩]) s.report.journal ∧
          t.report.shift.cullCount = min 4294967295 (s.report.shift.cullCount + 1) ∧
          t.report.shift.cullArea = min (2 ^ 64 - 1) (s.report.shift.cullArea +
            (s.pos.geometry.xR - s.pos.geometry.xL) * total) ∧
          ((∀ o ∈ s.orders.queue, o.state ≠ .ending) → t.orders = { s.orders with queue := uncounted gone })
    (s.port.mode.cutting = false → exec .cutOverdue s = .next s) ∧
    (s.port.mode.cutting = true → ∀ es : List HeldCut, es.Sublist s.planner.cuts → (∀ h ∈ s.planner.cuts, h ∈ es ↔ isOverdue h.cut) →
      exec .cutOverdue s = .next (es.foldl (fun v h => failCut .overdue h v) s)) ∧
    ∀ o k st why, fails o k st why →
      (∀ (pre post : List PlateRecord) (r : PlateRecord), s.planner.table = pre ++ r :: post → r.cut.id = id → live r.cut →
        let spilled : PlateRecord := { rejected r with cut := { r.cut with state := st }, state := .spilled }
        let table : List PlateRecord := match post with
          | [] => pre ++ [spilled]
          | q :: rest => absorbed (chain r) q (pre ++ spilled :: q :: rest)
        (stays table →
          ∃ t : State, o = .next t ∧ reported k (some r.id) why t ∧ quiet t ∧ t.planner = { s.planner with table := table } ∧
            t.map = released (r :: post.take 1) ∧ t.orders = { s.orders with queue := uncounted (r :: post.take 1) }) ∧
        retired k (some r.id) why table (r :: post.take 1) o) ∧
      ∀ h, s.planner.head = some h → h.cut.id = id → live h.cut →
        let table : List PlateRecord := match s.planner.table with
          | [] => []
          | q :: rest => absorbed 0 q (q :: rest)
        (stays table →
          ∃ t : State, o = .next t ∧ reported k none why t ∧ quiet t ∧
            t.planner = { s.planner with head := some { h with cut := { h.cut with state := st } }, table := table } ∧
            t.map = released (s.planner.table.take 1) ∧ t.orders = { s.orders with queue := uncounted (s.planner.table.take 1) }) ∧
        retired k none why table (s.planner.table.take 1) o

/-- R127, R126, R100, R177: STOP PRODUCTION in PRODUCE: DELAY LIST FULL with 4 entries, else delayed, with the mode and the planning state
DRAINING and the ACTIVE order QUEUED at the head of the queue; a chain left open that is the whole table retires at once as one cull, with a
PLATE RESULT and a journal entry for each record. DRAIN COMPLETE, once no record and no live head cut is left: the mode is INSPECT, the head
cut none, planning OFF, a pending close is made, and STOP PRODUCTION is answered OK, after the close (the model's reading, log 25); once
RESET has been taken neither is answered (R198). Before that it changes nothing. -/
def Obligations.StopProductionDrains : Prop :=
  (∀ (s : State) (tag : Nat), Listens s tag → s.port.mode = .produce →
    let chain (x : PlateRecord) : Nat := x.absorbedInto.getD x.id
    let length (x : PlateRecord) : Nat := x.yEnd - x.yStart
    let draining : State :=
      { s with
        port := { s.port with delayed := s.port.delayed ++ [⟨.stopProduction, tag⟩], mode := .draining,
                              events := s.port.events ||| Event.modeChanged.single },
        planner := { s.planner with planning := .draining },
        orders := { s.orders with queue := ((s.orders.queue.filter fun o => o.state == .active).map fun o =>
            { o with state := .queued }) ++ s.orders.queue.filter fun o => o.state != .active } }
    (4 ≤ s.port.delayed.length →
      exec (.stopProduction tag (.fields ())) s = .next (s.answered .stopProduction tag .delayListFull .empty)) ∧
    (s.port.delayed.length < 4 →
      (∀ r q, s.planner.table.getLast? = some r → r.state = .spilled → s.planner.table.head? = some q → chain q ≠ chain r) →
      exec (.stopProduction tag (.fields ())) s = .next draining) ∧
    (s.port.delayed.length < 4 → (s.planner.table.map PlateRecord.id).Nodup → ∀ first last,
      s.planner.table.head? = some first → s.planner.table.getLast? = some last → last.state = .spilled →
      (∀ x ∈ s.planner.table, chain x = chain last) →
      let total := (s.planner.table.map length).sum
      ∃ t : State, exec (.stopProduction tag (.fields ())) s = .next t ∧ t.port.mode = .draining ∧ t.port.delayed = draining.port.delayed ∧
        t.planner = { draining.planner with table := [], head := some ⟨last.cut, false⟩ } ∧ t.map = s.map ∧
        t.out.cutter = s.out.cutter ++
          [.plateResult first.id .cull total [⟨s.pos.geometry.xL, s.pos.geometry.xR, .x, last.rejectDest⟩]] ∧
        t.report.journal = s.planner.table.foldl (fun j x => (if 64 ≤ j.length then j.drop 1 else j) ++
          [⟨x.id, x.kind, x.order, length x, x.version, x.grade, x.pieces.map Piece.grade, x.forced, true, some first.id, some total,
            s.report.shift.seq⟩]) s.report.journal ∧
        t.latched .resultReady = true ∧ t.report.shift.plates = s.report.shift.plates ∧
        t.report.shift.cullCount = min 4294967295 (s.report.shift.cullCount + 1) ∧
        ((∀ o ∈ s.orders.queue, o.state ≠ .ending) → t.orders = draining.orders))) ∧
  ∀ s : State, s.ctl.held = false →
    let drained : Prop := s.port.mode = .draining ∧ s.planner.table = [] ∧
      ∀ h, s.planner.head = some h → h.cut.state ≠ .sent ∧ h.cut.state ≠ .accepted
    (¬ drained → exec .drainComplete s = .next s) ∧
    (drained → ∀ tag, s.port.delayed.find? (fun d => d.kind == .stopProduction) = some ⟨.stopProduction, tag⟩ →
      (s.report.pendingClose = none → exec .drainComplete s =
        .next { s with
          pos := { s.pos with overspeed := false },
          planner := { s.planner with head := none, planning := .off },
          port := { s.port with mode := .inspect, events := s.port.events ||| Event.modeChanged.single,
                                delayed := if s.ctl.resetting then s.port.delayed
                                  else s.port.delayed.filter fun d => d.kind != .stopProduction },
          out := { s.out with replies := s.out.replies ++ if s.ctl.resetting then [] else [⟨32850, tag, .ok, .empty⟩] } }) ∧
      (∀ p closeTag, s.report.pendingClose = some p →
        s.port.delayed.find? (fun d => d.kind == .closeShift) = some ⟨.closeShift, closeTag⟩ →
        ∃ t : State, exec .drainComplete s = .next t ∧ t.port.mode = .inspect ∧ t.planner.head = none ∧ t.planner.planning = .off ∧
          t.report.pendingClose = none ∧ t.report.shift.label = p.label ∧ t.latched .modeChanged = true ∧
          t.latched .shiftClosed = true ∧
          t.port.delayed = (if s.ctl.resetting then s.port.delayed
            else s.port.delayed.filter fun d => d.kind != .stopProduction && d.kind != .closeShift) ∧
          t.out.replies = s.out.replies ++ if s.ctl.resetting then []
            else [⟨32896, closeTag, .ok, .shiftSeq s.report.shift.seq⟩, ⟨32850, tag, .ok, .empty⟩]))


/-! ### Chapter 7: the Grader -/

/-- R133, R134: WRITE GRADE ROWS and APPLY GRADE TABLE. A write is refused with WRONG MODE in HALTED and with BAD FIELD for a count of rows
outside 1 to 14, a row out of range or two rows of one identity; else every row is written into the staged copy, other rows keep their
values, and the staged flag is set. An apply is refused with WRONG MODE, NOTHING STAGED and BAD FIELD in this order; else the staged copy
becomes the active copy, the version moves on and the staged flag is cleared. -/
def Obligations.GradeTablesWrittenAndApplied : Prop :=
  ∀ (s : State) (tag : Nat), Listens s tag →
    let rowOk (r : GradeRow) : Prop := match r with
      | .limit g k es ec cs cc => g ≤ 2 ∧ k ≤ 3 ∧ es ≤ 65535 ∧ ec ≤ 255 ∧ cs ≤ 65535 ∧ cc ≤ 255
      | .floor b st l f => b ≤ 10000 ∧ st ≤ 10000 ∧ l ≤ 10000 ∧ f ≤ 10000
      | .general w e a b c u x => w ≤ 2000 ∧ e ≤ 1000 ∧ a ≤ 15 ∧ b ≤ 15 ∧ c ≤ 15 ∧ u ≤ 15 ∧ x ≤ 15
      | .other _ => False
    let rowsOk (rows : List GradeRow) : Prop := (1 ≤ rows.length ∧ rows.length ≤ 14) ∧ (∀ r ∈ rows, rowOk r) ∧
      rows.Pairwise fun p q => rowIdentity p ≠ rowIdentity q
    (∀ rows, s.port.mode = .halted →
      exec (.writeGradeRows tag (.fields rows)) s = .next (s.answered .writeGradeRows tag .wrongMode .empty)) ∧
    (∀ rows, s.port.mode ≠ .halted → ¬ rowsOk rows →
      exec (.writeGradeRows tag (.fields rows)) s = .next (s.answered .writeGradeRows tag .badField .empty)) ∧
    (∀ rows, s.port.mode ≠ .halted → rowsOk rows →
      ∃ new : GradeTable, exec (.writeGradeRows tag (.fields rows)) s =
          .next ({ s with grader := { s.grader with staged := new, stagedFlag := true } }.answered .writeGradeRows tag .ok .empty) ∧
        (∀ g k G K, targetOf g = some G → classOf k = some K →
          (∀ es ec cs cc, GradeRow.limit g k es ec cs cc ∈ rows → (new.limits G).get K = ⟨⟨es, ec⟩, ⟨cs, cc⟩⟩) ∧
          ((∀ es ec cs cc, GradeRow.limit g k es ec cs cc ∉ rows) → (new.limits G).get K = (s.grader.staged.limits G).get K)) ∧
        (∀ b st l f, GradeRow.floor b st l f ∈ rows → new.floors = ⟨b, st, l, f⟩) ∧
        ((∀ b st l f, GradeRow.floor b st l f ∉ rows) → new.floors = s.grader.staged.floors) ∧
        (∀ w e a b c u x, GradeRow.general w e a b c u x ∈ rows →
          new.band = w ∧ new.blindLimit = e ∧ new.dest = ⟨a, b, c, u, x⟩) ∧
        ((∀ w e a b c u x, GradeRow.general w e a b c u x ∉ rows) → new.band = s.grader.staged.band ∧
          new.blindLimit = s.grader.staged.blindLimit ∧ new.dest = s.grader.staged.dest)) ∧
    (s.port.mode = .halted →
      exec (.applyGradeTable tag (.fields ())) s = .next (s.answered .applyGradeTable tag .wrongMode .empty)) ∧
    (s.port.mode ≠ .halted → s.grader.stagedFlag = false →
      exec (.applyGradeTable tag (.fields ())) s = .next (s.answered .applyGradeTable tag .nothingStaged .empty)) ∧
    (s.port.mode ≠ .halted → s.grader.stagedFlag = true →
      let beyond : Prop := ∃ a, s.cutter.agreement = some a ∧ ∃ g : Grade, a.cap.destinations ≤ s.grader.staged.dest.get g
      let version := if 65535 ≤ s.grader.version then 1 else s.grader.version + 1
      (beyond → exec (.applyGradeTable tag (.fields ())) s = .next (s.answered .applyGradeTable tag .badField .empty)) ∧
      (¬ beyond → exec (.applyGradeTable tag (.fields ())) s =
        .next ({ s with grader := ⟨s.grader.staged, s.grader.staged, version, false⟩ }.answered .applyGradeTable tag .ok
          (.gradeVersion version))))

/-- R138 to R144: the grading of a piece. The counted flaws; the flaw grade, the first of A, B and C whose limits hold in every class and zone;
the blind permille: 1,000 times the blind area over the area, rounded up, the area being the width times the labels that an ALL interval
covers, or in a forced plan those from K on, and for each lane interval its overlap across times its other labels; U above the blind limit
and X otherwise kept (the ninth law); the destination of the grade; the plate grade, the worst of the pieces'; and a label covered by several
full-width rectangles counted once. -/
def Obligations.PieceGrades : Prop :=
  (∀ (s : State) (forced : Bool) (y x : Span),
    let t := s.grader.active
    let p := s.gradePlatePiece forced y x
    let counted : List MapEntry := s.map.entries.filter fun e =>
      decide (e.xFirst < x.stop) && decide (x.start ≤ e.xLast) && decide (e.yFirst < y.stop) && decide (y.start ≤ e.yLast) &&
        decide (t.floors.get e.cls ≤ e.size)
    let inBand (e : MapEntry) : Prop := 0 < t.band ∧ (e.xFirst < x.start + t.band ∨ x.stop ≤ e.xLast + t.band ∨
      e.yFirst < y.start + t.band ∨ y.stop ≤ e.yLast + t.band)
    let fullWidthAt (forced : Bool) (l : Nat) : Bool := (forced && decide (s.tracker.frontier ≤ l)) ||
      s.map.blind.any fun b => b.lane.isNone && decide (b.yStart ≤ l) && b.yEnd.all fun e => decide (l < e)
    let labels (y : Span) : List Nat := List.range' y.start (y.stop - y.start)
    let blindPart (forced : Bool) (y x : Span) : Nat :=
      let area := (x.stop - x.start) * ((labels y).filter fun l => fullWidthAt forced l).length +
        ((s.map.blind.filter fun b => b.lane.isSome).map fun b => (min b.xEnd x.stop - max b.xStart x.start) *
          ((labels y).filter fun l =>
            decide (b.yStart ≤ l) && b.yEnd.all (fun e => decide (l < e)) && !fullWidthAt forced l).length).sum
      (1000 * area + (x.stop - x.start) * (y.stop - y.start) - 1) / ((x.stop - x.start) * (y.stop - y.start))
    let within (z : ZoneLimit) (es : List MapEntry) : Prop :=
      (z.size = 65535 ∨ ∀ e ∈ es, e.size ≤ z.size) ∧ (z.count = 255 ∨ es.length ≤ z.count)
    ∀ (edge core : FlawClass → List MapEntry),
      (∀ k, edge k = counted.filter fun e => e.cls == k && e.edge t.band ⟨x, y⟩) →
      (∀ k, core k = counted.filter fun e => e.cls == k && !e.edge t.band ⟨x, y⟩) →
      let meets (l : PerClass ClassLimit) : Prop := ∀ k, within (l.get k).edge (edge k) ∧ within (l.get k).core (core k)
      let flawGrade (g : Grade) : Prop :=
        (g = .a ∧ meets t.limitA) ∨ (g = .b ∧ ¬ meets t.limitA ∧ meets t.limitB) ∨
        (g = .c ∧ ¬ meets t.limitA ∧ ¬ meets t.limitB ∧ meets t.limitC) ∨
        (g = .x ∧ ¬ meets t.limitA ∧ ¬ meets t.limitB ∧ ¬ meets t.limitC)
      (∀ e : MapEntry, e.edge t.band ⟨x, y⟩ = true ↔ inBand e) ∧ p.flaws = counted.length ∧
      (∃ g, flawGrade g ∧ p.grade = if g ≠ .x ∧ t.blindLimit < p.permille then .u else g) ∧
      p.permille = blindPart forced y x ∧
      (p.grade = .a ∨ p.grade = .b ∨ p.grade = .c → p.permille ≤ t.blindLimit) ∧ p.dest = t.dest.get p.grade ∧
      p.xStart = x.start ∧ p.xEnd = x.stop) ∧
  (∀ ps : List Piece, ps ≠ [] → (∃ p ∈ ps, worstGrade ps = p.grade) ∧ ∀ p ∈ ps, p.grade.rank ≤ (worstGrade ps).rank) ∧
  ∀ (a b : Nat) (spans : List Span), spans.Pairwise (fun p q => p.start ≤ q.start) →
    coveredLabels a b spans =
      ((List.range' a (b - a)).filter fun y => spans.any fun p => decide (p.start ≤ y) && decide (y < p.stop)).length


/-! ### Chapter 8: the Cutter Link Unit -/

/-- R154 to R156, R159, R91: CAPABILITY. Held in HALTED. Else the first condition of Table 8-4 that holds gives a DECLINE with its reason, and
ends an agreement in force, with AGREEMENT LOST in PRODUCE and DRAINING; with none the agreement forms and AGREE is sent, and every order
has its fit checks: one that fits is unchanged; one that fails is withdrawn if QUEUED without records, enters ENDING with them, and if ACTIVE
enters ENDING and the oldest QUEUED order takes its place in PRODUCE. R153, R158: the CUTTER READY input. Asserted, the level is present and
nothing further happens. Cleared, the level is absent and a held capability is discarded; an agreement in force is lost with AGREEMENT
CHANGED, and in PRODUCE and DRAINING CUTTER LOST is reported. Nothing is sent. With `late` (the model's operand, log 7) the unit sees the mode
before the halt, and an agreement that the line reset has taken away unheard counts as one, once: after its own DECLINE, AGREE or clearing
the unit has heard of the loss, and NONE stays NONE with no fault. -/
def Obligations.AgreementFormedAndLost : Prop :=
  (∀ (s : State) (c : Capability) (late : Bool), s.ctl.held = false →
      let v := min c.speed s.pos.geometry.maxSpeed
      let least := max s.planner.params.minCull c.spacing
      let lead := (c.lead * v + 99) / 100
      let inRange : Prop := (500 ≤ c.spacing ∧ c.spacing ≤ 20000) ∧ (20 ≤ c.lead ∧ c.lead ≤ 5000) ∧ (50 ≤ c.speed ∧ c.speed ≤ 1000) ∧
        (1 ≤ c.across ∧ c.across ≤ 4) ∧ (1 ≤ c.destinations ∧ c.destinations ≤ 16)
      let travel : Prop := least + lead + s.planner.params.guard ≤ s.pos.geometry.dgc
      let served : Prop := ∀ g : Grade, s.grader.active.dest.get g < c.destinations
      let reason (r : DeclineReason) : Prop :=
        (r = .notReady ∧ s.cutter.ready = false) ∨ (r = .range ∧ s.cutter.ready = true ∧ ¬ inRange) ∨
        (r = .minCull ∧ s.cutter.ready = true ∧ inRange ∧ s.planner.params.maxCull < least) ∨
        (r = .travel ∧ s.cutter.ready = true ∧ inRange ∧ least ≤ s.planner.params.maxCull ∧ ¬ travel) ∨
        (r = .destinations ∧ s.cutter.ready = true ∧ inRange ∧ least ≤ s.planner.params.maxCull ∧ travel ∧ ¬ served)
      let answer (r : DeclineReason) : CutterRecord :=
        if r = .notReady ∨ r = .range then .decline r 0 0 0 else .decline r v least lead
      let declined (r : DeclineReason) : State :=
        { s with cutter := { s.cutter with lastDecline := some r, agreement := none }, fault := s.fault.heard,
                 out := { s.out with cutter := s.out.cutter ++ [answer r] } }
      let dropped (r : DeclineReason) : State :=
        { declined r with port := { s.port with events := s.port.events ||| Event.agreementChanged.single } }
      (s.cutterMode late = .halted →
        exec (.capability c late) s = .next { s with cutter := { s.cutter with held := some c } }) ∧
      (s.cutterMode late ≠ .halted → ∀ r, reason r →
        (s.cutter.agreement = none →
          ((s.cutterMode late).cutting = false ∨ ¬ s.lossUnheard late →
            exec (.capability c late) s = .next (declined r)) ∧
          ((s.cutterMode late).cutting = true → s.lossUnheard late →
            exec (.capability c late) s = .next (report2 .agreementLost
              ⟨s.pos.y, s.pos.lastLine, none, none, none, none, none⟩ (declined r)))) ∧
        (∀ a, s.cutter.agreement = some a →
          ((s.cutterMode late).cutting = false → exec (.capability c late) s = .next (dropped r)) ∧
          ((s.cutterMode late).cutting = true → exec (.capability c late) s = .next (report2 .agreementLost
            ⟨s.pos.y, s.pos.lastLine, none, none, none, none, none⟩ (dropped r))))) ∧
      (s.cutterMode late ≠ .halted → s.cutter.ready = true → inRange → least ≤ s.planner.params.maxCull → travel → served →
        (∀ o ∈ s.orders.queue, least ≤ o.length ∧ o.split ≤ c.across ∧
          o.length + s.planner.params.maxCull + lead + s.planner.params.guard ≤ s.pos.geometry.dgc) →
        ∃ p : PlanningState, exec (.capability c late) s = .next { s with
          cutter := { s.cutter with agreement := some ⟨c, v, least, lead⟩, lastDecline := none }, fault := s.fault.heard,
          port := { s.port with events := s.port.events ||| Event.agreementChanged.single },
          planner := { s.planner with planning := p },
          out := { s.out with cutter := s.out.cutter ++ [CutterRecord.agree v least lead c.across c.destinations] } }) ∧
      (s.cutterMode late ≠ .halted → s.cutter.ready = true → inRange → least ≤ s.planner.params.maxCull → travel → served → OrderLaw s →
        let fits (o : Order) : Bool := o.fits ⟨c, v, least, lead⟩ s.planner.params s.pos.geometry.dgc
        let hasRecords (o : Order) : Prop := ∃ r ∈ s.planner.table, r.order = some o.id ∧ r.state ≠ .void
        let agreed (t : State) : Prop := exec (.capability c late) s = .next t ∧
          t.cutter = { s.cutter with agreement := some ⟨c, v, least, lead⟩, lastDecline := none } ∧
          t.out.cutter = s.out.cutter ++ [CutterRecord.agree v least lead c.across c.destinations] ∧
          t.latched .agreementChanged = true ∧ t.planner.table = s.planner.table ∧ t.map = s.map ∧ t.fault = s.fault.heard ∧ t.pos = s.pos ∧
          ((∃ o ∈ s.orders.queue, fits o = false ∧ o.state ≠ .ending) → t.latched .orderWithdrawn = true)
        (s.port.mode ≠ .produce → ∃ t : State, agreed t ∧ t.orders = s.fitted fits) ∧
        (s.port.mode = .produce → ∀ pre post o n, s.orders.queue = pre ++ o :: post → o.state = .active → fits o = false →
          hasRecords o → (∀ q ∈ pre ++ post, q.state ≠ .active ∧ (fits q = true ∨ q.state = .ending)) →
          let ended : List Order := pre ++ { o with state := .ending } :: post
          (ended.find? (fun q => q.state == .queued) = some n → n.quantity = 0 ∨ n.planned < n.quantity →
            ∃ t : State, agreed t ∧ t.latched .orderActivated = true ∧ t.orders = { s.orders with
              queue := ended.map fun q => if q.id = n.id then { q with state := .active } else q, exhausted := false }) ∧
          ((∀ q ∈ ended, q.state ≠ .queued) → ∃ t : State, agreed t ∧ t.orders = { s.orders with queue := ended })))) ∧
  (∀ (s : State) (late : Bool),
      exec .cutterReadyAsserted s = .next { s with cutter := { s.cutter with ready := true } } ∧
      (s.ctl.held = false →
        let absent : State :=
          { s with cutter := { s.cutter with ready := false, held := none, agreement := none }, fault := s.fault.heard }
        let lost : State := { absent with port := { s.port with events := s.port.events ||| Event.agreementChanged.single } }
        (s.cutter.agreement = none →
          ((s.cutterMode late).cutting = false ∨ ¬ s.lossUnheard late → exec (.cutterReadyCleared late) s = .next absent) ∧
          ((s.cutterMode late).cutting = true → s.lossUnheard late → exec (.cutterReadyCleared late) s = .next (report2 .cutterLost
            ⟨s.pos.y, s.pos.lastLine, none, none, none, none, none⟩ absent))) ∧
        ∀ a, s.cutter.agreement = some a →
          ((s.cutterMode late).cutting = false → exec (.cutterReadyCleared late) s = .next lost) ∧
          ((s.cutterMode late).cutting = true → exec (.cutterReadyCleared late) s = .next (report2 .cutterLost
            ⟨s.pos.y, s.pos.lastLine, none, none, none, none, none⟩ lost))))


/-! ### Chapter 9: the Report Unit -/

/-- R176 to R178: CLOSE SHIFT outside HALTED. BAD FIELD, then STAGE BUSY; NOW, and AT CUT in IDLE and INSPECT, close at once: the open shift
becomes the newest report, at the end of the store, with Y and the host time at its close; of 4 reports held the first with the lowest
sequence number leaves (after a wrap too: the model's reading, log 23); and the next shift opens with every count 0. AT CUT in PRODUCE and
DRAINING is DELAY LIST FULL or delayed. A close found pending outside PRODUCE and DRAINING is made by PENDING CLOSE (the model's reading,
log 8), and answered unless RESET has been taken (R198). -/
def Obligations.CloseShiftByMode : Prop :=
  ∀ (s : State) (kept : List Shift),
    (s.report.store.length < 4 ∧ kept = s.report.store) ∨
      (4 ≤ s.report.store.length ∧ ∃ pre low post, s.report.store = pre ++ low :: post ∧ kept = pre ++ post ∧
        (∀ h ∈ pre, low.seq < h.seq) ∧ ∀ h ∈ post, low.seq ≤ h.seq) →
    let closed (label : List Byte) (time : Nat) : State :=
      { s with
        report := { s.report with
          store := kept ++
            [{ s.report.shift with closeTime := some time, closeY := some s.pos.y }],
          shift := Shift.opened (if 4294967295 ≤ s.report.shift.seq then 1 else s.report.shift.seq + 1) label time s.pos.y },
        port := { s.port with events := s.port.events ||| Event.shiftClosed.single } }
    (∀ tag f, Listens s tag → s.port.mode ≠ .halted →
      let refused (r : Result) : Prop := exec (.closeShift tag (.fields f)) s = .next (s.answered .closeShift tag r .empty)
      (1 < f.mode ∨ 16 < f.label.length → refused .badField) ∧
      (f.mode ≤ 1 → f.label.length ≤ 16 →
        (s.report.pendingClose ≠ none → refused .stageBusy) ∧
        (s.report.pendingClose = none → f.mode = 0 ∨ s.port.mode.cutting = false →
          exec (.closeShift tag (.fields f)) s =
            .next ((closed f.label f.hostTime).answered .closeShift tag .ok (.shiftSeq s.report.shift.seq))) ∧
        (s.report.pendingClose = none → f.mode = 1 → s.port.mode.cutting = true →
          (4 ≤ s.port.delayed.length → refused .delayListFull) ∧
          (s.port.delayed.length < 4 → exec (.closeShift tag (.fields f)) s =
            .next { s with report := { s.report with pendingClose := some ⟨f.label, f.hostTime, tag⟩ },
                           port := { s.port with delayed := s.port.delayed ++ [⟨.closeShift, tag⟩] } })))) ∧
    (s.ctl.held = false →
      (s.report.pendingClose = none ∨ s.port.mode.cutting = true → exec .pendingClose s = .next s) ∧
      ∀ p tag, s.report.pendingClose = some p → s.port.mode.cutting = false →
        s.port.delayed.find? (fun d => d.kind == .closeShift) = some ⟨.closeShift, tag⟩ →
        exec .pendingClose s = .next { closed p.label p.hostTime with
          report := { (closed p.label p.hostTime).report with pendingClose := none },
          port := { (closed p.label p.hostTime).port with
            delayed := if s.ctl.resetting then s.port.delayed else s.port.delayed.filter fun d => d.kind != .closeShift },
          out := { s.out with
            replies := s.out.replies ++ if s.ctl.resetting then [] else [⟨32896, tag, .ok, .shiftSeq s.report.shift.seq⟩] } })


/-! ### Chapter 10: the Fault Unit -/

/-- R184 with R183 and R175: a class 1 report of any kind, by the slot. EMPTY: captured with the next fault number and FAULT CAPTURED. HELD or
HALT HELD: the record is kept and its suppressed count rises to at most 255, with no event. Each is counted in the open shift, and nothing
else changes. -/
def Obligations.Class1ReportByTheSlot : Prop :=
  ∀ (k : FaultKind) (items : ReportItems) (s : State),
    let counted : ReportUnit :=
      { s.report with shift := { s.report.shift with class1 := min 4294967295 (s.report.shift.class1 + 1) } }
    (s.fault.slot = .empty → report1 k items s =
      { s with
        report := counted,
        fault := { s.fault with slot := .held ⟨s.fault.nextNumber, k, items, s.port.mode, 0, none, none⟩,
                                nextNumber := if 65535 ≤ s.fault.nextNumber then 1 else s.fault.nextNumber + 1 },
        port := { s.port with events := s.port.events ||| Event.faultCaptured.single } }) ∧
    (∀ r, s.fault.slot = .held r → report1 k items s =
      { s with report := counted,
               fault := { s.fault with slot := .held { r with suppressed := min 255 (r.suppressed + 1) } } }) ∧
    (∀ r, s.fault.slot = .haltHeld r → report1 k items s =
      { s with report := counted,
               fault := { s.fault with slot := .haltHeld { r with suppressed := min 255 (r.suppressed + 1) } } })

/-- HALT LINE in INSPECT, PRODUCE and DRAINING captures OPERATOR HALT with Y and the last triggered line, displacing a HELD record, halts the line
and replies with the record's number; in IDLE and HALTED it is refused with WRONG MODE (R190, R185). On the halt the table is emptied, the
head cut is none, planning is OFF, one CUTTER HALT is sent, and lanes, Tracker, grade tables and journal stay (R128, R163, R188). A CLOSE
SHIFT pending at the halt is answered before HALT LINE is: that order is the model's choice (log 25). -/
def Obligations.HaltLineHaltsTheLine : Prop :=
  ∀ (s : State) (tag : Nat), Listens s tag →
    (s.port.mode = .idle ∨ s.port.mode = .halted →
      exec (.haltLine tag (.fields ())) s = .next (s.answered .haltLine tag .wrongMode .empty)) ∧
    (s.port.mode.scanning = true → ∀ displaced : Option Nat,
      (s.fault.slot = .empty ∧ displaced = none ∨ ∃ r, s.fault.slot = .held r ∧ displaced = some r.number) →
      ∃ t, exec (.haltLine tag (.fields ())) s = .next (t.answered .haltLine tag .ok (.faultNumber s.fault.nextNumber)) ∧
        t = report2 .operatorHalt ⟨s.pos.y, s.pos.lastLine, none, none, none, none, none⟩ s ∧
        t.port.mode = .halted ∧
        t.fault.slot = .haltHeld ⟨s.fault.nextNumber, .operatorHalt, ⟨s.pos.y, s.pos.lastLine, none, none, none, none, none⟩,
          s.port.mode, 0, displaced, none⟩ ∧
        t.fault.nextNumber = (if 65535 ≤ s.fault.nextNumber then 1 else s.fault.nextNumber + 1) ∧
        t.latched .faultCaptured = true ∧ t.latched .modeChanged = true ∧
        t.out.cutter = s.out.cutter ++ [.cutterHalt] ∧ t.out.triggers = s.out.triggers ∧
        t.cutter = { s.cutter with sentHalt := min 4294967295 (s.cutter.sentHalt + 1) } ∧
        t.planner = { s.planner with table := [], head := none, planning := .off } ∧
        t.pos = { s.pos with overspeed := false } ∧ t.lanes = s.lanes ∧ t.tracker = s.tracker ∧ t.grader = s.grader ∧
        t.report.pendingClose = none ∧ t.report.journal = s.report.journal ∧ t.ctl = s.ctl ∧ t.port.mask = s.port.mask)

/-- R128, R174, R96, R177: every class 2 report that halts the line voids the whole plate table. With no close pending, the open shift counts
each record among the voided, and each order's planned good falls by its counted records; the finished-order list and delivered good stay.
R186, R187: a class 2 report taken while the slot is HALT HELD writes its kind as the second kind, takes no number, and resets the line: the
mode is IDLE and the record is HELD; a held capability is then evaluated as one that arrives in IDLE (R159). Taken in IDLE it is captured
into an EMPTY slot, or counted as suppressed in a HELD record, and the mode stays IDLE. A block that took its event before the change to
HALTED forms such a report in HALTED (`late`: the model's operand, log 7). -/
def Obligations.Class2ReportByTheSlot : Prop :=
  (∀ (k : FaultKind) (items : ReportItems) (s : State), s.port.mode.scanning = true → (∀ r, s.fault.slot ≠ .haltHeld r) →
      (report2 k items s).planner.table = [] ∧ (report2 k items s).port.mode = .halted ∧
      (report2 k items s).orders = { s.orders with queue := s.orders.queue.map fun o =>
        { o with planned := o.planned - (s.planner.table.filter fun r => r.counted && r.order == some o.id).length } } ∧
      (s.report.pendingClose = none → s.report.shift.voidCount ≤ 4294967295 →
        (report2 k items s).report.shift.voidCount = min 4294967295 (s.report.shift.voidCount + s.planner.table.length) ∧
        (report2 k items s).report.store = s.report.store) ∧
      (∀ p, s.report.pendingClose = some p →
        (report2 k items s).report.shift.voidCount = 0 ∧ (report2 k items s).report.shift.label = p.label ∧
        (report2 k items s).report.pendingClose = none)) ∧
  (∀ (k : FaultKind) (items : ReportItems) (s : State),
      (∀ r, s.fault.slot = .haltHeld r →
        (report2 k items s).port.mode = .idle ∧ (report2 k items s).fault.slot = .held { r with second := some k } ∧
        (report2 k items s).fault.nextNumber = s.fault.nextNumber ∧ (report2 k items s).latched .faultCaptured = true ∧
        (report2 k items s).tracker.frontier = 0 ∧ (report2 k items s).map.entries = [] ∧ (report2 k items s).map.blind = [] ∧
        (report2 k items s).cutter.held = none ∧
        ∀ c, s.ctl.held = false → s.cutter.held = some c → exec (.capability c false)
          (report2 k items { s with cutter := { s.cutter with held := none } }) = .next (report2 k items s)) ∧
      (s.port.mode = .idle → s.fault.slot = .empty → report2 k items s =
        { s with
          fault := { s.fault with slot := .held ⟨s.fault.nextNumber, k, items, .idle, 0, none, none⟩,
                                  nextNumber := if 65535 ≤ s.fault.nextNumber then 1 else s.fault.nextNumber + 1 },
          port := { s.port with events := s.port.events ||| Event.faultCaptured.single } }) ∧
      (s.port.mode = .idle → ∀ r, s.fault.slot = .held r → report2 k items s =
        { s with fault := { s.fault with slot := .held { r with suppressed := min 255 (r.suppressed + 1) } } }) ∧
      (∀ b, s.ctl.held = false → s.fault.before = some b → b.mode.scanning = true → s.pos.breakLevel = false →
        s.pos.geometry.breakAction = .halt →
        exec (.breakAsserted true) s = .next (report2 .ribbonBreak ⟨s.pos.y, s.pos.lastLine, none, none, none, none, none⟩
          { s with pos := { s.pos with breakLevel := true } })))

/-- R192, R193, R208: CLEAR FAULT. FAULT MISMATCH for an EMPTY slot and for any other number. A matching number empties a HELD slot without a
change of mode. From HALT HELD it resets the line first: the mode becomes IDLE, a pending STOP PRODUCTION and APPLY DETECTION are answered
CANCELLED before the OK, in the order in which they arrived (the model's reading, log 25), and leave the list, and the slot becomes EMPTY. -/
def Obligations.ClearFaultByTheSlot : Prop :=
  ∀ (s : State) (tag n : Nat), Listens s tag →
    (s.fault.slot = .empty ∨ (∃ r, (s.fault.slot = .held r ∨ s.fault.slot = .haltHeld r) ∧ r.number ≠ n) →
      exec (.clearFault tag (.fields n)) s = .next (s.answered .clearFault tag .faultMismatch .empty)) ∧
    (∀ r, s.fault.slot = .held r → r.number = n →
      exec (.clearFault tag (.fields n)) s =
        .next ({ s with fault := { s.fault with slot := .empty } }.answered .clearFault tag .ok .empty)) ∧
    (∀ r, s.fault.slot = .haltHeld r → r.number = n →
      ∃ t, exec (.clearFault tag (.fields n)) s = .next t ∧
        t.port.mode = .idle ∧ t.fault.slot = .empty ∧ t.fault.nextNumber = s.fault.nextNumber ∧ t.latched .modeChanged = true ∧
        t.port.delayed = s.port.delayed.filter (fun d => d.kind ≠ .stopProduction ∧ d.kind ≠ .applyDetection) ∧
        t.out.replies = s.out.replies ++
          ((s.port.delayed.filter fun d => d.kind = .stopProduction ∨ d.kind = .applyDetection).map fun d =>
            ⟨d.kind.code + 32768, d.tag, .cancelled, .empty⟩) ++ [⟨32914, tag, .ok, .empty⟩])

/-- R193, R194, R159, R169, Table 10-5: what the line reset clears and what it keeps, block by block, at a matching CLEAR FAULT from HALT HELD
with no capability held. One held in HALTED is evaluated as the mode becomes IDLE, with the agreement NONE, as a CAPABILITY that arrives
there, and is held no longer; an agreement that it forms is in force after the line reset. -/
def Obligations.LineResetClearsTable10_5 : Prop :=
  (∀ (s : State) (tag : Nat) (r : FaultRecord), Listens s tag → s.fault.slot = .haltHeld r → s.cutter.held = none →
    ∃ t, exec (.clearFault tag (.fields r.number)) s = .next t ∧
      t.pos = { s.pos with breakMarking := false, overspeed := false } ∧
      (∀ i : LaneId, t.lanes[i.val] =
        { s.lanes[i.val] with state := .off, owned := none, rings := ⟨[], [], []⟩, limitRuns := Vector.replicate 5 0, expected := 0,
                              lastProcessed := none, acceptance := 0, persistence := [], interval := none }) ∧
      (∀ i : LaneId, t.tracker.tables[i.val] = ⟨[], []⟩) ∧ t.tracker.frontier = 0 ∧ t.tracker.outgoing = none ∧
      t.tracker.apply = .none ∧ t.tracker.nextId = s.tracker.nextId ∧ t.tracker.active = s.tracker.active ∧
      t.tracker.staged = s.tracker.staged ∧
      (t.tracker.stagedFlag = true ↔ s.tracker.stagedFlag = true ∨ ∃ d l, s.tracker.apply = .waiting d l) ∧
      t.map = ⟨[], false, 0, [], s.map.nextId, none, none, none, none, false, false⟩ ∧
      t.orders = { s.orders with
        queue := ((s.orders.queue.filter fun o => o.state ≠ .queued).map fun o => { o with state := .queued }) ++
          s.orders.queue.filter fun o => o.state = .queued,
        exhausted := false } ∧
      t.planner = { s.planner with yPrev := 0, lastCut := none } ∧
      t.cutter = { s.cutter with agreement := none } ∧
      (t.latched .agreementChanged = true ↔ s.latched .agreementChanged = true ∨ s.cutter.agreement ≠ none) ∧
      t.grader = s.grader ∧ t.report = s.report ∧ t.ctl = s.ctl ∧ t.port.mask = s.port.mask ∧ t.out.cutter = s.out.cutter ∧
      (∀ e, s.latched e = true → t.latched e = true)) ∧
  ∀ (s : State) (tag : Nat) (r : FaultRecord) (c : Capability), Listens s tag → s.fault.slot = .haltHeld r → s.cutter.held = some c →
    ∃ u t : State, exec (.clearFault tag (.fields r.number)) { s with cutter := { s.cutter with held := none } } = .next u ∧
      u.port.mode = .idle ∧ u.cutter.agreement = none ∧ exec (.capability c false) u = .next t ∧
      exec (.clearFault tag (.fields r.number)) s = .next t ∧ t.port.mode = .idle ∧ t.cutter.held = none ∧
      (s.cutter.ready = false → t.cutter.agreement = none ∧ t.cutter.lastDecline = some .notReady) ∧
      ∀ a, t.cutter.agreement = some a → a.cap = c


/-! ### What every step keeps -/

/-- The twelfth law (R185, R193, R203) after every step: the mode is HALTED exactly while the fault slot is HALT HELD. -/
def Obligations.EveryStepKeepsTheHaltLaw : Prop :=
  ∀ s t : State, HaltLaw s → step s = .next t → HaltLaw t

/-- Every step keeps every collection within its capacity (Table 0-3: R29, R37, R39, R50, R52, R60, R75, R80, R88, R98, R115, R178, R180, R199),
the masked columns and the view sequences among them, the order ids distinct (the eleventh law), the map in map order and the blind list in
list order (R70, R79). -/
def Obligations.EveryStepKeepsCapacitiesAndOrders : Prop :=
  ∀ s t : State, Capacities s → OrderLaw s → ListOrders s → (∀ i : LaneId, LaneCapacities s.lanes[i.val] s.tracker.tables[i.val]) →
    step s = .next t →
      Capacities t ∧ OrderLaw t ∧ ListOrders t ∧ ∀ i : LaneId, LaneCapacities t.lanes[i.val] t.tracker.tables[i.val]

/-- The ranges of Table 1-1 hold after every step. The first law (R6) and R58: no command but START INSPECT and a full reset decreases Y, none
moves it by more than 1, and while the mode is not IDLE none decreases K. -/
def Obligations.PositionRangesAndFirstLaw : Prop :=
  (∀ s t : State, RibbonRanges s.pos → step s = .next t → RibbonRanges t.pos) ∧
  ∀ (c : Instr) (s t : State), performsFullReset c = false → (∀ tag set, c ≠ .startInspect tag set) → exec c s = .next t →
    s.pos.y ≤ t.pos.y ∧ t.pos.y ≤ s.pos.y + 1 ∧ (t.port.mode ≠ .idle → s.tracker.frontier ≤ t.tracker.frontier)

/-- The eighth law (R123, R149): after its commit a record keeps its id, its kind, its order, its span, its table version and its reject
destination, and its grades and destinations change only all together, to X and the reject destination. Only the two plans add records,
after those that stand. -/
def Obligations.GradesChangeOnlyToX : Prop :=
  ∀ (c : Instr) (s t : State), exec c s = .next t →
    (c = .normalPlan ∨ c = .forcedPlan → ∃ new, t.planner.table = s.planner.table ++ new) ∧
    (c ≠ .normalPlan → c ≠ .forcedPlan → ∀ r ∈ t.planner.table, ∃ q ∈ s.planner.table,
      r.id = q.id ∧ r.kind = q.kind ∧ r.order = q.order ∧ r.yStart = q.yStart ∧ r.yEnd = q.yEnd ∧ r.version = q.version ∧
        r.rejectDest = q.rejectDest ∧ r.forced = q.forced ∧ r.cut.id = q.cut.id ∧ r.cut.pos = q.cut.pos ∧
        ((r.grade = q.grade ∧ r.pieces = q.pieces) ∨
          (r.grade = .x ∧ r.pieces = q.pieces.map fun p => { p with grade := .x, dest := q.rejectDest })))

/-- The state after a full reset, as Machine/State.lean gives it, meets every law that a step keeps. -/
def Obligations.ResetMeetsTheLaws : Prop :=
  HaltLaw State.reset ∧ Capacities State.reset ∧ OrderLaw State.reset ∧ ListOrders State.reset ∧
    (∀ i : LaneId, LaneCapacities State.reset.lanes[i.val] State.reset.tracker.tables[i.val]) ∧ RibbonRanges State.reset.pos
end

