-- ==== Sys2Proof/Laws/Lists.lean ====
section
/-!
SUPPORT. What the list operations of Machine/Ops.lean and the operand checks of Machine/Operands.lean do, said once: ordered insertion keeps the
canonical order, a bounded list stays bounded, a change of some elements changes no other, and each check holds exactly on its range.
-/

namespace Sys2Proof.Machine

/-! ### insertByKey: the canonical order of the map, the blind list, the store and the marks -/

section
variable {α : Type} (key : α → Nat) (x : α)

@[simp] theorem insertByKey_length (xs : List α) : (insertByKey key x xs).length = xs.length + 1 := by
  induction xs with
  | nil => rfl
  | cons y ys ih => simp only [insertByKey]; split <;> simp [ih]

theorem insertByKey_perm (xs : List α) : (insertByKey key x xs).Perm (x :: xs) := by
  induction xs with
  | nil => exact .refl _
  | cons y ys ih =>
    simp only [insertByKey]
    split
    · exact (ih.cons y).trans (.swap x y ys)
    · exact .refl _

@[simp] theorem mem_insertByKey (y : α) (xs : List α) : y ∈ insertByKey key x xs ↔ y = x ∨ y ∈ xs := by
  rw [(insertByKey_perm key x xs).mem_iff, List.mem_cons]

/-- Insertion keeps ascending order of key. -/
theorem insertByKey_sorted (xs : List α) (h : xs.Pairwise fun a b => key a ≤ key b) :
    (insertByKey key x xs).Pairwise fun a b => key a ≤ key b := by
  induction xs with
  | nil => simp [insertByKey]
  | cons y ys ih =>
    rw [List.pairwise_cons] at h
    simp only [insertByKey]
    split
    · rename_i hy
      refine List.pairwise_cons.2 ⟨fun z hz => ?_, ih h.2⟩
      rcases (mem_insertByKey key x z ys).1 hz with rfl | hz
      · exact hy
      · exact h.1 z hz
    · rename_i hy
      refine List.pairwise_cons.2 ⟨fun z hz => ?_, List.pairwise_cons.2 h⟩
      rcases List.mem_cons.1 hz with rfl | hz
      · omega
      · have := h.1 z hz; omega

/-- In a sorted list the new element stands after every element with its key or a lower one. -/
theorem insertByKey_split (xs : List α) (h : xs.Pairwise fun a b => key a ≤ key b) :
    ∃ pre post, xs = pre ++ post ∧ insertByKey key x xs = pre ++ x :: post ∧ (∀ a ∈ pre, key a ≤ key x) ∧
      ∀ a ∈ post, key x < key a := by
  induction xs with
  | nil => exact ⟨[], [], rfl, rfl, by simp, by simp⟩
  | cons y ys ih =>
    rw [List.pairwise_cons] at h
    by_cases hy : key y ≤ key x
    · obtain ⟨pre, post, h1, h2, h3, h4⟩ := ih h.2
      refine ⟨y :: pre, post, by simp [h1], by simp [insertByKey, hy, h2], ?_, h4⟩
      simpa [hy] using h3
    · refine ⟨[], y :: ys, rfl, by simp [insertByKey, hy], by simp, ?_⟩
      intro a ha
      rcases List.mem_cons.1 ha with rfl | ha
      · omega
      · have := h.1 a ha; omega

end

/-! ### sortByKey -/

theorem sortByKey_fold {α : Type} (key : α → Nat) (xs acc : List α) (h : acc.Pairwise fun a b => key a ≤ key b) :
    (xs.foldl (fun acc x => insertByKey key x acc) acc).Perm (xs ++ acc) ∧
      (xs.foldl (fun acc x => insertByKey key x acc) acc).Pairwise fun a b => key a ≤ key b := by
  induction xs generalizing acc with
  | nil => exact ⟨.refl _, h⟩
  | cons x xs ih =>
    obtain ⟨h1, h2⟩ := ih (insertByKey key x acc) (insertByKey_sorted key x acc h)
    refine ⟨h1.trans ?_, h2⟩
    exact ((insertByKey_perm key x acc).append_left xs).trans List.perm_middle

theorem sortByKey_perm {α : Type} (key : α → Nat) (xs : List α) : (sortByKey key xs).Perm xs := by
  simpa [sortByKey] using (sortByKey_fold key xs [] .nil).1

theorem sortByKey_sorted {α : Type} (key : α → Nat) (xs : List α) :
    (sortByKey key xs).Pairwise fun a b => key a ≤ key b := (sortByKey_fold key xs [] .nil).2

/-! ### pushBounded, updateWhere, distinct, least -/

/-- A bounded list never grows past its capacity. -/
theorem pushBounded_length {α : Type} (cap : Nat) (xs : List α) (x : α) (h : xs.length ≤ cap) (hc : 0 < cap) :
    (pushBounded cap xs x).length ≤ cap := by
  simp only [pushBounded]
  split <;> simp <;> omega

theorem updateWhere_eq_map {α : Type} (p : α → Bool) (g : α → α) (xs : List α) :
    updateWhere p g xs = xs.map fun x => if p x then g x else x := rfl

@[simp] theorem updateWhere_length {α : Type} (p : α → Bool) (g : α → α) (xs : List α) :
    (updateWhere p g xs).length = xs.length := by simp [updateWhere]

/-- A change that leaves a projection alone leaves the list of projections alone. -/
theorem updateWhere_proj {α β : Type} (p : α → Bool) (g : α → α) (f : α → β) (h : ∀ x, f (g x) = f x) (xs : List α) :
    (updateWhere p g xs).map f = xs.map f := by
  simp only [updateWhere, List.map_map]
  apply List.map_congr_left
  intro x _
  simp only [Function.comp]
  split <;> simp [h]

/-- A change that leaves the key alone keeps the order. -/
theorem updateWhere_sorted {α : Type} (p : α → Bool) (g : α → α) (key : α → Nat) (h : ∀ x, key (g x) = key x) (xs : List α)
    (hs : xs.Pairwise fun a b => key a ≤ key b) : (updateWhere p g xs).Pairwise fun a b => key a ≤ key b := by
  have := updateWhere_proj p g key h xs
  have hs' : (xs.map key).Pairwise fun a b => a ≤ b := List.pairwise_map.2 hs
  rw [← this] at hs'
  exact List.pairwise_map.1 hs'

@[simp] theorem mem_distinct (x : Nat) (xs : List Nat) : x ∈ distinct xs ↔ x ∈ xs := by
  induction xs with
  | nil => simp [distinct]
  | cons y ys ih =>
    simp only [distinct, List.mem_cons, List.mem_filter, ih, decide_eq_true_eq]
    by_cases h : x = y <;> simp [h]

theorem distinct_nodup (xs : List Nat) : (distinct xs).Nodup := by
  induction xs with
  | nil => simp [distinct]
  | cons y ys ih => simp only [distinct, List.nodup_cons]; exact ⟨by simp, ih.filter _⟩

theorem distinct_eq_self (xs : List Nat) : distinct xs = xs ↔ xs.Nodup := by
  constructor
  · intro h; rw [← h]; exact distinct_nodup xs
  · intro h
    induction xs with
    | nil => rfl
    | cons y ys ih =>
      rw [List.nodup_cons] at h
      simp only [distinct, ih h.2, List.cons.injEq, true_and]
      rw [List.filter_eq_self]
      intro a ha
      simp only [decide_eq_true_eq]
      rintro rfl
      exact h.1 ha

theorem leastFrom_spec (a : Nat) (xs : List Nat) :
    (leastFrom a xs = a ∨ leastFrom a xs ∈ xs) ∧ leastFrom a xs ≤ a ∧ ∀ x ∈ xs, leastFrom a xs ≤ x := by
  induction xs generalizing a with
  | nil => simp [leastFrom]
  | cons y ys ih =>
    obtain ⟨h1, h2, h3⟩ := ih (min a y)
    have e : leastFrom a (y :: ys) = leastFrom (min a y) ys := rfl
    rw [e]
    refine ⟨?_, by omega, ?_⟩
    · rcases h1 with h1 | h1
      · rcases Nat.le_total a y with h | h
        · left; omega
        · right; rw [h1]; simp [Nat.min_eq_right h]
      · right; simp [h1]
    · intro x hx
      rcases List.mem_cons.1 hx with rfl | hx
      · omega
      · exact h3 x hx

/-- The least element is an element below no other. -/
theorem least_eq_some (xs : List Nat) (v : Nat) : least xs = some v ↔ v ∈ xs ∧ ∀ x ∈ xs, v ≤ x := by
  cases xs with
  | nil => simp [least]
  | cons a xs =>
    obtain ⟨h1, h2, h3⟩ := leastFrom_spec a xs
    simp only [least, Option.some.injEq]
    constructor
    · rintro rfl
      refine ⟨by simpa using h1, ?_⟩
      intro x hx
      rcases List.mem_cons.1 hx with rfl | hx
      · exact h2
      · exact h3 x hx
    · rintro ⟨hv, hm⟩
      have ha := hm (leastFrom a xs) (by simpa using h1)
      have hb : leastFrom a xs ≤ v := by
        rcases List.mem_cons.1 hv with rfl | hv
        · exact h2
        · exact h3 v hv
      omega

theorem least_eq_none (xs : List Nat) : least xs = none ↔ xs = [] := by cases xs <;> simp [least]

/-! ### The operand checks -/

theorem within_iff (lo hi v : Nat) : within lo hi v = true ↔ lo ≤ v ∧ v ≤ hi := by simp [within]

theorem laneOf_some (i : LaneId) : laneOf i.val = some i := by simp [laneOf]

theorem laneOf_none (n : Nat) (h : 8 ≤ n) : laneOf n = none := by simp [laneOf, Nat.not_lt.2 h]

theorem ascendingBetween_iff (lo hi : Nat) (xs : List Nat) : ascendingBetween lo hi xs = true ↔
    xs.Pairwise (fun a b => a < b) ∧ ∀ x ∈ xs, lo < x ∧ x < hi := by
  induction xs generalizing lo with
  | nil => simp [ascendingBetween]
  | cons x xs ih =>
    simp only [ascendingBetween, Bool.and_eq_true, decide_eq_true_eq, ih, List.pairwise_cons, List.mem_cons,
      forall_eq_or_imp]
    constructor
    · rintro ⟨⟨h1, h2⟩, h3, h4⟩
      exact ⟨⟨fun a ha => (h4 a ha).1, h3⟩, ⟨h1, h2⟩, fun a ha => ⟨by have := (h4 a ha).1; omega, (h4 a ha).2⟩⟩
    · rintro ⟨⟨h1, h3⟩, ⟨h2, h5⟩, h4⟩
      exact ⟨⟨h2, h5⟩, h3, fun a ha => ⟨h1 a ha, (h4 a ha).2⟩⟩

theorem capabilityInRange_iff (c : Capability) : capabilityInRange c = true ↔
    (500 ≤ c.spacing ∧ c.spacing ≤ 20000) ∧ (20 ≤ c.lead ∧ c.lead ≤ 5000) ∧ (50 ≤ c.speed ∧ c.speed ≤ 1000) ∧
      (1 ≤ c.across ∧ c.across ≤ 4) ∧ (1 ≤ c.destinations ∧ c.destinations ≤ 16) := by
  simp only [capabilityInRange, Bool.and_eq_true, within_iff]
  tauto

theorem destBeyond_iff (t : GradeTable) (count : Nat) : t.destBeyond count = true ↔ ∃ g, count ≤ t.dest.get g := by
  simp only [GradeTable.destBeyond, Bool.or_eq_true, decide_eq_true_eq]
  constructor
  · rintro ((((h | h) | h) | h) | h)
    exacts [⟨.a, h⟩, ⟨.b, h⟩, ⟨.c, h⟩, ⟨.u, h⟩, ⟨.x, h⟩]
  · rintro ⟨g, h⟩
    cases g <;> simp_all [PerGrade.get]

theorem rowsDistinct_iff (rows : List GradeRow) :
    rowsDistinct rows = true ↔ rows.Pairwise fun p q => rowIdentity p ≠ rowIdentity q := by
  induction rows with
  | nil => simp [rowsDistinct]
  | cons r rs ih =>
    simp only [rowsDistinct, Bool.and_eq_true, List.all_eq_true, bne_iff_ne, ih, List.pairwise_cons]
    constructor <;> rintro ⟨h1, h2⟩ <;> exact ⟨fun q hq => (h1 q hq).symm, h2⟩

end Sys2Proof.Machine
end

