-- ==== Sys2Proof/Laws/State.lean ====
section
/-!
SUPPORT. The small lemmas of the state's updates: for each update and each field of State, what the field holds after the update. All are true by
rfl, and no proof needs to unfold an update.
-/

namespace Sys2Proof.Machine

/-! ### State.modPos -/

section
variable (g : Position → Position) (s : State)

@[simp] theorem State.modPos_pos : (s.modPos g).pos = g s.pos := rfl
@[simp] theorem State.modPos_lanes : (s.modPos g).lanes = s.lanes := rfl
@[simp] theorem State.modPos_tracker : (s.modPos g).tracker = s.tracker := rfl
@[simp] theorem State.modPos_map : (s.modPos g).map = s.map := rfl
@[simp] theorem State.modPos_orders : (s.modPos g).orders = s.orders := rfl
@[simp] theorem State.modPos_planner : (s.modPos g).planner = s.planner := rfl
@[simp] theorem State.modPos_grader : (s.modPos g).grader = s.grader := rfl
@[simp] theorem State.modPos_cutter : (s.modPos g).cutter = s.cutter := rfl
@[simp] theorem State.modPos_report : (s.modPos g).report = s.report := rfl
@[simp] theorem State.modPos_fault : (s.modPos g).fault = s.fault := rfl
@[simp] theorem State.modPos_port : (s.modPos g).port = s.port := rfl
@[simp] theorem State.modPos_ctl : (s.modPos g).ctl = s.ctl := rfl
@[simp] theorem State.modPos_out : (s.modPos g).out = s.out := rfl
@[simp] theorem State.modPos_pending : (s.modPos g).pending = s.pending := rfl

end

/-! ### State.modLanes -/

section
variable (g : Vector Lane 8 → Vector Lane 8) (s : State)

@[simp] theorem State.modLanes_pos : (s.modLanes g).pos = s.pos := rfl
@[simp] theorem State.modLanes_lanes : (s.modLanes g).lanes = g s.lanes := rfl
@[simp] theorem State.modLanes_tracker : (s.modLanes g).tracker = s.tracker := rfl
@[simp] theorem State.modLanes_map : (s.modLanes g).map = s.map := rfl
@[simp] theorem State.modLanes_orders : (s.modLanes g).orders = s.orders := rfl
@[simp] theorem State.modLanes_planner : (s.modLanes g).planner = s.planner := rfl
@[simp] theorem State.modLanes_grader : (s.modLanes g).grader = s.grader := rfl
@[simp] theorem State.modLanes_cutter : (s.modLanes g).cutter = s.cutter := rfl
@[simp] theorem State.modLanes_report : (s.modLanes g).report = s.report := rfl
@[simp] theorem State.modLanes_fault : (s.modLanes g).fault = s.fault := rfl
@[simp] theorem State.modLanes_port : (s.modLanes g).port = s.port := rfl
@[simp] theorem State.modLanes_ctl : (s.modLanes g).ctl = s.ctl := rfl
@[simp] theorem State.modLanes_out : (s.modLanes g).out = s.out := rfl
@[simp] theorem State.modLanes_pending : (s.modLanes g).pending = s.pending := rfl

end

/-! ### State.modTracker -/

section
variable (g : Tracker → Tracker) (s : State)

@[simp] theorem State.modTracker_pos : (s.modTracker g).pos = s.pos := rfl
@[simp] theorem State.modTracker_lanes : (s.modTracker g).lanes = s.lanes := rfl
@[simp] theorem State.modTracker_tracker : (s.modTracker g).tracker = g s.tracker := rfl
@[simp] theorem State.modTracker_map : (s.modTracker g).map = s.map := rfl
@[simp] theorem State.modTracker_orders : (s.modTracker g).orders = s.orders := rfl
@[simp] theorem State.modTracker_planner : (s.modTracker g).planner = s.planner := rfl
@[simp] theorem State.modTracker_grader : (s.modTracker g).grader = s.grader := rfl
@[simp] theorem State.modTracker_cutter : (s.modTracker g).cutter = s.cutter := rfl
@[simp] theorem State.modTracker_report : (s.modTracker g).report = s.report := rfl
@[simp] theorem State.modTracker_fault : (s.modTracker g).fault = s.fault := rfl
@[simp] theorem State.modTracker_port : (s.modTracker g).port = s.port := rfl
@[simp] theorem State.modTracker_ctl : (s.modTracker g).ctl = s.ctl := rfl
@[simp] theorem State.modTracker_out : (s.modTracker g).out = s.out := rfl
@[simp] theorem State.modTracker_pending : (s.modTracker g).pending = s.pending := rfl

end

/-! ### State.modMap -/

section
variable (g : MapUnit → MapUnit) (s : State)

@[simp] theorem State.modMap_pos : (s.modMap g).pos = s.pos := rfl
@[simp] theorem State.modMap_lanes : (s.modMap g).lanes = s.lanes := rfl
@[simp] theorem State.modMap_tracker : (s.modMap g).tracker = s.tracker := rfl
@[simp] theorem State.modMap_map : (s.modMap g).map = g s.map := rfl
@[simp] theorem State.modMap_orders : (s.modMap g).orders = s.orders := rfl
@[simp] theorem State.modMap_planner : (s.modMap g).planner = s.planner := rfl
@[simp] theorem State.modMap_grader : (s.modMap g).grader = s.grader := rfl
@[simp] theorem State.modMap_cutter : (s.modMap g).cutter = s.cutter := rfl
@[simp] theorem State.modMap_report : (s.modMap g).report = s.report := rfl
@[simp] theorem State.modMap_fault : (s.modMap g).fault = s.fault := rfl
@[simp] theorem State.modMap_port : (s.modMap g).port = s.port := rfl
@[simp] theorem State.modMap_ctl : (s.modMap g).ctl = s.ctl := rfl
@[simp] theorem State.modMap_out : (s.modMap g).out = s.out := rfl
@[simp] theorem State.modMap_pending : (s.modMap g).pending = s.pending := rfl

end

/-! ### State.modOrders -/

section
variable (g : OrderUnit → OrderUnit) (s : State)

@[simp] theorem State.modOrders_pos : (s.modOrders g).pos = s.pos := rfl
@[simp] theorem State.modOrders_lanes : (s.modOrders g).lanes = s.lanes := rfl
@[simp] theorem State.modOrders_tracker : (s.modOrders g).tracker = s.tracker := rfl
@[simp] theorem State.modOrders_map : (s.modOrders g).map = s.map := rfl
@[simp] theorem State.modOrders_orders : (s.modOrders g).orders = g s.orders := rfl
@[simp] theorem State.modOrders_planner : (s.modOrders g).planner = s.planner := rfl
@[simp] theorem State.modOrders_grader : (s.modOrders g).grader = s.grader := rfl
@[simp] theorem State.modOrders_cutter : (s.modOrders g).cutter = s.cutter := rfl
@[simp] theorem State.modOrders_report : (s.modOrders g).report = s.report := rfl
@[simp] theorem State.modOrders_fault : (s.modOrders g).fault = s.fault := rfl
@[simp] theorem State.modOrders_port : (s.modOrders g).port = s.port := rfl
@[simp] theorem State.modOrders_ctl : (s.modOrders g).ctl = s.ctl := rfl
@[simp] theorem State.modOrders_out : (s.modOrders g).out = s.out := rfl
@[simp] theorem State.modOrders_pending : (s.modOrders g).pending = s.pending := rfl

end

/-! ### State.modPlanner -/

section
variable (g : Planner → Planner) (s : State)

@[simp] theorem State.modPlanner_pos : (s.modPlanner g).pos = s.pos := rfl
@[simp] theorem State.modPlanner_lanes : (s.modPlanner g).lanes = s.lanes := rfl
@[simp] theorem State.modPlanner_tracker : (s.modPlanner g).tracker = s.tracker := rfl
@[simp] theorem State.modPlanner_map : (s.modPlanner g).map = s.map := rfl
@[simp] theorem State.modPlanner_orders : (s.modPlanner g).orders = s.orders := rfl
@[simp] theorem State.modPlanner_planner : (s.modPlanner g).planner = g s.planner := rfl
@[simp] theorem State.modPlanner_grader : (s.modPlanner g).grader = s.grader := rfl
@[simp] theorem State.modPlanner_cutter : (s.modPlanner g).cutter = s.cutter := rfl
@[simp] theorem State.modPlanner_report : (s.modPlanner g).report = s.report := rfl
@[simp] theorem State.modPlanner_fault : (s.modPlanner g).fault = s.fault := rfl
@[simp] theorem State.modPlanner_port : (s.modPlanner g).port = s.port := rfl
@[simp] theorem State.modPlanner_ctl : (s.modPlanner g).ctl = s.ctl := rfl
@[simp] theorem State.modPlanner_out : (s.modPlanner g).out = s.out := rfl
@[simp] theorem State.modPlanner_pending : (s.modPlanner g).pending = s.pending := rfl

end

/-! ### State.modGrader -/

section
variable (g : Grader → Grader) (s : State)

@[simp] theorem State.modGrader_pos : (s.modGrader g).pos = s.pos := rfl
@[simp] theorem State.modGrader_lanes : (s.modGrader g).lanes = s.lanes := rfl
@[simp] theorem State.modGrader_tracker : (s.modGrader g).tracker = s.tracker := rfl
@[simp] theorem State.modGrader_map : (s.modGrader g).map = s.map := rfl
@[simp] theorem State.modGrader_orders : (s.modGrader g).orders = s.orders := rfl
@[simp] theorem State.modGrader_planner : (s.modGrader g).planner = s.planner := rfl
@[simp] theorem State.modGrader_grader : (s.modGrader g).grader = g s.grader := rfl
@[simp] theorem State.modGrader_cutter : (s.modGrader g).cutter = s.cutter := rfl
@[simp] theorem State.modGrader_report : (s.modGrader g).report = s.report := rfl
@[simp] theorem State.modGrader_fault : (s.modGrader g).fault = s.fault := rfl
@[simp] theorem State.modGrader_port : (s.modGrader g).port = s.port := rfl
@[simp] theorem State.modGrader_ctl : (s.modGrader g).ctl = s.ctl := rfl
@[simp] theorem State.modGrader_out : (s.modGrader g).out = s.out := rfl
@[simp] theorem State.modGrader_pending : (s.modGrader g).pending = s.pending := rfl

end

/-! ### State.modCutter -/

section
variable (g : CutterLink → CutterLink) (s : State)

@[simp] theorem State.modCutter_pos : (s.modCutter g).pos = s.pos := rfl
@[simp] theorem State.modCutter_lanes : (s.modCutter g).lanes = s.lanes := rfl
@[simp] theorem State.modCutter_tracker : (s.modCutter g).tracker = s.tracker := rfl
@[simp] theorem State.modCutter_map : (s.modCutter g).map = s.map := rfl
@[simp] theorem State.modCutter_orders : (s.modCutter g).orders = s.orders := rfl
@[simp] theorem State.modCutter_planner : (s.modCutter g).planner = s.planner := rfl
@[simp] theorem State.modCutter_grader : (s.modCutter g).grader = s.grader := rfl
@[simp] theorem State.modCutter_cutter : (s.modCutter g).cutter = g s.cutter := rfl
@[simp] theorem State.modCutter_report : (s.modCutter g).report = s.report := rfl
@[simp] theorem State.modCutter_fault : (s.modCutter g).fault = s.fault := rfl
@[simp] theorem State.modCutter_port : (s.modCutter g).port = s.port := rfl
@[simp] theorem State.modCutter_ctl : (s.modCutter g).ctl = s.ctl := rfl
@[simp] theorem State.modCutter_out : (s.modCutter g).out = s.out := rfl
@[simp] theorem State.modCutter_pending : (s.modCutter g).pending = s.pending := rfl

end

/-! ### State.modReport -/

section
variable (g : ReportUnit → ReportUnit) (s : State)

@[simp] theorem State.modReport_pos : (s.modReport g).pos = s.pos := rfl
@[simp] theorem State.modReport_lanes : (s.modReport g).lanes = s.lanes := rfl
@[simp] theorem State.modReport_tracker : (s.modReport g).tracker = s.tracker := rfl
@[simp] theorem State.modReport_map : (s.modReport g).map = s.map := rfl
@[simp] theorem State.modReport_orders : (s.modReport g).orders = s.orders := rfl
@[simp] theorem State.modReport_planner : (s.modReport g).planner = s.planner := rfl
@[simp] theorem State.modReport_grader : (s.modReport g).grader = s.grader := rfl
@[simp] theorem State.modReport_cutter : (s.modReport g).cutter = s.cutter := rfl
@[simp] theorem State.modReport_report : (s.modReport g).report = g s.report := rfl
@[simp] theorem State.modReport_fault : (s.modReport g).fault = s.fault := rfl
@[simp] theorem State.modReport_port : (s.modReport g).port = s.port := rfl
@[simp] theorem State.modReport_ctl : (s.modReport g).ctl = s.ctl := rfl
@[simp] theorem State.modReport_out : (s.modReport g).out = s.out := rfl
@[simp] theorem State.modReport_pending : (s.modReport g).pending = s.pending := rfl

end

/-! ### State.modFault -/

section
variable (g : FaultUnit → FaultUnit) (s : State)

@[simp] theorem State.modFault_pos : (s.modFault g).pos = s.pos := rfl
@[simp] theorem State.modFault_lanes : (s.modFault g).lanes = s.lanes := rfl
@[simp] theorem State.modFault_tracker : (s.modFault g).tracker = s.tracker := rfl
@[simp] theorem State.modFault_map : (s.modFault g).map = s.map := rfl
@[simp] theorem State.modFault_orders : (s.modFault g).orders = s.orders := rfl
@[simp] theorem State.modFault_planner : (s.modFault g).planner = s.planner := rfl
@[simp] theorem State.modFault_grader : (s.modFault g).grader = s.grader := rfl
@[simp] theorem State.modFault_cutter : (s.modFault g).cutter = s.cutter := rfl
@[simp] theorem State.modFault_report : (s.modFault g).report = s.report := rfl
@[simp] theorem State.modFault_fault : (s.modFault g).fault = g s.fault := rfl
@[simp] theorem State.modFault_port : (s.modFault g).port = s.port := rfl
@[simp] theorem State.modFault_ctl : (s.modFault g).ctl = s.ctl := rfl
@[simp] theorem State.modFault_out : (s.modFault g).out = s.out := rfl
@[simp] theorem State.modFault_pending : (s.modFault g).pending = s.pending := rfl

end

/-! ### State.modPort -/

section
variable (g : Port → Port) (s : State)

@[simp] theorem State.modPort_pos : (s.modPort g).pos = s.pos := rfl
@[simp] theorem State.modPort_lanes : (s.modPort g).lanes = s.lanes := rfl
@[simp] theorem State.modPort_tracker : (s.modPort g).tracker = s.tracker := rfl
@[simp] theorem State.modPort_map : (s.modPort g).map = s.map := rfl
@[simp] theorem State.modPort_orders : (s.modPort g).orders = s.orders := rfl
@[simp] theorem State.modPort_planner : (s.modPort g).planner = s.planner := rfl
@[simp] theorem State.modPort_grader : (s.modPort g).grader = s.grader := rfl
@[simp] theorem State.modPort_cutter : (s.modPort g).cutter = s.cutter := rfl
@[simp] theorem State.modPort_report : (s.modPort g).report = s.report := rfl
@[simp] theorem State.modPort_fault : (s.modPort g).fault = s.fault := rfl
@[simp] theorem State.modPort_port : (s.modPort g).port = g s.port := rfl
@[simp] theorem State.modPort_ctl : (s.modPort g).ctl = s.ctl := rfl
@[simp] theorem State.modPort_out : (s.modPort g).out = s.out := rfl
@[simp] theorem State.modPort_pending : (s.modPort g).pending = s.pending := rfl

end

/-! ### State.modCtl -/

section
variable (g : Control → Control) (s : State)

@[simp] theorem State.modCtl_pos : (s.modCtl g).pos = s.pos := rfl
@[simp] theorem State.modCtl_lanes : (s.modCtl g).lanes = s.lanes := rfl
@[simp] theorem State.modCtl_tracker : (s.modCtl g).tracker = s.tracker := rfl
@[simp] theorem State.modCtl_map : (s.modCtl g).map = s.map := rfl
@[simp] theorem State.modCtl_orders : (s.modCtl g).orders = s.orders := rfl
@[simp] theorem State.modCtl_planner : (s.modCtl g).planner = s.planner := rfl
@[simp] theorem State.modCtl_grader : (s.modCtl g).grader = s.grader := rfl
@[simp] theorem State.modCtl_cutter : (s.modCtl g).cutter = s.cutter := rfl
@[simp] theorem State.modCtl_report : (s.modCtl g).report = s.report := rfl
@[simp] theorem State.modCtl_fault : (s.modCtl g).fault = s.fault := rfl
@[simp] theorem State.modCtl_port : (s.modCtl g).port = s.port := rfl
@[simp] theorem State.modCtl_ctl : (s.modCtl g).ctl = g s.ctl := rfl
@[simp] theorem State.modCtl_out : (s.modCtl g).out = s.out := rfl
@[simp] theorem State.modCtl_pending : (s.modCtl g).pending = s.pending := rfl

end

/-! ### State.modOut -/

section
variable (g : Output → Output) (s : State)

@[simp] theorem State.modOut_pos : (s.modOut g).pos = s.pos := rfl
@[simp] theorem State.modOut_lanes : (s.modOut g).lanes = s.lanes := rfl
@[simp] theorem State.modOut_tracker : (s.modOut g).tracker = s.tracker := rfl
@[simp] theorem State.modOut_map : (s.modOut g).map = s.map := rfl
@[simp] theorem State.modOut_orders : (s.modOut g).orders = s.orders := rfl
@[simp] theorem State.modOut_planner : (s.modOut g).planner = s.planner := rfl
@[simp] theorem State.modOut_grader : (s.modOut g).grader = s.grader := rfl
@[simp] theorem State.modOut_cutter : (s.modOut g).cutter = s.cutter := rfl
@[simp] theorem State.modOut_report : (s.modOut g).report = s.report := rfl
@[simp] theorem State.modOut_fault : (s.modOut g).fault = s.fault := rfl
@[simp] theorem State.modOut_port : (s.modOut g).port = s.port := rfl
@[simp] theorem State.modOut_ctl : (s.modOut g).ctl = s.ctl := rfl
@[simp] theorem State.modOut_out : (s.modOut g).out = g s.out := rfl
@[simp] theorem State.modOut_pending : (s.modOut g).pending = s.pending := rfl

end

/-! ### State.modLane -/

section
variable (i : LaneId) (g : Lane → Lane) (s : State)

@[simp] theorem State.modLane_pos : (s.modLane i g).pos = s.pos := rfl
@[simp] theorem State.modLane_lanes : (s.modLane i g).lanes = s.lanes.set i.val (g s.lanes[i.val]) := rfl
@[simp] theorem State.modLane_tracker : (s.modLane i g).tracker = s.tracker := rfl
@[simp] theorem State.modLane_map : (s.modLane i g).map = s.map := rfl
@[simp] theorem State.modLane_orders : (s.modLane i g).orders = s.orders := rfl
@[simp] theorem State.modLane_planner : (s.modLane i g).planner = s.planner := rfl
@[simp] theorem State.modLane_grader : (s.modLane i g).grader = s.grader := rfl
@[simp] theorem State.modLane_cutter : (s.modLane i g).cutter = s.cutter := rfl
@[simp] theorem State.modLane_report : (s.modLane i g).report = s.report := rfl
@[simp] theorem State.modLane_fault : (s.modLane i g).fault = s.fault := rfl
@[simp] theorem State.modLane_port : (s.modLane i g).port = s.port := rfl
@[simp] theorem State.modLane_ctl : (s.modLane i g).ctl = s.ctl := rfl
@[simp] theorem State.modLane_out : (s.modLane i g).out = s.out := rfl
@[simp] theorem State.modLane_pending : (s.modLane i g).pending = s.pending := rfl

end

/-! ### State.modTable -/

section
variable (i : LaneId) (g : FlawTable → FlawTable) (s : State)

@[simp] theorem State.modTable_pos : (s.modTable i g).pos = s.pos := rfl
@[simp] theorem State.modTable_lanes : (s.modTable i g).lanes = s.lanes := rfl
@[simp] theorem State.modTable_tracker : (s.modTable i g).tracker = { s.tracker with tables := s.tracker.tables.set i.val (g s.tracker.tables[i.val]) } := rfl
@[simp] theorem State.modTable_map : (s.modTable i g).map = s.map := rfl
@[simp] theorem State.modTable_orders : (s.modTable i g).orders = s.orders := rfl
@[simp] theorem State.modTable_planner : (s.modTable i g).planner = s.planner := rfl
@[simp] theorem State.modTable_grader : (s.modTable i g).grader = s.grader := rfl
@[simp] theorem State.modTable_cutter : (s.modTable i g).cutter = s.cutter := rfl
@[simp] theorem State.modTable_report : (s.modTable i g).report = s.report := rfl
@[simp] theorem State.modTable_fault : (s.modTable i g).fault = s.fault := rfl
@[simp] theorem State.modTable_port : (s.modTable i g).port = s.port := rfl
@[simp] theorem State.modTable_ctl : (s.modTable i g).ctl = s.ctl := rfl
@[simp] theorem State.modTable_out : (s.modTable i g).out = s.out := rfl
@[simp] theorem State.modTable_pending : (s.modTable i g).pending = s.pending := rfl

end

/-! ### raise -/

section
variable (e : Event) (s : State)

@[simp] theorem raise_pos : (raise e s).pos = s.pos := rfl
@[simp] theorem raise_lanes : (raise e s).lanes = s.lanes := rfl
@[simp] theorem raise_tracker : (raise e s).tracker = s.tracker := rfl
@[simp] theorem raise_map : (raise e s).map = s.map := rfl
@[simp] theorem raise_orders : (raise e s).orders = s.orders := rfl
@[simp] theorem raise_planner : (raise e s).planner = s.planner := rfl
@[simp] theorem raise_grader : (raise e s).grader = s.grader := rfl
@[simp] theorem raise_cutter : (raise e s).cutter = s.cutter := rfl
@[simp] theorem raise_report : (raise e s).report = s.report := rfl
@[simp] theorem raise_fault : (raise e s).fault = s.fault := rfl
@[simp] theorem raise_port : (raise e s).port = { s.port with events := s.port.events ||| e.single } := rfl
@[simp] theorem raise_ctl : (raise e s).ctl = s.ctl := rfl
@[simp] theorem raise_out : (raise e s).out = s.out := rfl
@[simp] theorem raise_pending : (raise e s).pending = s.pending := rfl

end

/-! ### tally -/

section
variable (g : Shift → Shift) (s : State)

@[simp] theorem tally_pos : (tally g s).pos = s.pos := rfl
@[simp] theorem tally_lanes : (tally g s).lanes = s.lanes := rfl
@[simp] theorem tally_tracker : (tally g s).tracker = s.tracker := rfl
@[simp] theorem tally_map : (tally g s).map = s.map := rfl
@[simp] theorem tally_orders : (tally g s).orders = s.orders := rfl
@[simp] theorem tally_planner : (tally g s).planner = s.planner := rfl
@[simp] theorem tally_grader : (tally g s).grader = s.grader := rfl
@[simp] theorem tally_cutter : (tally g s).cutter = s.cutter := rfl
@[simp] theorem tally_report : (tally g s).report = { s.report with shift := g s.report.shift } := rfl
@[simp] theorem tally_fault : (tally g s).fault = s.fault := rfl
@[simp] theorem tally_port : (tally g s).port = s.port := rfl
@[simp] theorem tally_ctl : (tally g s).ctl = s.ctl := rfl
@[simp] theorem tally_out : (tally g s).out = s.out := rfl
@[simp] theorem tally_pending : (tally g s).pending = s.pending := rfl

end

/-! ### sendReply -/

section
variable (k tag : Nat) (r : Result) (b : ReplyBody) (s : State)

@[simp] theorem sendReply_pos : (sendReply k tag r b s).pos = s.pos := rfl
@[simp] theorem sendReply_lanes : (sendReply k tag r b s).lanes = s.lanes := rfl
@[simp] theorem sendReply_tracker : (sendReply k tag r b s).tracker = s.tracker := rfl
@[simp] theorem sendReply_map : (sendReply k tag r b s).map = s.map := rfl
@[simp] theorem sendReply_orders : (sendReply k tag r b s).orders = s.orders := rfl
@[simp] theorem sendReply_planner : (sendReply k tag r b s).planner = s.planner := rfl
@[simp] theorem sendReply_grader : (sendReply k tag r b s).grader = s.grader := rfl
@[simp] theorem sendReply_cutter : (sendReply k tag r b s).cutter = s.cutter := rfl
@[simp] theorem sendReply_report : (sendReply k tag r b s).report = s.report := rfl
@[simp] theorem sendReply_fault : (sendReply k tag r b s).fault = s.fault := rfl
@[simp] theorem sendReply_port : (sendReply k tag r b s).port = s.port := rfl
@[simp] theorem sendReply_ctl : (sendReply k tag r b s).ctl = s.ctl := rfl
@[simp] theorem sendReply_out : (sendReply k tag r b s).out = { s.out with replies := s.out.replies ++ [⟨replyKind k, tag, r, b⟩] } := rfl
@[simp] theorem sendReply_pending : (sendReply k tag r b s).pending = s.pending := rfl

end

/-! ### reply -/

section
variable (k : Request) (tag : Nat) (r : Result) (b : ReplyBody) (s : State)

@[simp] theorem reply_pos : (reply k tag r b s).pos = s.pos := rfl
@[simp] theorem reply_lanes : (reply k tag r b s).lanes = s.lanes := rfl
@[simp] theorem reply_tracker : (reply k tag r b s).tracker = s.tracker := rfl
@[simp] theorem reply_map : (reply k tag r b s).map = s.map := rfl
@[simp] theorem reply_orders : (reply k tag r b s).orders = s.orders := rfl
@[simp] theorem reply_planner : (reply k tag r b s).planner = s.planner := rfl
@[simp] theorem reply_grader : (reply k tag r b s).grader = s.grader := rfl
@[simp] theorem reply_cutter : (reply k tag r b s).cutter = s.cutter := rfl
@[simp] theorem reply_report : (reply k tag r b s).report = s.report := rfl
@[simp] theorem reply_fault : (reply k tag r b s).fault = s.fault := rfl
@[simp] theorem reply_port : (reply k tag r b s).port = s.port := rfl
@[simp] theorem reply_ctl : (reply k tag r b s).ctl = s.ctl := rfl
@[simp] theorem reply_out : (reply k tag r b s).out = { s.out with replies := s.out.replies ++ [⟨replyKind k.code, tag, r, b⟩] } := rfl
@[simp] theorem reply_pending : (reply k tag r b s).pending = s.pending := rfl

end

/-! ### sendRecord -/

section
variable (r : CutterRecord) (s : State)

@[simp] theorem sendRecord_pos : (sendRecord r s).pos = s.pos := rfl
@[simp] theorem sendRecord_lanes : (sendRecord r s).lanes = s.lanes := rfl
@[simp] theorem sendRecord_tracker : (sendRecord r s).tracker = s.tracker := rfl
@[simp] theorem sendRecord_map : (sendRecord r s).map = s.map := rfl
@[simp] theorem sendRecord_orders : (sendRecord r s).orders = s.orders := rfl
@[simp] theorem sendRecord_planner : (sendRecord r s).planner = s.planner := rfl
@[simp] theorem sendRecord_grader : (sendRecord r s).grader = s.grader := rfl
@[simp] theorem sendRecord_cutter : (sendRecord r s).cutter = s.cutter := rfl
@[simp] theorem sendRecord_report : (sendRecord r s).report = s.report := rfl
@[simp] theorem sendRecord_fault : (sendRecord r s).fault = s.fault := rfl
@[simp] theorem sendRecord_port : (sendRecord r s).port = s.port := rfl
@[simp] theorem sendRecord_ctl : (sendRecord r s).ctl = s.ctl := rfl
@[simp] theorem sendRecord_out : (sendRecord r s).out = { s.out with cutter := s.out.cutter ++ [r] } := rfl
@[simp] theorem sendRecord_pending : (sendRecord r s).pending = s.pending := rfl

end

/-! ### fillSlot -/

section
variable (slot : FaultSlot) (s : State)

@[simp] theorem fillSlot_pos : (fillSlot slot s).pos = s.pos := rfl
@[simp] theorem fillSlot_lanes : (fillSlot slot s).lanes = s.lanes := rfl
@[simp] theorem fillSlot_tracker : (fillSlot slot s).tracker = s.tracker := rfl
@[simp] theorem fillSlot_map : (fillSlot slot s).map = s.map := rfl
@[simp] theorem fillSlot_orders : (fillSlot slot s).orders = s.orders := rfl
@[simp] theorem fillSlot_planner : (fillSlot slot s).planner = s.planner := rfl
@[simp] theorem fillSlot_grader : (fillSlot slot s).grader = s.grader := rfl
@[simp] theorem fillSlot_cutter : (fillSlot slot s).cutter = s.cutter := rfl
@[simp] theorem fillSlot_report : (fillSlot slot s).report = s.report := rfl
@[simp] theorem fillSlot_fault :
    (fillSlot slot s).fault = { s.fault with slot := slot, nextNumber := nextNumber s.fault.nextNumber } := rfl
@[simp] theorem fillSlot_port : (fillSlot slot s).port = { s.port with events := s.port.events ||| Event.faultCaptured.single } := rfl
@[simp] theorem fillSlot_ctl : (fillSlot slot s).ctl = s.ctl := rfl
@[simp] theorem fillSlot_out : (fillSlot slot s).out = s.out := rfl
@[simp] theorem fillSlot_pending : (fillSlot slot s).pending = s.pending := rfl

end

/-! ### setMode -/

section
variable (m : Mode) (s : State)

@[simp] theorem setMode_pos : (setMode m s).pos = { s.pos with overspeed := s.pos.overspeed && m.cutting } := rfl
@[simp] theorem setMode_lanes : (setMode m s).lanes = s.lanes := rfl
@[simp] theorem setMode_tracker : (setMode m s).tracker = s.tracker := rfl
@[simp] theorem setMode_map : (setMode m s).map = s.map := rfl
@[simp] theorem setMode_orders : (setMode m s).orders = s.orders := rfl
@[simp] theorem setMode_planner : (setMode m s).planner = s.planner := rfl
@[simp] theorem setMode_grader : (setMode m s).grader = s.grader := rfl
@[simp] theorem setMode_cutter : (setMode m s).cutter = s.cutter := rfl
@[simp] theorem setMode_report : (setMode m s).report = s.report := rfl
@[simp] theorem setMode_fault : (setMode m s).fault = s.fault := rfl
@[simp] theorem setMode_port :
    (setMode m s).port = { s.port with mode := m, events := s.port.events ||| Event.modeChanged.single } := rfl
@[simp] theorem setMode_ctl : (setMode m s).ctl = s.ctl := rfl
@[simp] theorem setMode_out : (setMode m s).out = s.out := rfl
@[simp] theorem setMode_pending : (setMode m s).pending = s.pending := rfl

end

end Sys2Proof.Machine
end

