-- ==== Sys2Proof/Laws/Blocks.lean ====
section
/-!
SUPPORT. What the operations that several blocks share can do, said once: events, reports, the planning state, the known frontier, intervals,
references, orders, the halt and the work of all lanes. A prover cites these and unfolds none of the operations.
-/

namespace Sys2Proof.Machine

/-! ### Events -/

@[simp] theorem single_getLsbD (e f : Event) : e.single.getLsbD f.bit = decide (f = e) := by
  cases e <;> cases f <;> decide

@[simp] theorem latched_raise (e f : Event) (s : State) : (raise e s).latched f = (s.latched f || decide (f = e)) := by
  simp [State.latched]

@[simp] theorem latched_setMode (m : Mode) (f : Event) (s : State) :
    (setMode m s).latched f = (s.latched f || decide (f = .modeChanged)) := by
  simp [State.latched]

@[simp] theorem latched_fillSlot (slot : FaultSlot) (f : Event) (s : State) :
    (fillSlot slot s).latched f = (s.latched f || decide (f = .faultCaptured)) := by
  simp [State.latched]

/-! ### One lane among eight -/

@[simp] theorem lane_modLane_same (i : LaneId) (g : Lane → Lane) (s : State) : (s.modLane i g).lane i = g (s.lane i) := by
  simp [State.lane]

theorem lane_modLane_other (i j : LaneId) (g : Lane → Lane) (s : State) (h : j ≠ i) : (s.modLane i g).lane j = s.lane j := by
  have : i.val ≠ j.val := fun e => h (Fin.ext e.symm)
  simp [State.lane, this]

@[simp] theorem table_modTable_same (i : LaneId) (g : FlawTable → FlawTable) (s : State) :
    (s.modTable i g).table i = g (s.table i) := by simp [State.table]

theorem table_modTable_other (i j : LaneId) (g : FlawTable → FlawTable) (s : State) (h : j ≠ i) :
    (s.modTable i g).table j = s.table j := by
  have : i.val ≠ j.val := fun e => h (Fin.ext e.symm)
  simp [State.table, this]

theorem mem_allLanes (i : LaneId) : i ∈ allLanes := by
  unfold allLanes
  match i with
  | 0 | 1 | 2 | 3 | 4 | 5 | 6 | 7 => simp

/-- What holds before a sweep of the lanes and is kept at each lane holds after it. -/
theorem forLanes_keeps (P : State → Prop) (f : LaneId → State → State) (s : State) (h : P s)
    (hf : ∀ i s, P s → P (f i s)) : P (forLanes f s) := by
  unfold forLanes
  generalize allLanes = xs
  induction xs generalizing s with
  | nil => exact h
  | cons i xs ih => exact ih _ (hf i s h)

theorem forLanes_id (f : LaneId → State → State) (s : State) (h : ∀ i, f i s = s) : forLanes f s = s :=
  forLanes_keeps (fun t => t = s) f s rfl (by rintro i t rfl; exact h i)

/-! ### The planning state (R106) and the known frontier (R58) -/

/-- testRoom changes the planning state alone, and only between READY and WAITING FOR ROOM. -/
theorem testRoom_spec (s : State) : ∃ p, testRoom s = { s with planner := { s.planner with planning := p } } ∧
    (s.planner.planning.testing = false → p = s.planner.planning) ∧
    (s.planner.planning.testing = true → p = .waiting ∨ p = .ready) := by
  by_cases h : s.planner.planning.testing = true
  · refine ⟨_, by rw [testRoom, if_pos h]; rfl, by simp [h], fun _ => ?_⟩
    split <;> simp
  · have h' : s.planner.planning.testing = false := by simpa using h
    exact ⟨s.planner.planning, by rw [testRoom, if_neg h], fun _ => rfl, fun q => absurd q h⟩

/-- recomputeK changes K and the planning state alone, and K never falls. -/
theorem recomputeK_spec (s : State) : ∃ k p, s.tracker.frontier ≤ k ∧
    recomputeK s = { s with tracker := { s.tracker with frontier := k }, planner := { s.planner with planning := p } } := by
  unfold recomputeK
  split
  · rename_i h
    simp only [Bool.and_eq_true, decide_eq_true_eq] at h
    obtain ⟨p, hp, -⟩ := testRoom_spec (s.modTracker fun t => { t with frontier := s.computedFrontier })
    exact ⟨s.computedFrontier, p, h.2.le, hp⟩
  · exact ⟨s.tracker.frontier, s.planner.planning, le_rfl, rfl⟩

/-! ### Reports (R183 to R187) -/

/-- A class 1 report changes the count of the open shift, the fault unit and the event set alone. -/
theorem report1_frame (k : FaultKind) (it : ReportItems) (s : State) : ∃ f v, report1 k it s =
    { s with report := { s.report with shift := s.report.shift.class1Reported }, fault := f,
             port := { s.port with events := v } } := by
  unfold report1
  cases h : s.fault.slot <;> simp only [tally_fault, h]
  · exact ⟨_, _, rfl⟩
  · exact ⟨_, s.port.events, rfl⟩
  · exact ⟨_, s.port.events, rfl⟩

theorem report2_haltHeld (k : FaultKind) (it : ReportItems) (s : State) (r : FaultRecord) (h : s.fault.slot = .haltHeld r) :
    report2 k it s = escalate k r s := by simp [report2, h]

theorem report2_scanning (k : FaultKind) (it : ReportItems) (s : State) (h : ∀ r, s.fault.slot ≠ .haltHeld r)
    (hm : s.port.mode.scanning = true) : report2 k it s = captureHalt k it s := by
  cases hs : s.fault.slot <;> simp_all [report2, State.mode]

theorem report2_idle (k : FaultKind) (it : ReportItems) (s : State) (h : ∀ r, s.fault.slot ≠ .haltHeld r)
    (hm : s.port.mode.scanning = false) : report2 k it s = reportIdle k it s := by
  cases hs : s.fault.slot <;> simp_all [report2, State.mode]

/-! ### Intervals (R79, R80) -/

theorem openInterval_room (reason : BlindReason) (lane : Option LaneId) (a b y : Nat) (s : State)
    (h : s.map.blind.length < 64) :
    openInterval reason lane a b y s = { s with
      map := { s.map with blind := insertByKey Interval.yStart ⟨s.map.nextId, reason, lane, a, b, y, none, 0⟩ s.map.blind,
                          nextId := nextId s.map.nextId },
      port := { s.port with events := s.port.events ||| Event.blindOpened.single } } := by
  have : s.blindFull = false := decide_eq_false (Nat.not_le.2 h)
  simp only [openInterval, this, Bool.false_eq_true, if_false]
  rfl

theorem openInterval_full (reason : BlindReason) (lane : Option LaneId) (a b y : Nat) (s : State)
    (h : 64 ≤ s.map.blind.length) :
    openInterval reason lane a b y s = report2 .blindListFull { s.here with lane := lane } s := by
  have : s.blindFull = true := decide_eq_true h
  simp [openInterval, this]

theorem modInterval_eq (id : Nat) (g : Interval → Interval) (s : State) :
    modInterval id g s = { s with map := { s.map with blind := s.map.blind.map fun b => if b.id == id then g b else b } } := rfl

/-- closeAll with an open ALL interval closes that one and forgets both recorded labels. -/
theorem closeAll_open (label : Nat) {s : State} {b : Interval} (h : s.openAll = some b) :
    closeAll label s = { s with map := { s.map with
      blind := s.map.blind.map fun x => if x.id == b.id then { x with yEnd := some label } else x,
      fullLabel := none, breakLabel := none } } := by
  simp only [closeAll, h]
  rfl

theorem closeAll_none (label : Nat) {s : State} (h : s.openAll = none) : closeAll label s = s := by simp only [closeAll, h]

theorem renameAll_open (reason : BlindReason) {s : State} {b : Interval} (h : s.openAll = some b) :
    renameAll reason s = { s with map := { s.map with
      blind := s.map.blind.map fun x => if x.id == b.id then { x with reason := reason } else x } } := by
  simp only [renameAll, h]
  rfl

theorem renameAll_none (reason : BlindReason) {s : State} (h : s.openAll = none) : renameAll reason s = s := by
  simp only [renameAll, h]

/-- The bound that a refused flaw meets: the Y end of the closed ALL interval of the list that was opened last, or 0 where the list has
none (R75). -/
theorem lastAllEnd_spec (s : State) :
    (s.lastAllEnd = 0 ∧ ∀ b ∈ s.map.blind, b.lane = none → b.yEnd = none) ∨
      ∃ b ∈ s.map.blind, b.lane = none ∧ b.yEnd = some s.lastAllEnd ∧
        ∀ c ∈ s.map.blind, c.lane = none → c.yEnd ≠ none → s.map.age b.id ≤ s.map.age c.id := by
  have hm : ∀ b, b ∈ s.closedAll ↔ b ∈ s.map.blind ∧ b.lane = none ∧ b.yEnd.isSome = true := by
    intro b
    rw [State.closedAll, (sortByKey_perm ..).mem_iff]
    simp
  have hs := sortByKey_sorted (fun b : Interval => s.map.age b.id) (s.map.blind.filter fun b => b.lane.isNone && b.yEnd.isSome)
  cases hc : s.closedAll with
  | nil =>
    refine .inl ⟨by simp [State.lastAllEnd, hc], fun b hb hl => ?_⟩
    have := (hm b).not.1 (by simp [hc])
    simpa [hb, hl] using this
  | cons b bs =>
    obtain ⟨h1, h2, h3⟩ := (hm b).1 (by simp [hc])
    obtain ⟨y, hy⟩ := Option.isSome_iff_exists.1 h3
    refine .inr ⟨b, h1, h2, by simp [State.lastAllEnd, hc, hy], fun c hb hl he => ?_⟩
    have hi := (hm c).2 ⟨hb, hl, Option.isSome_iff_ne_none.2 he⟩
    rw [hc] at hi
    change (s.closedAll).Pairwise _ at hs
    rw [hc] at hs
    rcases List.mem_cons.1 hi with rfl | hi
    · exact Nat.le_refl _
    · exact (List.pairwise_cons.1 hs).1 c hi

/-! ### References and retirement (R81 to R83) -/

/-- takeReferences changes reference counts alone. -/
theorem takeReferences_frame (a b : Nat) (s : State) : ∃ es bs, takeReferences a b s =
    { s with map := { s.map with entries := es, blind := bs } } ∧
      es.map (fun e => { e with refs := 0 }) = s.map.entries.map (fun e => { e with refs := 0 }) ∧
      bs.map (fun e => { e with refs := 0 }) = s.map.blind.map (fun e => { e with refs := 0 }) :=
  ⟨_, _, rfl, updateWhere_proj _ (fun e : MapEntry => { e with refs := e.refs + 1 }) _ (fun _ => rfl) _,
    updateWhere_proj _ (fun b : Interval => { b with refs := b.refs + 1 }) _ (fun _ => rfl) _⟩

theorem flawRetired_fold (gone : List MapEntry) (s : State) : ∃ f,
    gone.foldl (fun s e => tally (Shift.flawRetired e.cls) s) s =
      { s with report := { s.report with shift := { s.report.shift with flaws := f } } } := by
  induction gone generalizing s with
  | nil => exact ⟨s.report.shift.flaws, rfl⟩
  | cons e es ih =>
    obtain ⟨f, hf⟩ := ih (tally (Shift.flawRetired e.cls) s)
    exact ⟨f, by rw [List.foldl_cons, hf]; rfl⟩

/-- retireWhere takes entries and intervals away, counts them, lets the high mark fall and notes room; it changes nothing else. -/
theorem retireWhere_frame (pe : MapEntry → Bool) (pb : Interval → Bool) (s : State) : ∃ es bs hr rm f,
    retireWhere pe pb s = { s with map := { s.map with entries := es, blind := bs, highRaised := hr, room := rm },
                                   report := { s.report with shift := { s.report.shift with flaws := f } } } ∧
      es.Sublist s.map.entries ∧ bs.Sublist s.map.blind := by
  unfold retireWhere
  split
  · exact ⟨s.map.entries, s.map.blind, s.map.highRaised, s.map.room, s.report.shift.flaws, rfl, .refl _, .refl _⟩
  · obtain ⟨f, hf⟩ := flawRetired_fold (s.map.entries.filter fun e => pe e && s.entryRetires e)
      (s.modMap fun m =>
        { m with entries := s.map.entries.filter fun e => !(pe e && s.entryRetires e),
                 blind := m.blind.filter (fun b => !(pb b && s.intervalRetires b)),
                 highRaised := m.highRaised &&
                   decide (Config.mapHighMark ≤ (s.map.entries.filter fun e => !(pe e && s.entryRetires e)).length),
                 room := m.hasRoom (s.map.entries.filter fun e => !(pe e && s.entryRetires e)).length })
    refine ⟨_, _, _, _, f, hf, List.filter_sublist, List.filter_sublist⟩

theorem releaseReferences_frame (fs bs' : List Nat) (s : State) : ∃ es bs hr rm f,
    releaseReferences fs bs' s = { s with map := { s.map with entries := es, blind := bs, highRaised := hr, room := rm },
                                          report := { s.report with shift := { s.report.shift with flaws := f } } } ∧
      es.length ≤ s.map.entries.length ∧ bs.length ≤ s.map.blind.length := by
  obtain ⟨es, bs, hr, rm, f, h, h1, h2⟩ := retireWhere_frame (fun e => fs.contains e.id) (fun b => bs'.contains b.id)
    (s.modMap fun m =>
      { m with entries := updateWhere (fun e => fs.contains e.id) (fun e => { e with refs := e.refs - 1 }) m.entries,
               blind := updateWhere (fun b => bs'.contains b.id) (fun b => { b with refs := b.refs - 1 }) m.blind })
  exact ⟨es, bs, hr, rm, f, h, by simpa using h1.length_le, by simpa using h2.length_le⟩

/-! ### The end of the map-full condition (R76) -/

/-- noteMapFullEnd notes at most a line, and what it notes uses up the room. -/
theorem noteMapFullEnd_frame (line : Nat) (s : State) : ∃ e r,
    noteMapFullEnd line s = { s with map := { s.map with fullEnd := e, room := r } } ∧
      (s.map.full ≠ none → s.map.fullEnd = none → s.map.room = true → e = some line ∧ r = false) ∧
      (s.map.full = none ∨ s.map.fullEnd ≠ none ∨ s.map.room = false → e = s.map.fullEnd ∧ r = s.map.room) := by
  unfold noteMapFullEnd
  split
  · rename_i h
    simp only [Bool.and_eq_true, Option.isSome_iff_ne_none, Option.isNone_iff_eq_none] at h
    refine ⟨_, _, rfl, fun _ _ _ => ⟨rfl, rfl⟩, ?_⟩
    rintro (h' | h' | h')
    · exact absurd h' h.1.1
    · exact absurd h.1.2 h'
    · simp [h'] at h
  · rename_i h
    refine ⟨_, _, rfl, fun h1 h2 h3 => absurd ?_ h, fun _ => ⟨rfl, rfl⟩⟩
    simp [Option.isSome_iff_ne_none, h1, h2, h3]

/-! ### What a late Cutter Link Unit sees (R156, R158, R169; log 7) -/

section
variable (v : Bool) (s : State)

@[simp] theorem setUnseenLoss_slot : (setUnseenLoss v s).fault.slot = s.fault.slot := rfl
@[simp] theorem setUnseenLoss_nextNumber : (setUnseenLoss v s).fault.nextNumber = s.fault.nextNumber := rfl
@[simp] theorem setUnseenLoss_cutter : (setUnseenLoss v s).cutter = s.cutter := rfl
@[simp] theorem setUnseenLoss_port : (setUnseenLoss v s).port = s.port := rfl
@[simp] theorem setUnseenLoss_ctl : (setUnseenLoss v s).ctl = s.ctl := rfl
@[simp] theorem setUnseenLoss_pos : (setUnseenLoss v s).pos = s.pos := rfl
@[simp] theorem setUnseenLoss_planner : (setUnseenLoss v s).planner = s.planner := rfl
@[simp] theorem setUnseenLoss_orders : (setUnseenLoss v s).orders = s.orders := rfl
@[simp] theorem setUnseenLoss_out : (setUnseenLoss v s).out = s.out := rfl

end

/-! ### Orders (R93, R96, R98) -/

/-- stopCounting changes planned good of one order alone. -/
theorem stopCounting_frame (r : PlateRecord) (s : State) : ∃ q, stopCounting r s = { s with orders := { s.orders with queue := q } } ∧
    q.map Order.id = s.orders.queue.map Order.id := by
  unfold stopCounting
  cases r.order with
  | none => exact ⟨s.orders.queue, rfl, rfl⟩
  | some id =>
    dsimp only
    split
    · exact ⟨_, rfl, updateWhere_proj _ (fun o : Order => { o with planned := o.planned - 1 }) _ (fun _ => rfl) _⟩
    · exact ⟨s.orders.queue, rfl, rfl⟩

/-- What the operations on orders change: the order unit, the planning state, the event set and the open shift's counts. -/
def OrdersOnly (s t : State) : Prop :=
  ∃ u p v h, t = { s with orders := u, planner := { s.planner with planning := p }, port := { s.port with events := v },
                          report := { s.report with shift := h } } ∧
    u.queue.length ≤ s.orders.queue.length ∧ (u.queue.map Order.id).Sublist (s.orders.queue.map Order.id)

theorem OrdersOnly.refl (s : State) : OrdersOnly s s :=
  ⟨s.orders, s.planner.planning, s.port.events, s.report.shift, rfl, le_rfl, .refl _⟩

theorem OrdersOnly.trans {s t u : State} (h : OrdersOnly s t) (g : OrdersOnly t u) : OrdersOnly s u := by
  obtain ⟨a, p, v, x, rfl, h1, h2⟩ := h
  obtain ⟨a', p', v', x', rfl, g1, g2⟩ := g
  exact ⟨a', p', v', x', rfl, g1.trans h1, g2.trans h2⟩

theorem testRoom_ordersOnly (s : State) : OrdersOnly s (testRoom s) := by
  obtain ⟨p, hp, -⟩ := testRoom_spec s
  exact ⟨s.orders, p, s.port.events, s.report.shift, hp, le_rfl, .refl _⟩

theorem modOrder_ordersOnly (id : Nat) (g : Order → Order) (h : ∀ o, (g o).id = o.id) (s : State) :
    OrdersOnly s (modOrder id g s) :=
  ⟨_, s.planner.planning, s.port.events, s.report.shift, rfl, by simp, by
    rw [show (updateWhere (fun o : Order => o.id == id) g s.orders.queue).map Order.id = _ from updateWhere_proj _ _ _ h _]⟩

theorem raise_ordersOnly (e : Event) (s : State) : OrdersOnly s (raise e s) :=
  ⟨s.orders, s.planner.planning, _, s.report.shift, rfl, le_rfl, .refl _⟩

theorem finishOrder_ordersOnly (o : Order) (c : OrderOutcome) (s : State) : OrdersOnly s (finishOrder o c s) :=
  ⟨_, s.planner.planning, _, _, rfl, List.length_filter_le _ _, List.filter_sublist.map _⟩

theorem testFinish_ordersOnly (id : Nat) (s : State) : OrdersOnly s (testFinish id s) := by
  unfold testFinish
  split
  · exact .refl s
  · split
    · exact finishOrder_ordersOnly _ _ s
    · exact .refl s

theorem endOrder_ordersOnly (id : Nat) (s : State) : OrdersOnly s (endOrder id s) :=
  ((modOrder_ordersOnly id (fun o => { o with state := .ending }) (fun _ => rfl) s).trans (testFinish_ordersOnly id _)).trans
    (testRoom_ordersOnly _)

theorem failQueued_ordersOnly (o : Order) (s : State) : OrdersOnly s (failQueued o s) := by
  unfold failQueued
  split
  · exact finishOrder_ordersOnly _ _ s
  · exact (modOrder_ordersOnly o.id (fun q => { q with state := .ending }) (fun _ => rfl) s).trans (raise_ordersOnly _ _)

theorem makeActive_ordersOnly (o : Order) (s : State) : OrdersOnly s (makeActive o s) := by
  have h := modOrder_ordersOnly o.id (fun q => { q with state := .active }) (fun _ => rfl) s
  refine (h.trans ?_).trans ((raise_ordersOnly .orderActivated _).trans (testRoom_ordersOnly _))
  exact ⟨_, _, _, _, rfl, le_rfl, .refl _⟩

/-- The activation of orders changes nothing outside OrdersOnly. -/
theorem activateNext_ordersOnly (s : State) : OrdersOnly s (activateNext s) := by
  unfold activateNext
  generalize s.orders.queue.length = n
  induction n generalizing s with
  | zero => exact .refl s
  | succ n ih =>
    unfold activateUpTo
    split
    · exact .refl s
    · split
      · exact .refl s
      · split
        · exact (failQueued_ordersOnly _ s).trans (ih _)
        · split
          · exact ((makeActive_ordersOnly _ s).trans (endOrder_ordersOnly _ _)).trans (ih _)
          · exact makeActive_ordersOnly _ s

theorem fitOrder_ordersOnly (id : Nat) (s : State) : OrdersOnly s (fitOrder s id) := by
  unfold fitOrder
  split
  · exact .refl s
  · split
    · exact .refl s
    · split
      · exact failQueued_ordersOnly _ s
      · exact ((raise_ordersOnly _ s).trans (endOrder_ordersOnly _ _)).trans (activateNext_ordersOnly _)
      · exact .refl s

theorem fitChecks_ordersOnly (s : State) : OrdersOnly s (fitChecks s) := by
  unfold fitChecks
  generalize s.orders.queue.map Order.id = ids
  induction ids generalizing s with
  | nil => exact .refl s
  | cons id ids ih => exact (fitOrder_ordersOnly id s).trans (ih _)

/-! ### The halt (R185, R188) and a pending close (R177) -/

/-- Voiding every record leaves the lanes, the Tracker, the grade tables, the links, the fault slot, the mode and the journal. -/
theorem voidAll_frame (s : State) : ∃ m q h,
    voidAll s = { s with map := m, orders := { s.orders with queue := q }, report := { s.report with shift := h },
                         planner := { s.planner with table := [], head := none, planning := .off } } ∧
      q.map Order.id = s.orders.queue.map Order.id ∧ m.entries.length ≤ s.map.entries.length ∧
      m.blind.length ≤ s.map.blind.length := by
  have key : ∀ (rs : List PlateRecord) (s : State), ∃ m q h tb,
      rs.foldl (fun s r => voidRecord r s) s =
        { s with map := m, orders := { s.orders with queue := q }, report := { s.report with shift := h },
                 planner := { s.planner with table := tb } } ∧
      q.map Order.id = s.orders.queue.map Order.id ∧ m.entries.length ≤ s.map.entries.length ∧
        m.blind.length ≤ s.map.blind.length := by
    intro rs
    induction rs with
    | nil => intro s; exact ⟨s.map, s.orders.queue, s.report.shift, s.planner.table, rfl, rfl, le_rfl, le_rfl⟩
    | cons r rs ih =>
      intro s
      obtain ⟨es, bs, hr, rm, f, h1, l1, l2⟩ := releaseReferences_frame r.flawRefs r.blindRefs
        (s.modPlanner fun p => { p with table := p.table.filter fun q => q.id != r.id })
      obtain ⟨q, h2, e2⟩ := stopCounting_frame r (releaseReferences r.flawRefs r.blindRefs
        (s.modPlanner fun p => { p with table := p.table.filter fun q => q.id != r.id }))
      rw [h1] at h2 e2
      obtain ⟨m, q', h, tb, h3, e3, l3, l4⟩ := ih (voidRecord r s)
      have hv : voidRecord r s = { s with
          map := { s.map with entries := es, blind := bs, highRaised := hr, room := rm },
          orders := { s.orders with queue := q },
          report := { s.report with shift := Shift.addVoided s.netWidth r { s.report.shift with flaws := f } },
          planner := { s.planner with table := s.planner.table.filter fun q => q.id != r.id } } := by
        unfold voidRecord
        rw [h1, h2]
        rfl
      rw [hv] at h3 e3 l3 l4
      refine ⟨m, q', h, tb, ?_, e3.trans e2, l3.trans l1, l4.trans l2⟩
      rw [List.foldl_cons, hv, h3]
  obtain ⟨m, q, h, tb, he, h1, h2, h3⟩ := key s.planner.table s
  exact ⟨m, q, h, by unfold voidAll; rw [he]; rfl, h1, h2, h3⟩

/-- A delayed reply changes the delayed list and the replies alone; after RESET has been taken it changes nothing. -/
theorem answerDelayed_frame (k : Request) (r : Result) (b : ReplyBody) (s : State) : ∃ d o,
    answerDelayed k r b s = { s with port := { s.port with delayed := d }, out := { s.out with replies := o } } ∧
      d.Sublist s.port.delayed ∧ (s.ctl.resetting = true → o = s.out.replies) := by
  unfold answerDelayed
  split
  · exact ⟨_, _, rfl, .refl _, fun _ => rfl⟩
  · rename_i h
    split
    · exact ⟨_, _, rfl, .refl _, fun _ => rfl⟩
    · exact ⟨_, _, rfl, List.filter_sublist, fun hr => absurd hr h⟩

/-- A pending close changes the shift, the store, the events, the delayed list and the replies alone; afterwards none is pending. -/
theorem makePendingClose_frame (s : State) : ∃ r v d o,
    makePendingClose s = { s with report := r, port := { s.port with events := v, delayed := d }, out := { s.out with replies := o } } ∧
      r.pendingClose = none ∧ r.journal = s.report.journal ∧ d.Sublist s.port.delayed := by
  unfold makePendingClose
  split
  · rename_i h
    exact ⟨s.report, s.port.events, s.port.delayed, s.out.replies, rfl, h, rfl, .refl _⟩
  · rename_i p _
    obtain ⟨d, o, he, hd, -⟩ := answerDelayed_frame .closeShift .ok (.shiftSeq s.report.shift.seq)
      ((closeOpenShift p.label p.hostTime s).modReport fun r => { r with pendingClose := none })
    exact ⟨_, _, d, o, he, rfl, rfl, hd⟩

/-! ### The work of a trigger (log 2) -/

/-- A trigger that calls for no switch, no deadline and no end of a switch is followed by nothing. -/
theorem followTrigger_id {s : State} (h1 : s.dueSwitch = none) (h2 : s.deadlineDue = false) (h3 : s.switchDue = false) :
    followTrigger s = s := by
  have e1 : detectionSwitch s = s := by simp [detectionSwitch, h1]
  have e2 : digestDeadline s = s := by
    simp only [digestDeadline]
    split
    · rfl
    split
    · rfl
    rename_i t ht
    apply forLanes_id
    intro i
    simp only [State.deadlineDue, ht, Bool.and_eq_false_iff, List.any_eq_false] at h2
    simp only [laneDeadline]
    rcases h2 with hd | hd
    · simp [hd]
    · have hi := hd i (mem_allLanes i)
      simp only [Bool.and_eq_true, Option.any_some, decide_eq_true_eq, not_and] at hi
      rw [if_neg]
      simp only [Bool.and_eq_true, decide_eq_true_eq]
      rintro ⟨⟨-, h1⟩, h2⟩
      exact hi h1 h2
  simp [followTrigger, e1, e2, switchComplete, h3]

/-- With nothing outstanding the work of a trigger changes nothing. -/
theorem NoTriggerWork.take {s : State} (h : NoTriggerWork s) : takeTriggerWork s = s := by
  simp [takeTriggerWork, followTrigger_id h.noSwitch h.noDeadline h.noCompletion, mapFullEnd, h.noMapEnd]

/-! ### The shift store (R178) -/

/-- The store keeps its bound, the newest report last. -/
theorem storeReport_spec (r : Shift) (store : List Shift) (h : store.length ≤ 4) :
    (storeReport r store).length ≤ 4 ∧ (storeReport r store).getLast? = some r := by
  refine ⟨?_, by simp [storeReport]⟩
  have hd : 4 ≤ store.length → (dropLowest store).length + 1 = store.length := by
    intro hc
    unfold dropLowest
    split
    · rename_i hl
      simp [(least_eq_none _).1 hl |> List.map_eq_nil_iff.1] at hc
    · rename_i low hl
      obtain ⟨q, hq, e⟩ := List.mem_map.1 ((least_eq_some _ _).1 hl).1
      have := List.length_eraseP_of_mem (p := fun h : Shift => h.seq == low) hq (by simp [e])
      omega
  by_cases hc : 4 ≤ store.length
  · have := hd hc
    simp [storeReport, Config.storeCapacity, hc]
    omega
  · simp [storeReport, Config.storeCapacity, hc]
    omega

end Sys2Proof.Machine
end

