-- ==== Sys2Proof/Machine/Frames.lean ====
section
/-!
DEFINITION. The bytes of what the part sends (section 11.6): trigger words, records to the cutter and reply frames. Nothing here changes the
state; State.sentReplies, State.sentRecords and State.sentTriggers are the three outgoing streams. A width or a code that no table gives
is the model's (log 34).
-/

namespace Sys2Proof.Machine

/-! ### The gantry link -/

/-- The trigger word: the low 16 bits of the line number, then the view slot. -/
def Trigger.bytes (t : Trigger) : List Byte := joinFields [2, 1] [t.line, t.slot % 8]

/-! ### Codes (Table 11-7, R209, R210, Table 11-12) -/

/-- Table 11-7. -/
def Result.code : Result → Nat
  | .ok => 0
  | .unknownRequest => 1
  | .wrongMode => 2
  | .badField => 3
  | .badLength => 4
  | .laneBusy => 5
  | .queueFull => 6
  | .duplicateId => 7
  | .notFound => 8
  | .notCuttable => 9
  | .orderTooLong => 10
  | .coverageGap => 11
  | .notConfigured => 12
  | .noAgreement => 13
  | .nothingStaged => 14
  | .stageBusy => 15
  | .delayListFull => 16
  | .tagInUse => 17
  | .faultMismatch => 18
  | .cancelled => 19

/-- R209. -/
def Grade.code : Grade → Nat
  | .a => 0
  | .b => 1
  | .c => 2
  | .u => 3
  | .x => 4

/-- R209. -/
def RecordKind.code : RecordKind → Nat
  | .plate => 0
  | .cull => 1

/-- Table 11-12. -/
def DeclineReason.code : DeclineReason → Nat
  | .notReady => 1
  | .range => 2
  | .minCull => 3
  | .travel => 4
  | .destinations => 5

/-- R210. -/
def FlawClass.code : FlawClass → Nat
  | .bubble => 0
  | .stone => 1
  | .linear => 2
  | .surface => 3

/-- R210. -/
def viewCode : ViewKind → Nat
  | .bright => 0
  | .dark => 1
  | .oblique => 2

/-- R210. -/
def BreakAction.code : BreakAction → Nat
  | .halt => 0
  | .mark => 1

/-- R210. -/
def Fallback.code : Fallback → Nat
  | .take => 0
  | .cull => 1

/-! Codes no table gives: each in the order of its table, from 0 (log 34). -/

def RibbonState.code : RibbonState → Nat
  | .moving => 0
  | .stopped => 1

def LaneState.code : LaneState → Nat
  | .off => 0
  | .settling => 1
  | .active => 2
  | .crowded => 3
  | .faulted => 4

def BlindReason.code : BlindReason → Nat
  | .off => 0
  | .settling => 1
  | .faulted => 2
  | .crowded => 3
  | .mapFull => 4
  | .breakReason => 5

def OrderState.code : OrderState → Nat
  | .queued => 0
  | .active => 1
  | .ending => 2

def OrderOutcome.code : OrderOutcome → Nat
  | .complete => 0
  | .short => 1
  | .withdrawn => 2

def PlanningState.code : PlanningState → Nat
  | .off => 0
  | .ready => 1
  | .waiting => 2
  | .draining => 3

def CutState.code : CutState → Nat
  | .sent => 0
  | .accepted => 1
  | .done => 2
  | .rejected => 3
  | .missed => 4

def RecordState.code : RecordState → Nat
  | .committed => 0
  | .accepted => 1
  | .cut => 2
  | .spilled => 3
  | .void => 4

def Mode.code : Mode → Nat
  | .idle => 0
  | .inspect => 1
  | .produce => 2
  | .draining => 3
  | .halted => 4

def FaultKind.code : FaultKind → Nat
  | .digestMissing => 0
  | .headFault => 1
  | .lightLow => 2
  | .lightHigh => 3
  | .cutReject => 4
  | .cutMissed => 5
  | .cutOverdue => 6
  | .cutterProtocol => 7
  | .overspeed => 8
  | .ribbonReversal => 9
  | .encoderPhase => 10
  | .ribbonBreak => 11
  | .blindListFull => 12
  | .planOverrun => 13
  | .cutterLost => 14
  | .agreementLost => 15
  | .operatorHalt => 16

/-! ### Records to the cutter (Tables 11-11, 11-12) -/

def ResultPiece.bytes (p : ResultPiece) : List Byte := joinFields [2, 2, 1, 1] [p.xStart, p.xEnd, p.grade.code, p.dest]

/-- The record kind and content (Table 11-12). -/
def CutterRecord.parts : CutterRecord → Nat × List Byte
  | .agree v c l p d => (2, joinFields [2, 2, 2, 1, 1] [v, c, l, p, d])
  | .decline r v c l => (3, joinFields [1, 2, 2, 2] [r.code, v, c, l])
  | .cut id pos toGo speed => (4, joinFields [4, 6, 4, 2] [id, pos, toGo, speed])
  | .plateResult id kind length pieces =>
    (9, joinFields [4, 1, 4, 1] [id, kind.code, length, pieces.length] ++ pieces.flatMap ResultPiece.bytes)
  | .cutterHalt => (10, [])

/-- A cutter frame (Table 11-11). -/
def cutterFrame (kind : Nat) (content : List Byte) : List Byte :=
  let counted := fieldBytes 1 (1 + content.length) ++ fieldBytes 1 kind ++ content
  0xC3#8 :: counted ++ fieldBytes 2 (frameCheck counted).toNat

def CutterRecord.frame (r : CutterRecord) : List Byte := cutterFrame r.parts.1 r.parts.2

/-! ### Values of a reply (R210) -/

/-- A flag, one byte. -/
def flagBytes (b : Bool) : List Byte := [if b then 1#8 else 0#8]

/-- A value that may be none or absent: one byte, then the value if it is present. -/
def optBytes {α : Type} (f : α → List Byte) : Option α → List Byte
  | none => [0#8]
  | some v => 1#8 :: f v

/-- A list, as its number of elements in one byte and then the elements. -/
def listBytes {α : Type} (f : α → List Byte) (xs : List α) : List Byte := fieldBytes 1 xs.length ++ xs.flatMap f

/-- The one entry of an id as it stands; a page with its number of entries, after the number at or above the label (log 34). -/
def Found.bytes {α : Type} (f : α → List Byte) : Found α → List Byte
  | .one x => f x
  | .page above xs => above.elim [] (fieldBytes 2) ++ listBytes f xs

/-- A set of three flags from bit 0 on. -/
def Views.bytes (v : Views) : List Byte := fieldBytes 1 (v.bright.toNat + 2 * v.dark.toNat + 4 * v.oblique.toNat)

/-- A set of flags from bit 0 on, in the order of Table 4-2. -/
def FlawFlags.bytes (f : FlawFlags) : List Byte :=
  fieldBytes 1 (f.continued.toNat + 2 * f.truncated.toNat + 4 * f.seam.toNat + 8 * f.columnSuspect.toNat + 16 * f.saturated.toNat +
    32 * f.merged.toNat)

def PerClass.bytes (w : Nat) (p : PerClass Nat) : List Byte := joinFields [w, w, w, w] [p.bubble, p.stone, p.linear, p.surface]

def PerGrade.bytes (w : Nat) (p : PerGrade Nat) : List Byte := joinFields [w, w, w, w, w] [p.a, p.b, p.c, p.u, p.x]

/-- The widths of the eight fields are those of SET LINE GEOMETRY. -/
def LineGeometry.bytes (g : LineGeometry) : List Byte :=
  joinFields lineGeometryWidths [g.ppm, g.pitch, g.dgc, g.xL, g.xR, g.maxSpeed, g.stallTime, g.breakAction.code]

def Span.bytes (x : Span) : List Byte := joinFields [2, 2] [x.start, x.stop]

/-- R44, with the widths of SET LANE GEOMETRY and SET COLUMN MASK. -/
def LaneReply.bytes (l : LaneReply) : List Byte :=
  fieldBytes 1 l.state.code ++ flagBytes l.configured ++
    joinFields laneGeometryWidths [l.lane, l.geometry.x0, l.geometry.pitch, l.geometry.columns, l.geometry.binning] ++
    fieldBytes 2 l.reported ++ optBytes Span.bytes l.owned ++ fieldBytes 2 l.dark ++
    listBytes (fun r => joinFields [1, 1] [viewCode r.1, r.2.1] ++ optBytes (fieldBytes 2) r.2.2) l.rings ++
    listBytes (fieldBytes 1) l.limitRuns ++ fieldBytes 6 l.expected ++ optBytes (fieldBytes 6) l.lastProcessed ++
    fieldBytes 6 l.acceptance ++ fieldBytes 1 l.openFlaws ++ listBytes (fieldBytes 2) l.staticMask ++ flagBytes l.dynMasking ++
    listBytes (fieldBytes 2) l.dynColumns ++ optBytes (fieldBytes 4) l.interval

/-- With the widths of WRITE DETECTION SET. -/
def DetectionSet.bytes (d : DetectionSet) : List Byte :=
  listBytes (fun s : Slot => joinFields slotWidths [viewCode s.kind, s.threshold, s.low, s.high]) d.slots ++
    joinFields detectionTail [d.join, d.gap, d.maxLength, d.aspect, d.stone]

/-- Table 3-2; the flaw's lane is the lane whose table holds it. -/
def OpenFlaw.bytes (lane : LaneId) (f : OpenFlaw) : List Byte :=
  joinFields [4, 1, 6, 6, 2, 2, 2, 2, 2] [f.id, lane.val, f.firstLine, f.lastLine, f.firstCol, f.lastCol, f.seenFirst, f.seenLast, f.peak] ++
    f.views.bytes ++ flagBytes f.darkInBright ++ flagBytes f.saturated ++ optBytes (fieldBytes 4) f.pred

def Mark.bytes (m : Mark) : List Byte := joinFields [4, 6, 2, 2] [m.id, m.lastLine, m.seenFirst, m.seenLast]

/-- Table 4-2. -/
def MapEntry.bytes (e : MapEntry) : List Byte :=
  fieldBytes 4 e.id ++ fieldBytes 1 ((e.lanes.map fun i => 2 ^ i.val).sum) ++
    joinFields [6, 6, 2, 2, 1, 4, 2] [e.yFirst, e.yLast, e.xFirst, e.xLast, e.cls.code, e.size, e.peak] ++ e.views.bytes ++ e.flags.bytes ++
    optBytes (fieldBytes 4) e.pred ++ fieldBytes 1 e.refs

/-- Table 4-4; the lane is absent for ALL. -/
def Interval.bytes (b : Interval) : List Byte :=
  joinFields [4, 1] [b.id, b.reason.code] ++ optBytes (fun i : LaneId => fieldBytes 1 i.val) b.lane ++
    joinFields [2, 2, 6] [b.xStart, b.xEnd, b.yStart] ++ optBytes (fieldBytes 6) b.yEnd ++ fieldBytes 1 b.refs

/-- Table 5-2. -/
def Order.bytes (o : Order) : List Byte :=
  joinFields [2, 2, 1] [o.id, o.length, o.split] ++ listBytes (fieldBytes 2) o.positions ++
    joinFields [2, 1, 1, 1, 4, 4] [o.quantity, o.target.code, o.fallback.code, o.state.code, o.planned, o.delivered]

/-- The fields of R98. -/
def FinishedEntry.bytes (e : FinishedEntry) : List Byte :=
  joinFields [2, 2, 1, 4, 4, 1, 4] [e.id, e.quantity, e.target.code, e.planned, e.delivered, e.outcome.code, e.shift]

def cutParameterBytes (p : CutParameters) : List Byte :=
  joinFields cutWidths [p.minCull, p.maxCull, p.clearance, p.guard, p.overdue]

def Cut.bytes (c : Cut) : List Byte := joinFields [4, 6, 1] [c.id, c.pos, c.state.code]

def Piece.bytes (p : Piece) : List Byte := joinFields [2, 2, 1, 1, 2, 2] [p.xStart, p.xEnd, p.grade.code, p.dest, p.flaws, p.permille]

/-- Table 6-8. -/
def PlateRecord.bytes (r : PlateRecord) : List Byte :=
  joinFields [4, 1] [r.id, r.kind.code] ++ optBytes (fieldBytes 2) r.order ++ joinFields [6, 6, 2] [r.yStart, r.yEnd, r.version] ++
    listBytes Piece.bytes r.pieces ++ fieldBytes 1 r.grade.code ++ flagBytes r.forced ++ fieldBytes 1 r.state.code ++ r.cut.bytes ++
    fieldBytes 1 r.rejectDest ++ fieldBytes 2 r.flawRefs.length ++ r.flawRefs.flatMap (fieldBytes 4) ++ listBytes (fieldBytes 4) r.blindRefs ++
    optBytes (fieldBytes 4) r.absorbedInto

def ClassLimit.bytes (l : ClassLimit) : List Byte := joinFields [2, 1, 2, 1] [l.edge.size, l.edge.count, l.core.size, l.core.count]

def limitBytes (p : PerClass ClassLimit) : List Byte := p.bubble.bytes ++ p.stone.bytes ++ p.linear.bytes ++ p.surface.bytes

/-- Table 7-2, with the widths of WRITE GRADE ROWS. The limits go grade by grade and class by class, EDGE size and count before CORE size
and count (DESIGN CHOICE, log 43). -/
def GradeTable.bytes (t : GradeTable) : List Byte :=
  limitBytes t.limitA ++ limitBytes t.limitB ++ limitBytes t.limitC ++ t.floors.bytes 2 ++ joinFields [2, 2] [t.band, t.blindLimit] ++
    t.dest.bytes 1

def capabilityBytes (c : Capability) : List Byte := joinFields [2, 2, 2, 1, 1] [c.spacing, c.lead, c.speed, c.across, c.destinations]

/-- R167: the agreement state (NONE 0, AGREED 1; log 34), then the capability in force, v_a, C_min and the lead distance, each or none. -/
def agreementBytes (a : Option Agreement) : List Byte :=
  flagBytes a.isSome ++ optBytes capabilityBytes (a.map Agreement.cap) ++ optBytes (fieldBytes 2) (a.map Agreement.speed) ++
    optBytes (fieldBytes 2) (a.map Agreement.cMin) ++ optBytes (fieldBytes 2) (a.map Agreement.lead)

/-- R105: C_min, the lead distance and the planning window, each absent if there is none. -/
def agreedParameterBytes (a : Option (Nat × Nat × Option Nat)) : List Byte :=
  optBytes (fieldBytes 2) (a.map fun p => p.1) ++ optBytes (fieldBytes 2) (a.map fun p => p.2.1) ++
    optBytes (fieldBytes 4) (a.bind fun p => p.2.2)

/-- R65: the switch line and whether it has been triggered, each absent with no switch in progress. -/
def switchingBytes (p : Option (Nat × Bool)) : List Byte :=
  optBytes (fieldBytes 6) (p.map Prod.fst) ++ optBytes flagBytes (p.map Prod.snd)

/-- A label with its length, as CLOSE SHIFT carries it. -/
def labelBytes (label : List Byte) : List Byte := listBytes (fun b => [b]) label

/-- R179: whether a close is pending, then its label and its host time, each absent if none is. -/
def pendingCloseBytes (p : Option (List Byte × Nat)) : List Byte :=
  flagBytes p.isSome ++ optBytes labelBytes (p.map Prod.fst) ++ optBytes (fieldBytes 4) (p.map Prod.snd)

/-- R84, Table 4-1: the map-full condition (CLEAR 0, OPEN 1; log 34), then its refused top, absent in CLEAR. -/
def mapFullBytes (full : Option Nat) : List Byte := flagBytes full.isSome ++ optBytes (fieldBytes 6) full

/-- Table 9-2. An area in dm², at most 18,446,744,073,709, takes 6 bytes (DESIGN CHOICE, log 34). -/
def Shift.bytes (h : Shift) : List Byte :=
  fieldBytes 4 h.seq ++ labelBytes h.label ++ fieldBytes 4 h.openTime ++ optBytes (fieldBytes 4) h.closeTime ++ fieldBytes 6 h.openY ++
    optBytes (fieldBytes 6) h.closeY ++ fieldBytes 8 h.inspected ++ h.plates.bytes 4 ++ h.pieces.bytes 4 ++ h.areas.bytes 6 ++
    joinFields [4, 6, 4, 6] [h.cullCount, h.cullArea, h.voidCount, h.voidArea] ++ h.flaws.bytes 4 ++
    joinFields [4, 4, 4, 4, 4] [h.forced, h.rejected, h.missed, h.overdue, h.class1] ++ h.laneFaults.toList.flatMap (fieldBytes 4) ++
    joinFields [4, 4, 4] [h.complete, h.short, h.withdrawn]

/-- Table 9-4. -/
def JournalEntry.bytes (e : JournalEntry) : List Byte :=
  joinFields [4, 1] [e.plate, e.kind.code] ++ optBytes (fieldBytes 2) e.order ++ joinFields [4, 2, 1] [e.length, e.version, e.grade.code] ++
    listBytes (fun g : Grade => fieldBytes 1 g.code) e.pieceGrades ++ flagBytes e.forced ++ flagBytes e.spilled ++
    optBytes (fieldBytes 4) e.chainFirst ++ optBytes (fieldBytes 4) e.joined ++ fieldBytes 4 e.shift

/-- Table 10-3. -/
def FaultRecord.bytes (r : FaultRecord) : List Byte :=
  joinFields [2, 1, 1, 6] [r.number, r.kind.code, r.kind.cls, r.items.y] ++ optBytes (fieldBytes 6) r.items.line ++
    fieldBytes 1 r.mode.code ++ optBytes (fun i : LaneId => fieldBytes 1 i.val) r.items.lane ++ optBytes (fieldBytes 4) r.items.plate ++
    optBytes (fieldBytes 4) r.items.cut ++ optBytes (fun q => fieldBytes 1 (rejectCode q)) r.items.reason ++
    optBytes (fieldBytes 2) r.items.speed ++ fieldBytes 1 r.suppressed ++ optBytes (fieldBytes 2) r.displaced ++
    optBytes (fun k : FaultKind => fieldBytes 1 k.code) r.second

/-- Table 10-1 (log 34). -/
def FaultSlot.code : FaultSlot → Nat
  | .empty => 0
  | .held _ => 1
  | .haltHeld _ => 2

def FaultSlot.record : FaultSlot → Option FaultRecord
  | .empty => none
  | .held r | .haltHeld r => some r

/-- R191: the slot state, then the record, absent in EMPTY. -/
def FaultSlot.bytes (slot : FaultSlot) : List Byte := fieldBytes 1 slot.code ++ optBytes FaultRecord.bytes slot.record

def Delayed.bytes (d : Delayed) : List Byte := joinFields [2, 2] [d.kind.code, d.tag]

/-- R210: the values of an OK reply in the order the rule names them, each that may be none or absent with its own byte before it. -/
def ReplyBody.bytes : ReplyBody → List Byte
  | .empty => []
  | .lineGeometry configured g => flagBytes configured ++ g.bytes
  | .position y line debt speed overspeed ribbon breakLevel breakMarking =>
    fieldBytes 6 y ++ optBytes (fieldBytes 6) line ++ joinFields [2, 2] [debt, speed] ++ flagBytes overspeed ++ fieldBytes 1 ribbon.code ++
      flagBytes breakLevel ++ flagBytes breakMarking
  | .lane l => l.bytes
  | .switchLine line => fieldBytes 6 line
  | .detectionSets active staged stagedFlag switching pending =>
    optBytes DetectionSet.bytes active ++ optBytes DetectionSet.bytes staged ++ flagBytes stagedFlag ++
      switchingBytes switching ++ optBytes DetectionSet.bytes pending
  | .openFlaws frontier next i fs ms =>
    joinFields [6, 4] [frontier, next] ++ listBytes (OpenFlaw.bytes i) fs ++ listBytes Mark.bytes ms
  | .flaws entries held highRaised refused full =>
    entries.bytes MapEntry.bytes ++ fieldBytes 2 held ++ flagBytes highRaised ++ fieldBytes 2 refused ++
      mapFullBytes full
  | .blind intervals held next openAll fullLabel breakLabel laneIntervals =>
    intervals.bytes Interval.bytes ++ joinFields [1, 4] [held, next] ++ optBytes (fieldBytes 4) openAll ++
      optBytes (fieldBytes 6) fullLabel ++ optBytes (fieldBytes 6) breakLabel ++ laneIntervals.flatMap (optBytes (fieldBytes 4))
  | .loaded st => fieldBytes 1 st.code
  | .orderState st => optBytes (fun o : OrderState => fieldBytes 1 o.code) st
  | .orders queue finished exhausted =>
    listBytes (fun p : Order × Nat => p.1.bytes ++ fieldBytes 1 p.2) queue ++ listBytes FinishedEntry.bytes finished ++ flagBytes exhausted
  | .cutParameters configured p agreed =>
    flagBytes configured ++ cutParameterBytes p ++ agreedParameterBytes agreed
  | .plates records planning yPrev lastCut head held nextPlate nextCut openChain =>
    records.bytes PlateRecord.bytes ++ joinFields [1, 6] [planning.code, yPrev] ++ optBytes (fieldBytes 6) lastCut ++
      optBytes Cut.bytes head ++ joinFields [1, 4, 4] [held, nextPlate, nextCut] ++ optBytes (fieldBytes 4) openChain
  | .gradeVersion version => fieldBytes 2 version
  | .gradeTables version active staged stagedFlag => fieldBytes 2 version ++ active.bytes ++ staged.bytes ++ flagBytes stagedFlag
  | .cutter ready agreement held lastDecline discarded sentCut sentResult sentHalt =>
    flagBytes ready ++ agreementBytes agreement ++ optBytes capabilityBytes held ++
      optBytes (fun r : DeclineReason => fieldBytes 1 r.code) lastDecline ++
      joinFields [2, 4, 4, 4] [discarded, sentCut, sentResult, sentHalt]
  | .shiftSeq seq => fieldBytes 4 seq
  | .shift h pending => h.bytes ++ pendingCloseBytes pending
  | .shiftReport h held => h.bytes ++ listBytes (fieldBytes 4) held
  | .journal held oldest newest entries =>
    fieldBytes 1 held ++ optBytes (fieldBytes 4) oldest ++ optBytes (fieldBytes 4) newest ++ listBytes JournalEntry.bytes entries
  | .faultNumber number => fieldBytes 2 number
  | .fault slot next => slot.bytes ++ fieldBytes 2 next
  | .headCut id pos => joinFields [4, 6] [id, pos]
  | .events set mask attn mode delayed discarded =>
    joinFields [2, 2] [set.toNat, mask.toNat] ++ flagBytes attn ++ fieldBytes 1 mode.code ++ listBytes Delayed.bytes delayed ++
      fieldBytes 2 discarded
  | .eventSet set => fieldBytes 2 set.toNat

/-! ### Reply frames (R198, Table 11-6) -/

/-- The body of a reply: its kind, its tag, the result code and the content. A body holds at most 1,024 bytes (R198); what the
widths of R210 make longer is cut there (DESIGN CHOICE, log 34). -/
def Reply.bodyBytes (r : Reply) : List Byte :=
  (joinFields [2, 2, 1] [r.kind, r.tag, r.result.code] ++ r.body.bytes).take Config.maxBody

def Reply.frame (r : Reply) : List Byte := supervisorFrame r.bodyBytes

/-! ### The three outgoing streams -/

def State.sentReplies (s : State) : List Byte := s.out.replies.flatMap Reply.frame

def State.sentRecords (s : State) : List Byte := s.out.cutter.flatMap CutterRecord.frame

def State.sentTriggers (s : State) : List Byte := s.out.triggers.flatMap Trigger.bytes

end Sys2Proof.Machine
end

