-- ==== Sys2Proof/Laws/Port.lean ====
section
/-!
SUPPORT. What a reply, a request and a delayed reply can do, said once: the provers cite these and never unfold request, answer or answerDelayed.
-/

namespace Sys2Proof.Machine

/-- The reply bit of every request kind. -/
theorem replyKind_code (k : Request) : replyKind k.code = k.code + 32768 := by cases k <;> rfl

theorem reply_eq_answered (k : Request) (tag : Nat) (r : Result) (b : ReplyBody) (s : State) :
    reply k tag r b s = s.answered k tag r b := by
  simp only [reply, sendReply, State.modOut, State.answered, replyKind_code]

theorem tagInUse_eq_true (s : State) (tag : Nat) : s.tagInUse tag = true ↔ ∃ d ∈ s.port.delayed, d.tag = tag := by
  simp [State.tagInUse, List.any_eq_true]

theorem tagInUse_eq_false (s : State) (tag : Nat) : s.tagInUse tag = false ↔ ∀ d ∈ s.port.delayed, d.tag ≠ tag := by
  simp [State.tagInUse, List.any_eq_false]

section
variable {α : Type} (k : Request) (tag : Nat) (c : Content α) (v : α) (body : α → State → Answer) (s : State)

theorem request_deaf (h : s.deaf = true) : request k tag c body s = s := by simp [request, h]

theorem request_tagInUse (hd : s.deaf = false) (ht : s.tagInUse tag = true) :
    request k tag c body s = s.answered k tag .tagInUse .empty := by simp [request, hd, ht, reply_eq_answered]

theorem request_badLength (hd : s.deaf = false) (ht : s.tagInUse tag = false) :
    request k tag (.wrongLength : Content α) body s = s.answered k tag .badLength .empty := by
  simp [request, hd, ht, reply_eq_answered]

theorem request_wrongMode (hd : s.deaf = false) (ht : s.tagInUse tag = false) (hm : takenIn k s.mode = false) :
    request k tag (.fields v) body s = s.answered k tag .wrongMode .empty := by
  simp [request, hd, ht, hm, reply_eq_answered]

theorem request_taken (hd : s.deaf = false) (ht : s.tagInUse tag = false) (hm : takenIn k s.mode = true) :
    request k tag (.fields v) body s = answer k tag s (body v s) := by
  simp [request, hd, ht, hm]

end

theorem Listens.deaf {s : State} {tag : Nat} (h : Listens s tag) : s.deaf = false := by simp [State.deaf, h.1, h.2.1]

theorem Listens.tagFree {s : State} {tag : Nat} (h : Listens s tag) : s.tagInUse tag = false :=
  (tagInUse_eq_false s tag).2 h.2.2

/-- A request that the part listens to and takes in its mode is answered as its own rule says. -/
theorem Listens.request {α : Type} {k : Request} {tag : Nat} {v : α} {body : α → State → Answer} {s : State}
    (h : Listens s tag) (hm : takenIn k s.mode = true) : request k tag (.fields v) body s = answer k tag s (body v s) :=
  request_taken k tag v body s h.deaf h.tagFree hm

@[simp] theorem answer_refuse (k : Request) (tag : Nat) (s : State) (r : Result) :
    answer k tag s (.refuse r) = s.answered k tag r .empty := reply_eq_answered ..

@[simp] theorem answer_ok (k : Request) (tag : Nat) (s t : State) (b : ReplyBody) :
    answer k tag s (.ok t b) = t.answered k tag .ok b := reply_eq_answered ..

@[simp] theorem answer_delay (k : Request) (tag : Nat) (s t : State) : answer k tag s (.delay t) = t := rfl

/-- After RESET has been taken no delayed request is answered. -/
theorem answerDelayed_resetting {k : Request} {r : Result} {b : ReplyBody} {s : State} (h : s.ctl.resetting = true) :
    answerDelayed k r b s = s := by simp [answerDelayed, h]

/-- A delayed reply: nothing without a waiting entry of the kind, else one reply with that entry's tag, and the entries of the kind leave. -/
theorem answerDelayed_none {k : Request} {r : Result} {b : ReplyBody} {s : State}
    (h : s.port.delayed.find? (fun d => d.kind == k) = none) : answerDelayed k r b s = s := by simp [answerDelayed, h]

theorem answerDelayed_some {k : Request} {r : Result} {b : ReplyBody} {s : State} {d : Delayed}
    (h0 : s.ctl.resetting = false) (h : s.port.delayed.find? (fun d => d.kind == k) = some d) :
    answerDelayed k r b s =
      { s with port := { s.port with delayed := s.port.delayed.filter fun d => d.kind != k } }.answered k d.tag r b := by
  simp [answerDelayed, h0, h, reply_eq_answered, State.modPort]

/-- Every command that is a request is its meaning wrapped in the checks of R197. -/
theorem exec_request (c : Instr) (k : Request) (tag : Nat) (ok : Bool) (s : State) (h : requestOf c = some (k, tag, ok)) :
    ∃ (α : Type) (cont : Content α) (body : α → State → Answer),
      rightLength cont = ok ∧ exec c s = .next (request k tag cont body s) := by
  cases c <;> simp only [requestOf, Option.some.injEq, Prod.mk.injEq, reduceCtorEq] at h <;>
    obtain ⟨rfl, rfl, rfl⟩ := h <;> exact ⟨_, _, _, rfl, rfl⟩

/-- R198: every reply fits in a body of 1,024 bytes. -/
theorem Reply.bodyBytes_length (r : Reply) : r.bodyBytes.length ≤ 1024 := List.length_take_le ..

end Sys2Proof.Machine
end

