-- ==== Sys2Proof/Tests/Slice0.lean ====
section
/-!
SUPPORT. The model against the manual: the well-formedness smoke test, the frames of section 11.6, and the worked examples and tables of the
chapters. Each test names where its expected value comes from.
-/

namespace Sys2Proof.Tests

open Sys2Proof.Machine

/-- The state after a command. -/
def after (c : Instr) (s : State) : State :=
  match exec c s with
  | .next t => t
  | .fault _ | .refused _ => s

/-- The line of the worked examples: L = 4, D_gc = 120,000, net width 2,000 to 34,000, line max speed 700, break action MARK. -/
def exampleGeometry : LineGeometry := ⟨25000, 4, 120000, 2000, 34000, 700, 10, .mark⟩

/-- IDLE with the line geometry written. -/
def idle : State := { State.reset with pos := { State.reset.pos with geometry := exampleGeometry, configured := true } }

/-! ### Chapter 1 -/

/-- Table 1-3, pulse 3: remainder 20,000 to 5,000 and Y advances by 1. -/
theorem test_forward_pulse :
    let t := after (.encoderStateChange true false false) { idle with pos := { idle.pos with rem := 20000, y := 7 } }
    (t.pos.rem, t.pos.y) = (5000, 8) := by decide

/-- Table 1-4, row 1. -/
theorem test_reverse_pulse :
    let t := after (.encoderStateChange false true false) { idle with pos := { idle.pos with rem := 5000, y := 1000 } }
    (t.pos.debt, t.pos.rem, t.pos.y) = (1, 5000, 1000) := by decide

/-- Table 1-4, row 4. -/
theorem test_debt_repaid_first :
    let t := after (.encoderStateChange true false false) { idle with pos := { idle.pos with rem := 5000, debt := 3, y := 1000 } }
    (t.pos.debt, t.pos.rem, t.pos.y) = (2, 5000, 1000) := by decide

def threeSlots : DetectionSet :=
  ⟨[⟨.bright, 120, 0, 4095⟩, ⟨.dark, 120, 0, 4095⟩, ⟨.oblique, 120, 0, 4095⟩], 1, 3, 2000, 8, 250⟩

/-- INSPECT with a set in force. -/
def inspect (d : DetectionSet) : State :=
  { idle with port := { idle.port with mode := .inspect }, tracker := { idle.tracker with active := some d } }

/-- Table 1-5: at Y = 262,148 line 65,537 is triggered as line 1 with slot 2. -/
theorem test_trigger_word :
    let s := inspect threeSlots
    let t := after (.encoderStateChange true false false) { s with pos := { s.pos with y := 262147, rem := 20000 } }
    (t.out.triggers, t.pos.lastLine) = ([⟨1, 2⟩], some 65537) := by decide

/-- The capability of the second row of Table 8-5 and its agreement. -/
def goodCapability : Capability := ⟨1200, 800, 750, 4, 12⟩
def goodAgreement : Agreement := ⟨goodCapability, 700, 1500, 5600⟩

/-- PRODUCE with that agreement. -/
def produce : State :=
  { inspect threeSlots with
    port := { idle.port with mode := .produce },
    planner := { idle.planner with params := ⟨1500, 10000, 50, 2000, 4000⟩, configured := true, planning := .ready },
    cutter := { idle.cutter with agreement := some goodAgreement, ready := true } }

/-- Table 1-6, window 2. -/
theorem test_overspeed_opens :
    let t := after .speedWindow { produce with pos := { produce.pos with windowCount := 705 } }
    (t.pos.speed, t.pos.overspeed, t.fault.slot.number) = (705, true, some 1) := by decide

/-- Table 1-6, window 4: the agreed speed itself is no overspeed. -/
theorem test_overspeed_closes :
    let t := after .speedWindow { produce with pos := { produce.pos with windowCount := 700, overspeed := true } }
    (t.pos.overspeed, t.fault.slot.number) = (false, none) := by decide

/-- Table 1-7, row 1. -/
theorem test_break_opens :
    let t := after (.breakAsserted false) { produce with pos := { produce.pos with lastLine := some 5000, y := 20002 } }
    (t.pos.breakMarking, t.map.blind) = (true, [⟨1, .breakReason, none, 2000, 34000, 20004, none, 0⟩]) := by decide

/-- Table 1-7, last row. -/
theorem test_break_clears :
    let s := { produce with pos := { produce.pos with lastLine := some 5300, y := 21201, breakMarking := true, breakLevel := true },
                            map := { produce.map with blind := [⟨1, .breakReason, none, 2000, 34000, 20004, none, 0⟩] } }
    let t := after .breakCleared s
    (t.pos.breakMarking, t.map.blind) = (false, [⟨1, .breakReason, none, 2000, 34000, 20004, some 21204, 0⟩]) := by decide

/-! ### Chapter 2 -/

/-- The spans of Table 2-3. -/
def exampleSpans : List Span :=
  [⟨1900, 6300⟩, ⟨6200, 10400⟩, ⟨10350, 14550⟩, ⟨14450, 18650⟩, ⟨18550, 22750⟩, ⟨22650, 26850⟩, ⟨26750, 30950⟩, ⟨30850, 35050⟩]

/-- Table 2-3, column owned span. -/
theorem test_owned_spans :
    ownFrom none exampleSpans =
      [⟨1900, 6250⟩, ⟨6250, 10375⟩, ⟨10375, 14500⟩, ⟨14500, 18600⟩, ⟨18600, 22700⟩, ⟨22700, 26800⟩, ⟨26800, 30900⟩,
       ⟨30900, 35050⟩] := by decide

/-- The text after Table 2-3: without lane 3 the cover ends at 14,550. -/
theorem test_coverage_gap :
    coverFrom 2000 (ownFrom none (exampleSpans.take 3 ++ exampleSpans.drop 4)) = 14550 := by decide

/-- Table 2-4 and the text after it. -/
theorem test_contrast :
    let ring := [2100, 2104, 2096, 2100, 2098, 2102, 2100, 2100]
    (contrastOf 64 ring 1650, contrastOf 64 ring 2400, contrastOf 64 ring 2150, contrastOf 64 ring 4095,
      contrastOf 64 (List.replicate 8 70) 100) = (221, 147, 24, 999, 999) := by decide

def twoSlots : DetectionSet := ⟨[⟨.bright, 120, 1000, 3000⟩, ⟨.dark, 120, 0, 3000⟩], 1, 3, 2000, 8, 250⟩

/-- Lane 3 of Table 2-3. -/
def lane3 : Lane :=
  { Lane.initial with geometry := ⟨14450, 1, 4200, 1⟩, configured := true, owned := some ⟨14500, 18600⟩ }

def withLane3 (l : Lane) (s : State) : State := s.modLane 3 fun _ => l

/-- Table 2-5, row "digest 15; K is 40": ACTIVE, acceptance label 64, interval closed at 64. -/
theorem test_lane_settles :
    let l := { lane3 with state := .settling, rings := ⟨List.replicate 8 2100, List.replicate 7 100, []⟩, expected := 15,
                          lastProcessed := some 14, interval := some 1 }
    let s := withLane3 l { inspect twoSlots with
      pos := { idle.pos with lastLine := some 15, y := 60 },
      tracker := { (inspect twoSlots).tracker with frontier := 40 },
      map := { idle.map with blind := [⟨1, .settling, some 3, 14500, 18600, 0, none, 0⟩], nextId := 2 } }
    let t := after (.gantryDigest 3 ⟨15, 1, false, false, 100, []⟩) s
    ((t.lane 3).state, (t.lane 3).acceptance, (t.lane 3).interval, t.map.blind, (t.lane 3).expected) =
      (.active, 64, none, [⟨1, .settling, some 3, 14500, 18600, 0, some 64, 0⟩], 16) := by decide

/-- Lane 3 in ACTIVE at line 2,000 of Table 2-5. -/
def activeLane3 : State :=
  withLane3 { lane3 with state := .active, rings := ⟨List.replicate 8 2100, List.replicate 8 100, []⟩, expected := 2000,
                         lastProcessed := some 1999, acceptance := 64 }
    { inspect twoSlots with pos := { idle.pos with lastLine := some 2000, y := 8000 } }

/-- Table 2-5, row "digest 2,000 with HEAD FAULT". -/
theorem test_head_fault :
    let t := after (.gantryDigest 3 ⟨2000, 0, true, false, 2100, []⟩) activeLane3
    ((t.lane 3).state, (t.lane 3).expected, t.map.blind, t.fault.slot.number) =
      (.faulted, 2000, [⟨1, .faulted, some 3, 14500, 18600, 8000, none, 0⟩], some 1) := by decide

/-- Table 2-5, row "START LANE; last triggered line 2,500". -/
theorem test_start_lane :
    let s := withLane3 { lane3 with state := .faulted, expected := 2000, acceptance := 64, interval := some 1 }
      { inspect twoSlots with
        pos := { idle.pos with lastLine := some 2500 },
        map := { idle.map with blind := [⟨1, .faulted, some 3, 14500, 18600, 8000, none, 0⟩] } }
    let t := after (.startLane 5 (.fields 3)) s
    ((t.lane 3).state, (t.lane 3).expected, t.map.blind) =
      (.settling, 2501, [⟨1, .settling, some 3, 14500, 18600, 8000, none, 0⟩]) := by decide

/-- Lane 3 at line 2,000 of a set whose OBLIQUE views the switch at line 2,001 has dropped. -/
def lateOblique : State :=
  { activeLane3 with
    pos := { activeLane3.pos with lastLine := some 2001 },
    tracker := { activeLane3.tracker with apply := .switched 2001, outgoing := some ⟨[⟨.oblique, 120, 0, 3000⟩], 1, 3, 2000, 8, 250⟩ } }

/-- R35, R41: its sample and its runs are lost, its overflow flag makes the lane CROWDED. -/
theorem test_overflow_of_a_dropped_kind :
    let t := after (.gantryDigest 3 ⟨2000, 0, false, true, 100, [⟨7, 9, 3000, .bright⟩]⟩) lateOblique
    ((t.lane 3).state, (t.lane 3).rings.oblique, (t.table 3).flaws, (t.lane 3).expected) = (.crowded, [], [], 2001) := by decide

/-- R62: the trigger for the switch line makes the switch itself, so a HALT LINE taken next finds it made. -/
theorem test_switch_at_its_trigger :
    let s := { inspect twoSlots with
      pos := { idle.pos with y := 8003, rem := 15000, lastLine := some 2000 },
      port := { (inspect twoSlots).port with delayed := [⟨.applyDetection, 5⟩] },
      tracker := { (inspect twoSlots).tracker with apply := .waiting threeSlots 2001 } }
    let t := after (.encoderStateChange true false false) s
    (t.out.triggers, t.tracker.apply, t.out.replies) = ([⟨2001, 0⟩], .switched 2001, [⟨32801, 5, .ok, .switchLine 2001⟩]) := by decide

/-- R61, R63: with the trigger for the line after it the next APPLY DETECTION is not refused with STAGE BUSY. -/
theorem test_switch_over_at_the_next_trigger :
    let s := { inspect twoSlots with
      pos := { idle.pos with y := 8007, rem := 15000, lastLine := some 2001 },
      tracker := { (inspect twoSlots).tracker with apply := .switched 2001 } }
    let t := after (.encoderStateChange true false false) s
    (t.pos.lastLine, t.tracker.apply) = (some 2002, .none) := by decide

/-- R25: a digest two lines late is the loss of the expected one. -/
theorem test_lost_digest :
    let t := after (.gantryDigest 3 ⟨2001, 1, false, false, 100, []⟩) { activeLane3 with pos := { activeLane3.pos with lastLine := some 2001 } }
    ((t.lane 3).state, t.fault.slot.number, t.report.shift.class1) = (.faulted, some 1, 1) := by decide

/-! ### Chapter 3 -/

/-- Table 3-4. -/
theorem test_classes :
    let f (v : Views) (dark : Bool) (peak : Nat) : OpenFlaw := ⟨1, 0, 0, 0, 0, 0, 0, peak, v, dark, false, none⟩
    [classify twoSlots (f ⟨false, false, true⟩ false 140) 160 12, classify twoSlots (f ⟨true, false, true⟩ false 180) 400 40,
     classify twoSlots (f ⟨true, true, false⟩ true 310) 60 52, classify twoSlots (f ⟨true, true, false⟩ true 200) 60 52] =
      [.surface, .linear, .stone, .bubble] := by decide

/-- Lane 5 of Table 3-5. -/
def lane5 : State :=
  { inspect twoSlots with pos := { idle.pos with lastLine := some 10500 } }.modLane 5 fun _ =>
    { Lane.initial with geometry := ⟨22650, 1, 4200, 1⟩, configured := true, state := .active }

def streak : OpenFlaw := ⟨7001, 10000, 10349, 1200, 1202, 1201, 1202, 240, ⟨true, true, false⟩, false, false, none⟩
def spot : OpenFlaw := ⟨7040, 10340, 10349, 1204, 1209, 1204, 1207, 310, ⟨true, true, false⟩, true, false, none⟩

/-- Table 3-5, line 10,350: the run merges both flaws into 7,001. -/
theorem test_merge :
    let s := lane5.modTable 5 fun _ => ⟨[streak, spot], []⟩
    ((handRun twoSlots 5 ⟨10350, 1202, 1204, 260, .bright, .bright, false⟩ s).1.table 5).flaws =
      [⟨7001, 10000, 10350, 1200, 1209, 1202, 1204, 310, ⟨true, true, false⟩, true, false, none⟩] := by decide

/-- Table 3-5, length check at line 10,499, and the hull of 7,001 given below the table. -/
theorem test_length_check :
    let f : OpenFlaw := ⟨7001, 10000, 10499, 1200, 1209, 1200, 1201, 310, ⟨true, true, false⟩, true, false, none⟩
    let t := trackerWork 10499 5 (lane5.modTable 5 fun _ => ⟨[f], []⟩)
    (t.table 5, t.map.entries) =
      (⟨[], [⟨7001, 10499, 1200, 1201⟩]⟩,
       [⟨7001, [5], 40000, 41999, 23850, 23859, .linear, 2000, 310, ⟨true, true, false⟩,
         ⟨true, false, false, false, false, false⟩, none, 0⟩]) := by decide

/-- Table 3-5, line 10,500: the run starts the successor of the mark. -/
theorem test_successor :
    let s := { lane5 with tracker := { lane5.tracker with nextId := 7046 } }.modTable 5 fun _ => ⟨[], [⟨7001, 10499, 1200, 1201⟩]⟩
    (handRun twoSlots 5 ⟨10500, 1200, 1201, 200, .bright, .bright, false⟩ s).1.table 5 =
      ⟨[⟨7046, 10500, 10500, 1200, 1201, 1200, 1201, 200, ⟨true, false, false⟩, false, false, some 7001⟩], []⟩ := by decide

/-! ### Chapter 4 -/

def noFlags : FlawFlags := ⟨false, false, false, false, false, false⟩
def stone9118 : MapEntry :=
  ⟨9118, [4], 60004, 60083, 18600, 18690, .stone, 91, 310, ⟨true, true, false⟩, noFlags, none, 0⟩
def bubble9120 : MapEntry :=
  ⟨9120, [3], 60000, 60079, 18590, 18640, .bubble, 80, 170, ⟨true, false, false⟩, noFlags, none, 0⟩

/-- Lanes 3 and 4 of Table 2-3. -/
def seamState : State :=
  (withLane3 lane3 (inspect twoSlots)).modLane 4 fun _ => { lane3 with geometry := ⟨18550, 1, 4200, 1⟩ }

/-- Table 4-3, row 1. -/
theorem test_seam_merge :
    (mapInsert twoSlots 3 bubble9120 { seamState with map := { idle.map with entries := [stone9118] } }).map.entries =
      [⟨9118, [3, 4], 60000, 60083, 18590, 18690, .stone, 101, 310, ⟨true, true, false⟩,
        { noFlags with merged := true }, none, 0⟩] := by decide

/-- Table 4-3, row 3: the candidate is referenced. -/
theorem test_seam_flag :
    (mapInsert twoSlots 3 bubble9120 { seamState with map := { idle.map with entries := [{ stone9118 with refs := 1 }] } }).map.entries =
      [{ bubble9120 with flags := { noFlags with seam := true } }, { stone9118 with refs := 1 }] := by decide

/-- Table 4-5, "lane 0 completes its work for line 30,250". -/
theorem test_map_full_end :
    let s := { produce with
      map := { idle.map with blind := [⟨205, .mapFull, none, 2000, 34000, 120360, none, 0⟩], full := some 121200, fullEnd := some 30250 } }
    let t := after .mapFullEnd s
    (t.map.full, t.map.blind) = (none, [⟨205, .mapFull, none, 2000, 34000, 120360, some 121200, 0⟩]) := by decide

/-- R75: a refused flaw is covered from the Y end of the ALL interval closed latest, not from the largest. -/
theorem test_refused_flaw_after_two_closings :
    let all (id y : Nat) : Interval := ⟨id, .mapFull, none, 2000, 34000, 0, some y, 0⟩
    { idle with map := { idle.map with nextId := 4, blind := [all 2 70000, all 3 61000] } }.lastAllEnd = 61000 := by decide

/-- R77, R80: with no ALL interval held, nothing closes and the label stays recorded. -/
theorem test_label_without_interval :
    let s := { produce with map := { idle.map with full := some 121200, fullEnd := some 30250 } }
    (after .mapFullEnd s).map.fullLabel = some 121200 := by decide

/-- R76: the count falls to 896 or fewer at a retirement. -/
theorem test_room_after_retirement :
    let s := { inspect twoSlots with
      pos := { idle.pos with y := 180083 }, map := { idle.map with entries := [stone9118], full := some 9, testDue := true } }
    (after .mapRetirement s).map.room = true := by decide

/-- R83: an entry retires once Y reaches its Y_last + D_gc. -/
theorem test_retirement :
    let s := { inspect twoSlots with
      pos := { idle.pos with y := 180083 }, map := { idle.map with entries := [stone9118], testDue := true } }
    let t := after .mapRetirement s
    (t.map.entries, t.report.shift.flaws.stone) = ([], 1) := by decide

/-! ### Chapters 5 and 8 -/

def order (id length split quantity planned delivered : Nat) (positions : List Nat) (st : OrderState) : Order :=
  ⟨id, length, split, positions, quantity, .a, .take, st, planned, delivered⟩

/-- Table 5-4, last row: delivered good 2 is below Q = 3. -/
theorem test_order_short : (order 41 24000 1 3 2 2 [] .ending).outcome = .short := by decide

/-- Tables 8-6 and 8-7: the re-agreement ends order 70, withdraws 71 and activates 72. -/
theorem test_reagreement :
    let rec' : PlateRecord :=
      ⟨1, .plate, some 70, 0, 24000, 7, [], .a, false, .committed, ⟨1, 24000, .sent⟩, 9, [], [], none, true⟩
    let s := { produce with
      orders := ⟨[order 70 24000 3 200 143 0 [10000, 20000] .active, order 71 6500 1 50 0 0 [] .queued,
                  order 72 30000 2 80 0 0 [18000] .queued], [], false⟩,
      planner := { produce.planner with table := [rec'] },
      grader := { idle.grader with active := { GradeTable.zero with dest := ⟨3, 4, 5, 8, 9⟩ } } }
    let t := after (.capability ⟨7000, 1000, 650, 2, 12⟩ false) s
    (t.orders.queue.map fun o => (o.id, o.state), t.orders.finished.map fun f => (f.id, f.outcome),
      t.cutter.agreement.map fun a => (a.speed, a.cMin, a.lead)) =
      ([(70, .ending), (72, .active)], [(71, .withdrawn)], some (650, 7000, 6500)) := by decide

/-- INSPECT with the settings of Table 8-5. -/
def linked : State :=
  { inspect threeSlots with
    planner := { idle.planner with params := ⟨1500, 10000, 50, 2000, 4000⟩, configured := true },
    grader := { idle.grader with active := { GradeTable.zero with dest := ⟨3, 4, 5, 8, 9⟩ }, version := 7 },
    cutter := { idle.cutter with ready := true } }

/-- Table 8-5, row 1. -/
theorem test_decline_destinations :
    let t := after (.capability ⟨1200, 800, 750, 4, 8⟩ false) linked
    (t.cutter.agreement, t.cutter.lastDecline, t.out.cutter, t.port.events) =
      (none, some .destinations, [.decline .destinations 700 1500 5600], 0#16) := by decide

/-- Table 8-5, row 2. -/
theorem test_agree :
    let t := after (.capability goodCapability false) linked
    (t.cutter.agreement, t.out.cutter, t.latched .agreementChanged) =
      (some goodAgreement, [.agree 700 1500 5600 4 12], true) := by decide

/-- Table 8-5, row 3. -/
theorem test_decline_min_cull :
    let t := after (.capability ⟨12000, 800, 750, 4, 12⟩ false) { linked with cutter := { linked.cutter with agreement := some goodAgreement } }
    (t.cutter.agreement, t.cutter.lastDecline, t.latched .agreementChanged) = (none, some .minCull, true) := by decide

/-! ### Chapter 6 -/

/-- Table 6-4, row 2. -/
theorem test_head_cut :
    let s := { linked with pos := { linked.pos with y := 400001 }, cutter := { linked.cutter with agreement := some goodAgreement } }
    let t := after (.startProduction 4 (.fields ())) s
    (t.planner.head, t.planner.yPrev, t.out.cutter) =
      (some ⟨⟨1, 287604, .sent⟩, true⟩, 287604, [.cut 1 287604 7603 0]) := by decide

/-- A map entry in the middle of the net width (Table 6-5). -/
def flawAt (id : Nat) (cls : FlawClass) (y0 y1 size : Nat) : MapEntry :=
  ⟨id, [3], y0, y1, 18000, 18010, cls, size, 300, ⟨true, false, false⟩, noFlags, none, 0⟩

/-- Grade A: no STONE, BUBBLE of size up to 80 and a count of at most 2. -/
def planTable : GradeTable :=
  { GradeTable.zero with
    limitA := { PerClass.fill ⟨⟨65535, 255⟩, ⟨65535, 255⟩⟩ with bubble := ⟨⟨80, 2⟩, ⟨80, 2⟩⟩, stone := ⟨⟨0, 255⟩, ⟨0, 255⟩⟩ },
    limitB := PerClass.fill ⟨⟨65535, 255⟩, ⟨65535, 255⟩⟩ }

/-- The state of the worked plan (section 6.5). -/
def planState : State :=
  { produce with
    planner := { produce.planner with params := ⟨1500, 6000, 50, 2000, 4000⟩, yPrev := 1000000, nextPlate := 87, nextCut := 95,
                                      head := some ⟨⟨94, 1000000, .sent⟩, true⟩ },
    tracker := { produce.tracker with frontier := 1030004 },
    grader := { idle.grader with active := planTable, version := 1 },
    orders := ⟨[order 50 24000 1 0 0 0 [] .active], [], false⟩,
    map := { idle.map with entries := [flawAt 1 .stone 1003200 1003260 60, flawAt 2 .bubble 1004900 1005000 100,
                                       flawAt 3 .bubble 1027800 1027840 40] } }

/-- Table 6-6, the candidates. -/
theorem test_candidates : planState.candidates = [0, 1500, 3311, 5051] := by decide

/-- Table 6-7. -/
theorem test_normal_plan :
    let t := after .normalPlan planState
    (t.planner.table.map fun r => (r.id, r.kind, r.grade, r.flawRefs, r.cut)) =
        [(87, .cull, .x, [1, 2], ⟨95, 1005051, .sent⟩), (88, .plate, .a, [3], ⟨96, 1029051, .sent⟩)] ∧
      t.planner.yPrev = 1029051 ∧ t.orders.queue.map Order.planned = [1] := by decide

/-- The records of Table 6-10. -/
def plateRecord (id : Nat) (kind : RecordKind) (y0 y1 : Nat) (g : Grade) (cut : Nat) (st : CutState) (counted : Bool) : PlateRecord :=
  ⟨id, kind, if kind = .plate then some 50 else none, y0, y1, 1, [⟨2000, 34000, g, 3, 0, 0⟩], g, false,
    if st = .accepted then .accepted else .committed, ⟨cut, y1, st⟩, 9, [], [], none, counted⟩

def spillState : State :=
  { produce with
    planner := { produce.planner with
      head := some ⟨⟨300, 2000000, .done⟩, true⟩,
      table := [plateRecord 201 .plate 2000000 2024000 .a 301 .accepted true, plateRecord 202 .cull 2024000 2027500 .x 302 .accepted false,
                plateRecord 203 .plate 2027500 2051500 .a 303 .accepted true, plateRecord 204 .plate 2051500 2075500 .a 304 .sent true] },
    orders := ⟨[order 50 24000 1 0 10 7 [] .active], [], false⟩ }

/-- Table 6-11, row 1. -/
theorem test_plate_retires :
    let t := after (.cutDone 301) spillState
    (t.planner.table.map PlateRecord.id, t.planner.head.map HeadCut.cut, t.orders.queue.map fun o => (o.planned, o.delivered)) =
      ([202, 203, 204], some ⟨301, 2024000, .done⟩, [(10, 8)]) := by decide

/-- Table 6-11, row 2. -/
theorem test_spill :
    let t := after (.cutReject 302 .spacing) (after (.cutDone 301) spillState)
    (t.planner.table.map fun r => (r.id, r.state, r.absorbedInto, r.grade), t.orders.queue.map Order.planned, t.report.shift.rejected) =
      ([(202, .spilled, none, .x), (203, .accepted, some 202, .x), (204, .committed, none, .a)], [9], 1) := by decide

/-- Table 6-11 and the text below it: cut 304 made before 303 is answered retires the chain of length 51,500. -/
theorem test_chain_retires :
    let t := after (.cutDone 304) (after (.cutReject 302 .spacing) (after (.cutDone 301) spillState))
    (t.planner.table, t.out.cutter.drop 1, t.orders.queue.map fun o => (o.planned, o.delivered), t.report.journal.map JournalEntry.joined) =
      ([], [.plateResult 202 .cull 51500 [⟨2000, 34000, .x, 9⟩]], [(8, 8)], [none, some 51500, some 51500, some 51500]) := by decide

/-! ### Chapter 7 -/

/-- Table 7-4 with its floors, band, blind limit and destinations. -/
def version7 : GradeTable :=
  { limitA := { PerClass.fill ⟨⟨65535, 255⟩, ⟨65535, 255⟩⟩ with bubble := ⟨⟨100, 2⟩, ⟨80, 1⟩⟩, stone := ⟨⟨0, 0⟩, ⟨0, 0⟩⟩ },
    limitB := { PerClass.fill ⟨⟨65535, 255⟩, ⟨65535, 255⟩⟩ with bubble := ⟨⟨150, 3⟩, ⟨120, 3⟩⟩, stone := ⟨⟨0, 0⟩, ⟨50, 1⟩⟩ },
    limitC := PerClass.fill ⟨⟨65535, 255⟩, ⟨65535, 255⟩⟩, floors := ⟨20, 0, 0, 0⟩, band := 500, blindLimit := 20, dest := ⟨3, 4, 5, 8, 9⟩ }

def entryAt (id : Nat) (cls : FlawClass) (x0 x1 y0 y1 size : Nat) : MapEntry :=
  ⟨id, [3], y0, y1, x0, x1, cls, size, 300, ⟨true, false, false⟩, noFlags, none, 0⟩

/-- The map of Table 7-5 and lane 3's interval. -/
def gradeState : State :=
  { produce with
    tracker := { produce.tracker with frontier := 3020000 },
    grader := { idle.grader with active := version7, version := 7 },
    map := { idle.map with
      entries := [entryAt 1 .bubble 2200 2259 3005000 3005040 60, entryAt 3 .stone 25000 25030 3010000 3010029 31,
                  entryAt 2 .bubble 17950 18029 3012000 3012039 80, entryAt 4 .bubble 30000 30011 3015000 3015009 12],
      blind := [⟨9, .faulted, some 3, 14500, 18600, 3022800, none, 0⟩] } }

def order60 : Order := order 60 24000 2 0 0 0 [18000] .active

/-- Tables 7-6 and 7-7. -/
theorem test_grades :
    gradeState.gradePieces (some order60) false ⟨3000000, 3024000⟩ =
      [⟨2000, 18000, .a, 3, 2, 11⟩, ⟨18000, 34000, .b, 4, 2, 2⟩] := by decide

/-- "The same plate as a forced plan". -/
theorem test_forced_grades :
    gradeState.gradePieces (some order60) true ⟨3000000, 3024000⟩ =
      [⟨2000, 18000, .u, 8, 2, 167⟩, ⟨18000, 34000, .u, 8, 2, 167⟩] := by decide

/-! ### Chapter 9 -/

/-- Table 9-3: plate 310 in the old shift, then the close. -/
theorem test_close_at_cut :
    let r : PlateRecord := ⟨310, .plate, some 80, 3000000, 3024000, 7, [⟨2000, 18000, .a, 3, 0, 0⟩, ⟨18000, 34000, .b, 4, 0, 0⟩],
      .b, false, .accepted, ⟨400, 3024000, .accepted⟩, 9, [44901], [], none, false⟩
    let s := { produce with
      pos := { produce.pos with y := 3200000 },
      planner := { produce.planner with table := [r], yPrev := 3024000 },
      orders := ⟨[order 80 24000 2 0 0 0 [18000] .ending], [], false⟩,
      map := { idle.map with entries := [{ entryAt 44901 .bubble 9000 9010 3001000 3001010 11 with refs := 1 }] },
      port := { produce.port with delayed := [⟨.closeShift, 21⟩] },
      report := { idle.report with shift := { idle.report.shift with seq := 12 }, pendingClose := some ⟨[], 7200100, 21⟩ } }
    let t := after (.cutDone 400) s
    (t.report.store.map fun h => (h.seq, h.plates.b, h.areas.b, h.flaws.bubble, h.complete)) = [(12, 1, 384000000, 1, 1)] ∧
      t.report.shift.seq = 13 ∧ t.out.replies = [⟨32896, 21, .ok, .shiftSeq 12⟩] ∧ t.port.delayed = [] := by decide

/-- R210: each value that may be none or absent has its own byte (R167, R105, R65, R179, R84). -/
theorem test_presence_bytes :
    agreementBytes none = [0, 0, 0, 0, 0] ∧
    agreementBytes (some ⟨⟨1200, 800, 750, 4, 12⟩, 700, 1500, 5600⟩) =
      [1, 1, 0x04, 0xB0, 0x03, 0x20, 0x02, 0xEE, 4, 12, 1, 0x02, 0xBC, 1, 0x05, 0xDC, 1, 0x15, 0xE0] ∧
    agreedParameterBytes none = [0, 0, 0] ∧ agreedParameterBytes (some (1500, 5600, none)) = [1, 0x05, 0xDC, 1, 0x15, 0xE0, 0] ∧
    switchingBytes none = [0, 0] ∧ switchingBytes (some (258, true)) = [1, 0, 0, 0, 0, 1, 2, 1, 1] ∧
    pendingCloseBytes none = [0, 0, 0] ∧ pendingCloseBytes (some ([0x41], 5)) = [1, 1, 1, 0x41, 1, 0, 0, 0, 5] ∧
    mapFullBytes none = [0, 0] ∧ mapFullBytes (some 258) = [1, 1, 0, 0, 0, 0, 1, 2] := by decide

/-! ### Chapter 10 -/

def rejectFault : FaultRecord :=
  ⟨37, .cutReject, ⟨2100000, some 525000, none, some 398, some 412, some .late, none⟩, .produce, 1, none, none⟩

/-- Table 10-6, row 3: CUTTER LOST displaces 37 and halts the line. -/
theorem test_halt :
    let s := { produce with fault := ⟨.held rejectFault, 38, none⟩, pos := { produce.pos with y := 2100950, lastLine := some 525237 } }
    let t := after (.cutterReadyCleared false) s
    (t.port.mode, t.fault.slot, t.fault.nextNumber, t.out.cutter) =
      (.halted, .haltHeld ⟨38, .cutterLost, ⟨2100950, some 525237, none, none, none, none, none⟩, .produce, 0, some 37, none⟩, 39,
        [.cutterHalt]) := by decide

/-- R158, R156: the clearing has made the agreement NONE, so a late capability is declined with no second fault. -/
theorem test_late_capability_after_clearing :
    let t := after (.capability goodCapability true) (after (.cutterReadyCleared false) produce)
    (t.port.mode, t.cutter.lastDecline, t.fault.slot.record.bind FaultRecord.second) = (.halted, some .notReady, none) := by decide

/-- The halted line of Table 10-6. -/
def halted : State :=
  { produce with
    port := { produce.port with mode := .halted },
    pos := { produce.pos with geometry := { exampleGeometry with breakAction := .halt } },
    fault := ⟨.haltHeld ⟨38, .cutterLost, ⟨2100950, some 525237, none, none, none, none, none⟩, .produce, 0, some 37, none⟩, 39,
      some ⟨.produce, false, false⟩⟩ }

/-- Table 10-6, row 4: BREAK taken before the change to HALTED. -/
theorem test_escalation :
    let t := after (.breakAsserted true) halted
    (t.port.mode, t.fault.slot, t.fault.nextNumber) =
      (.idle, .held ⟨38, .cutterLost, ⟨2100950, some 525237, none, none, none, none, none⟩, .produce, 0, some 37, some .ribbonBreak⟩, 39)
      := by decide

/-- The text after Table 10-6: taken after the change, BREAK changes only its level. -/
theorem test_break_in_halted :
    let t := after (.breakAsserted false) halted
    (t.port.mode, t.fault, t.pos.breakLevel) = (.halted, halted.fault, true) := by decide

/-- Table 10-6, row 7. -/
theorem test_fault_mismatch :
    (after (.clearFault 3 (.fields 37)) halted).out.replies = [⟨32914, 3, .faultMismatch, .empty⟩] := by decide

/-! ### Chapter 11 -/

/-- Table 11-2, row 2: a tag in use refuses the request whatever its kind. -/
theorem test_tag_in_use :
    let s := { produce with port := { produce.port with delayed := [⟨.applyDetection, 20⟩] } }
    (after (.readPosition 20 (.fields ())) s).out.replies = [⟨32771, 20, .tagInUse, .empty⟩] := by decide

/-- Table 11-2, row 1: with 90,001 the last triggered line, s is 90,002. -/
theorem test_switch_line : switchLine 2 90001 = 90002 := by decide

/-! ### Frames (R209, Tables 11-6, 11-8, 11-11, 11-12, 11-14; the checks computed by hand outside the model) -/

set_option maxRecDepth 20000 in
/-- The known check of the ASCII digits 1 to 9 under the generator and preset of R209. -/
theorem test_frame_check : frameCheck [0x31, 0x32, 0x33, 0x34, 0x35, 0x36, 0x37, 0x38, 0x39] = 0x29B1#16 := by decide

set_option maxRecDepth 20000 in
/-- READ POSITION (kind 3) with tag 7. -/
theorem test_frame_read_position :
    supervisorCommand [0xA5, 0x00, 0x04, 0x00, 0x03, 0x00, 0x07, 0xAE, 0xA1] = some (.readPosition 7 (.fields ())) := by decide

set_option maxRecDepth 20000 in
/-- CLEAR FAULT (kind 146) with tag 9 and fault number 38. -/
theorem test_frame_clear_fault :
    supervisorCommand [0xA5, 0x00, 0x06, 0x00, 0x92, 0x00, 0x09, 0x00, 0x26, 0x28, 0x27] = some (.clearFault 9 (.fields 38)) := by decide

set_option maxRecDepth 20000 in
/-- LOAD ORDER (kind 64) with tag 5: order 60, Lp 24,000, S 2, Q 3, target A, TAKE, one split position 18,000. -/
theorem test_frame_load_order :
    supervisorCommand [0xA5, 0x00, 0x10, 0x00, 0x40, 0x00, 0x05, 0x00, 0x3C, 0x5D, 0xC0, 0x02, 0x00, 0x03, 0x00, 0x00, 0x01,
      0x46, 0x50, 0x38, 0xD6] = some (.loadOrder 5 (.fields ⟨60, 24000, 2, 3, 0, 0, [18000]⟩)) := by decide

set_option maxRecDepth 20000 in
/-- A frame whose check fails is discarded. -/
theorem test_frame_bad_check :
    supervisorCommand [0xA5, 0x00, 0x04, 0x00, 0x03, 0x00, 0x07, 0xAE, 0xA0] = some .frameDiscarded := by decide

set_option maxRecDepth 20000 in
/-- CAPABILITY with the fields of Table 8-5, row 2. -/
theorem test_frame_capability :
    cutterCommand [0xC3, 0x09, 0x01, 0x04, 0xB0, 0x03, 0x20, 0x02, 0xEE, 0x04, 0x0C, 0x4F, 0x49] =
      some (.capability goodCapability false) := by decide

set_option maxRecDepth 20000 in
/-- CUT DONE for cut 304. -/
theorem test_frame_cut_done :
    cutterCommand [0xC3, 0x05, 0x07, 0x00, 0x00, 0x01, 0x30, 0x2F, 0xA7] = some (.cutDone 304) := by decide

set_option maxRecDepth 20000 in
/-- A digest for line 10,340 with slot 0, level 2,100 and one DARK run 1,205 to 1,209 of peak 1,650. -/
theorem test_frame_digest :
    digestCommand 5 [0x5A, 0x28, 0x64, 0x00, 0x08, 0x34, 0x01, 0x4B, 0x54, 0xB9, 0x67, 0x28, 0xEC, 0x0C] =
      some (.gantryDigest 5 ⟨10340, 0, false, false, 2100, [⟨1205, 1209, 1650, .dark⟩]⟩) := by decide

set_option maxRecDepth 20000 in
/-- AGREE with the values of Table 8-5, row 2, and CUTTER HALT, as frames. -/
theorem test_frame_records_sent :
    (CutterRecord.agree 700 1500 5600 4 12).frame = [0xC3, 0x09, 0x02, 0x02, 0xBC, 0x05, 0xDC, 0x15, 0xE0, 0x04, 0x0C, 0xD8, 0xBA] ∧
    CutterRecord.cutterHalt.frame = [0xC3, 0x01, 0x0A, 0x8F, 0x74] := by decide

set_option maxRecDepth 20000 in
/-- The reply of HALT LINE (kind 144) with tag 9 and fault number 38, and a FAULT MISMATCH of CLEAR FAULT (kind 146). -/
theorem test_frame_replies :
    (⟨replyKind 144, 9, .ok, .faultNumber 38⟩ : Reply).frame = [0xA5, 0x00, 0x07, 0x80, 0x90, 0x00, 0x09, 0x00, 0x00, 0x26, 0x0D, 0xE4] ∧
    (⟨replyKind 146, 9, .faultMismatch, .empty⟩ : Reply).frame = [0xA5, 0x00, 0x05, 0x80, 0x92, 0x00, 0x09, 0x12, 0x33, 0x03] := by
  decide

/-- R66, Table 3-2: an open flaw carries its lane after its id. -/
theorem test_open_flaw_bytes : (streak.bytes 5).take 5 = [0x00, 0x00, 0x1B, 0x59, 0x05] := by decide

/-- R191: in EMPTY the slot state is followed by the absence of the record. -/
theorem test_empty_slot_bytes : FaultSlot.empty.bytes = [0x00, 0x00] := by decide

/-- R170, R178: numbers begin again at 1 after 4,294,967,295, and the newest report stays the last. -/
theorem test_store_after_the_wrap :
    let h (n : Nat) : Shift := { State.reset.report.shift with seq := n }
    (storeReport (h 1) [h 4294967294, h 4294967295]).map Shift.seq = [4294967294, 4294967295, 1] := by decide

/-- The trigger word of line 2,002 with slot 1. -/
theorem test_trigger_word_bytes : (⟨2002, 1⟩ : Trigger).bytes = [0x07, 0xD2, 0x01] := by decide

/-! ### Well-formedness: each check refuses an ill-formed command -/

theorem test_wf_tag : (Instr.readPosition 65536 (.fields ())).wf = false := by decide
theorem test_wf_lane_field : (Instr.startLane 1 (.fields 256)).wf = false := by decide
theorem test_wf_geometry : (Instr.setLineGeometry 1 (.fields ⟨25000, 256, 120000, 2000, 34000, 700, 10, 0⟩)).wf = false := by decide
theorem test_wf_lane_geometry : (Instr.setLaneGeometry 1 (.fields ⟨0, 65536, 1, 1, 1⟩)).wf = false := by decide
theorem test_wf_digest_runs :
    (Instr.gantryDigest 0 ⟨0, 0, false, false, 0, List.replicate 17 ⟨0, 0, 0, .dark⟩⟩).wf = false := by decide
theorem test_wf_digest_level : (Instr.gantryDigest 0 ⟨0, 0, false, false, 4096, []⟩).wf = false := by decide
theorem test_wf_detection : (Instr.writeDetectionSet 1 (.fields ⟨[⟨0, 65536, 0, 0⟩], 0, 1, 2000, 2, 5⟩)).wf = false := by decide
theorem test_wf_order : (Instr.loadOrder 1 (.fields ⟨65536, 24000, 1, 0, 0, 0, []⟩)).wf = false := by decide
theorem test_wf_mask : (Instr.setColumnMask 1 (.fields (0, [65536]))).wf = false := by decide
theorem test_wf_parameters : (Instr.setCutParameters 1 (.fields ⟨65536, 0, 0, 0, 0⟩)).wf = false := by decide
theorem test_wf_query : (Instr.readFlaws 1 (.fields (.byLabel 0 65536))).wf = false := by decide
theorem test_wf_page : (Instr.readBlind 1 (.fields (.bySkip 256))).wf = false := by decide
theorem test_wf_row : (Instr.writeGradeRows 1 (.fields [.other 2])).wf = false := by decide
theorem test_wf_close : (Instr.closeShift 1 (.fields ⟨256, 0, []⟩)).wf = false := by decide
theorem test_wf_capability : (Instr.capability ⟨65536, 0, 0, 0, 0⟩ false).wf = false := by decide
theorem test_wf_cut : (Instr.cutDone 4294967296).wf = false := by decide
theorem test_wf_unknown : (Instr.unknownRequest 65536 0).wf = false := by decide
theorem test_wf_good : (Instr.loadOrder 1 (.fields ⟨60, 24000, 2, 3, 0, 0, [18000]⟩)).wf = true := by decide

/-! ### What meets the hypotheses of the statements, clause by clause, at the ends of their ranges -/

/-- A state in another mode. -/
def inMode (m : Mode) (s : State) : State := { s with port := { s.port with mode := m } }

/-- A state with one delayed request waiting. -/
def waitingFor (k : Request) (tag : Nat) (s : State) : State :=
  { s with port := { s.port with delayed := s.port.delayed ++ [⟨k, tag⟩] } }

/-- The delayed-request list at its capacity. -/
def delayedFull (s : State) : State := { s with port := { s.port with delayed := List.replicate 4 ⟨.closeShift, 1⟩ } }

def heldInReset (s : State) : State := { s with ctl := { s.ctl with held := true } }
def afterResetTaken (s : State) : State := { s with ctl := { s.ctl with resetting := true } }
def withFault (slot : FaultSlot) (s : State) : State := { s with fault := { s.fault with slot := slot } }
def atLine (n y : Nat) (s : State) : State := { s with pos := { s.pos with lastLine := some n, y := y } }
def withPos (g : Position → Position) (s : State) : State := s.modPos g
def withRecords (rs : List PlateRecord) (s : State) : State := { s with planner := { s.planner with table := rs } }
def withOrders (os : List Order) (s : State) : State := { s with orders := { s.orders with queue := os } }
def withAgreement (a : Option Agreement) (s : State) : State := { s with cutter := { s.cutter with agreement := a } }
def withApply (a : ApplyState) (s : State) : State := { s with tracker := { s.tracker with apply := a } }
def withBlind (bs : List Interval) (s : State) : State := { s with map := { s.map with blind := bs } }
def withEntries (es : List MapEntry) (s : State) : State := { s with map := { s.map with entries := es } }
def allBlind (id : Nat) : Interval := ⟨id, .mapFull, none, 2000, 34000, 0, none, 0⟩
def closedBlind (id : Nat) : Interval := ⟨id, .off, some 0, 2000, 6000, 0, some 4, 0⟩

theorem noTriggerWork (s : State) (h : s.dueSwitch = none ∧ s.deadlineDue = false ∧ s.switchDue = false ∧ s.map.fullEnd = none) :
    NoTriggerWork s := ⟨h.1, h.2.1, h.2.2.1, h.2.2.2⟩

theorem witness_StepRunsTheFrontCommand :
    (∃ c rest, ({ idle with pending := [.stall, .breakCleared] } : State).pending = c :: rest) ∧
    (let s : State := { inspect twoSlots with map := { idle.map with testDue := true } }; s.pending = [] ∧ s.due = some .mapRetirement) ∧
    (State.reset.pending = [] ∧ State.reset.due = none) ∧ (heldInReset idle).ctl.held = true :=
  ⟨⟨_, _, rfl⟩, by decide, by decide, rfl⟩

theorem witness_RequestsRefusedInOrder :
    (requestOf (.readPosition 7 (.fields ())) = some (.readPosition, 7, true) ∧ idle.ctl.held = false ∧ idle.ctl.resetting = false ∧
      ∃ d ∈ (waitingFor .applyDetection 7 produce).port.delayed, d.tag = 7) ∧
    (requestOf (.clearFault 7 .wrongLength) = some (.clearFault, 7, false) ∧ ∀ d ∈ idle.port.delayed, d.tag ≠ 7) ∧
    (requestOf (.startInspect 7 (.fields 0#8)) = some (.startInspect, 7, true) ∧ takenIn .startInspect produce.port.mode = false) ∧
    (∀ m ∈ [Mode.idle, .inspect, .produce, .draining, .halted], Listens (inMode m idle) 7) := by decide

theorem witness_FramesThatAreNoRequest :
    Request.ofCode 0 = none ∧ Request.ofCode 65535 = none ∧ Request.ofCode 32769 = none ∧ idle.ctl.held = false ∧
    idle.ctl.resetting = false ∧ (heldInReset idle).ctl.held = true ∧ (afterResetTaken idle).ctl.resetting = true ∧
    requestOf (.readEvents 7 (.fields ())) = some (.readEvents, 7, true) := by decide

theorem witness_EventSetRequests :
    ∀ m ∈ [Mode.idle, .inspect, .produce, .draining], Listens (inMode m idle) 7 ∧ (inMode m idle).port.mode ≠ .halted := by decide

theorem witness_ReadReplies : Listens State.reset 0 ∧ Listens halted 65535 ∧ Listens produce 7 := by decide

theorem witness_ReadRepliesOfNamedItems :
    (Listens produce 7) ∧ (∀ b ∈ (withBlind [closedBlind 3] idle).map.blind, b.id ≠ 2) ∧
    (withBlind [closedBlind 3] idle).map.blind.find? (fun x => x.id == 3) = some (closedBlind 3) ∧
    (∀ e ∈ gradeState.map.entries, e.id ≠ 5) ∧ gradeState.map.entries.find? (fun q => q.id == 4) = some (entryAt 4 .bubble 30000 30011 3015000 3015009 12) ∧
    (∀ r ∈ spillState.planner.table, r.id ≠ 1) ∧ (spillState.planner.table.find? (fun x => x.id == 204)).isSome = true ∧
    State.reset.report.store = [] ∧
    (let h := State.reset.report.shift; let s : State := { idle with report := { idle.report with store := [h] } }
     s.report.store = [] ++ [h] ∧ s.report.store.find? (fun q => q.seq == 1) = some h ∧ ∀ q ∈ s.report.store, q.seq ≠ 2) := by decide

theorem witness_FullResetLeaves :
    (afterResetTaken halted).ctl.resetting = true ∧ (afterResetTaken halted).ctl.held = false ∧ (heldInReset produce).ctl.held = true := by
  decide

theorem witness_ResetRequestAndHold :
    Listens halted 7 ∧ idle.ctl.resetting = false ∧ idle.ctl.held = false ∧ (heldInReset produce).ctl.held = true ∧
    followsInputs .stall = false ∧ followsInputs (.readPosition 7 (.fields ())) = false := by decide

/-- IDLE with a detection set, and one lane that covers the net width 2,000 to 10,000. -/
def ready : State :=
  { idle with
    pos := { idle.pos with geometry := { exampleGeometry with xR := 10000 } },
    tracker := { idle.tracker with active := some twoSlots } }.modLane 0 fun l => { l with geometry := ⟨0, 4, 4096, 1⟩, configured := true }

/-- A second lane inside the first. -/
def nestedLanes : State := ready.modLane 1 fun l => { l with geometry := ⟨100, 1, 100, 1⟩, configured := true }

/-- The same with a net width up to 16,385, one position more than the lane covers. -/
def gapped : State := withPos (fun p => { p with geometry := { p.geometry with xR := 16385 } }) ready

theorem witness_StartInspect_refused :
    (Listens idle 7 ∧ idle.port.mode = .idle ∧ idle.tracker.active = none) ∧
    (Listens nestedLanes 7 ∧ nestedLanes.port.mode = .idle ∧ nestedLanes.pos.configured = true ∧ nestedLanes.tracker.active ≠ none ∧
      nestedLanes.spansRefused = true) ∧
    (gapped.spansRefused = false ∧ gapped.pos.geometry.xL ≤ 16384 ∧ 16384 < gapped.pos.geometry.xR ∧
      ∀ o ∈ gapped.ownedSpans, ¬ (o.2.start ≤ 16384 ∧ 16384 < o.2.stop)) := by decide

theorem ready_covers : ¬ ∃ x, ready.pos.geometry.xL ≤ x ∧ x < ready.pos.geometry.xR ∧
    ∀ o ∈ ready.ownedSpans, ¬ (o.2.start ≤ x ∧ x < o.2.stop) := by
  rintro ⟨x, h1, h2, h3⟩
  have h := h3 (0, ⟨0, 16384⟩) (by decide)
  have h2' : x < 10000 := h2
  exact h ⟨Nat.zero_le _, by show x < 16384; omega⟩

theorem witness_StartInspect :
    Listens ready 7 ∧ ready.port.mode = .idle ∧ ready.pos.configured = true ∧ ready.tracker.active ≠ none ∧
    (∀ i : LaneId, (1#8).getLsbD i.val = true → ready.lanes[i.val].configured = true) ∧ ready.spansRefused = false ∧
    (∀ i : LaneId, ready.lanes[i.val].state = .off) ∧ ready.map.blind = [] ∧ ready.map.full = none ∧ ready.fault.slot = .empty ∧
    ready.tracker.apply = .none ∧ (0, ⟨0, 16384⟩) ∈ ready.ownedSpans ∧
    (let s := withPos (fun p => { p with breakLevel := true }) ready; Listens s 7 ∧ s.pos.geometry.breakAction = .mark) := by decide

theorem witness_StopInspectReturnsToIdle :
    (Listens activeLane3 7 ∧ activeLane3.port.mode = .inspect ∧ activeLane3.lanes[3].state ≠ .off ∧ activeLane3.tracker.apply = .none) ∧
    (let s := waitingFor .applyDetection 5 (withApply (.waiting threeSlots 2002) activeLane3)
     Listens s 7 ∧ s.tracker.apply = .waiting threeSlots 2002 ∧
       s.port.delayed.find? (fun e => e.kind == .applyDetection) = some ⟨.applyDetection, 5⟩) := by decide

theorem witness_FramesDecodeToTheirCommands :
    ((Instr.readFlaws 65535 (.fields (.byLabel (2 ^ 48 - 1) 65535))).wf = true ∧
      (requestParts (.readFlaws 65535 (.fields (.byLabel (2 ^ 48 - 1) 65535)))).isSome = true) ∧
    (let i : Instr := .writeGradeRows 0 (.fields (List.replicate 101 (.other 255)))
     i.wf = true ∧ (requestParts i).map (fun p => p.2.2.length) = some 1011) ∧
    ((Instr.cutReject 4294967295 .notReady).wf = true ∧ (recordParts (.cutReject 4294967295 .notReady)).isSome = true) := by
  set_option maxRecDepth 20000 in decide

theorem witness_EncoderArithmetic :
    let at' (y rem debt : Nat) : State := withPos (fun p => { p with y := y, rem := rem, debt := debt }) idle
    (idle.ctl.held = false ∧ idle.pos.configured = true ∧ idle.pos.phaseA = false ∧ idle.pos.phaseB = false) ∧
    0 < (at' 0 0 1).pos.debt ∧ (at' 0 14999 0).pos.rem + 10000 < idle.pos.geometry.ppm ∧
    (idle.pos.geometry.ppm ≤ (at' (2 ^ 48 - 2) 15000 0).pos.rem + 10000 ∧ (at' (2 ^ 48 - 2) 15000 0).pos.y < 2 ^ 48 - 1) ∧
    2 ^ 48 - 1 ≤ (at' (2 ^ 48 - 1) 24999 0).pos.y := by decide

theorem witness_EncoderFaults :
    State.reset.pos.configured = false ∧ (inspect twoSlots).pos.configured = true ∧ (inspect twoSlots).port.mode.scanning = true ∧
    idle.port.mode.scanning = false ∧ (withPos (fun p => { p with debt := 4096 }) (inspect twoSlots)).pos.debt = 4096 ∧
    NoTriggerWork (inspect twoSlots) ∧ NoTriggerWork idle :=
  ⟨by decide, by decide, by decide, by decide, by decide, noTriggerWork _ (by decide), noTriggerWork _ (by decide)⟩

theorem witness_YIncrementBetweenLines :
    (let s := withPos (fun p => { p with rem := 15000 }) idle
     s.ctl.held = false ∧ s.pos.configured = true ∧ s.pos.debt = 0 ∧ s.pos.geometry.ppm ≤ s.pos.rem + 10000 ∧ s.pos.y < 2 ^ 48 - 1 ∧
       s.port.mode = .idle) ∧
    (let s := withPos (fun p => { p with rem := 24999, y := 2 ^ 48 - 2 }) produce
     s.pos.geometry.ppm ≤ s.pos.rem + 10000 ∧ s.pos.y < 2 ^ 48 - 1 ∧ (s.pos.y + 1) % s.pos.geometry.pitch ≠ 0) ∧
    NoTriggerWork (withPos (fun p => { p with rem := 15000 }) idle) ∧
    NoTriggerWork (withPos (fun p => { p with rem := 24999, y := 2 ^ 48 - 2 }) produce) :=
  ⟨by decide, by decide, noTriggerWork _ (by decide), noTriggerWork _ (by decide)⟩

theorem haltLaw_of_slot (s : State) (r : FaultRecord) (h1 : s.port.mode = .halted) (h2 : s.fault.slot = .haltHeld r) : HaltLaw s :=
  ⟨fun _ => ⟨r, h2⟩, fun _ => h1⟩

theorem haltLaw_of_empty (s : State) (h1 : s.port.mode ≠ .halted) (h2 : s.fault.slot = .empty) : HaltLaw s :=
  ⟨fun h => absurd h h1, fun ⟨_, h⟩ => by simp [h2] at h⟩

theorem witness_TriggersAtMultiplesOfThePitch :
    (HaltLaw (inspect threeSlots) ∧ HaltLaw halted ∧ HaltLaw idle) ∧
    (let s := inspect threeSlots; s.ctl.held = false ∧ s.pos.configured = true ∧ s.tracker.apply = .none ∧ s.tracker.active = some threeSlots) ∧
    halted.tracker.active = some threeSlots :=
  ⟨⟨haltLaw_of_empty _ (by decide) (by decide), haltLaw_of_slot _ _ (by decide) rfl, haltLaw_of_empty _ (by decide) (by decide)⟩,
    by decide, by decide⟩

theorem witness_SpeedAndStall :
    (produce.ctl.held = false ∧ produce.port.mode.cutting = true ∧ produce.cutter.agreement = some goodAgreement) ∧
    (withPos (fun p => { p with windowCount := 700 }) produce).pos.windowCount ≤ goodAgreement.speed ∧
    (let s := withPos (fun p => { p with windowCount := 701, overspeed := true }) produce
     goodAgreement.speed < s.pos.windowCount ∧ s.pos.overspeed = true) ∧
    (let s := withPos (fun p => { p with windowCount := 65535 }) produce; goodAgreement.speed < s.pos.windowCount ∧ s.pos.overspeed = false) ∧
    (idle.port.mode.cutting = false ∧ (withAgreement none produce).cutter.agreement = none) ∧
    (idle.pos.stallRunning = false ∧
      (let s := withPos (fun p => { p with stallRunning := true, ribbon := .moving }) idle; s.pos.stallRunning = true ∧ s.pos.ribbon = .moving) ∧
      (withPos (fun p => { p with stallRunning := true }) idle).pos.ribbon = .stopped) := by decide

theorem witness_BreakMarksOrHalts :
    let s := atLine 0 1 produce
    let halting := withPos (fun p => { p with geometry := { p.geometry with breakAction := .halt } }) s
    let marking := withPos (fun p => { p with breakMarking := true, breakLevel := true }) s
    (s.ctl.held = false ∧ s.port.mode.scanning = true ∧ s.pos.breakLevel = false ∧ s.pos.geometry.breakAction = .mark ∧ s.pos.lastLine = some 0) ∧
    (idle.port.mode.scanning = false ∧ marking.pos.breakLevel = true ∧ halting.pos.geometry.breakAction = .halt) ∧
    (withBlind [allBlind 4] s).map.blind.find? (fun b => b.lane.isNone && b.yEnd.isNone) = some (allBlind 4) ∧
    (64 ≤ (withBlind (List.replicate 64 (closedBlind 1)) s).map.blind.length ∧
      ∀ b ∈ (withBlind (List.replicate 64 (closedBlind 1)) s).map.blind, b.lane = none → b.yEnd ≠ none) ∧
    (withBlind (List.replicate 63 (closedBlind 1)) s).map.blind.length < 64 ∧
    (s.pos.breakMarking = false ∧ marking.pos.breakMarking = true ∧ marking.map.full = none) ∧
    ({ marking with map := { marking.map with full := some 9 } } : State).map.full ≠ none := by decide

theorem witness_SettingsWrittenInIdle :
    let inRange (f : LineGeometryFields) : Prop :=
      (10000 ≤ f.ppm ∧ f.ppm ≤ 400000) ∧ (1 ≤ f.pitch ∧ f.pitch ≤ 64) ∧ (40000 ≤ f.dgc ∧ f.dgc ≤ 400000) ∧ f.xL ≤ 59000 ∧
      (f.xL + 1000 ≤ f.xR ∧ f.xR ≤ f.xL + 36000 ∧ f.xR ≤ 60000) ∧ (50 ≤ f.maxSpeed ∧ f.maxSpeed ≤ 1000) ∧
      (5 ≤ f.stallTime ∧ f.stallTime ≤ 100) ∧ f.breakAction ≤ 1
    let cutRange (p : CutParameters) : Prop := (500 ≤ p.minCull ∧ p.minCull ≤ 20000) ∧ (p.minCull ≤ p.maxCull ∧ p.maxCull ≤ 30000) ∧
      p.clearance ≤ 500 ∧ p.guard ≤ 20000 ∧ (500 ≤ p.overdue ∧ p.overdue ≤ 20000)
    let agreed := withAgreement (some goodAgreement) idle
    (Listens idle 7 ∧ idle.port.mode = .idle ∧ idle.cutter.agreement = none ∧ idle.orders.queue = []) ∧
    (inRange ⟨10000, 1, 40000, 59000, 60000, 50, 5, 0⟩ ∧ inRange ⟨400000, 64, 400000, 24000, 60000, 1000, 100, 1⟩ ∧
      ¬ inRange ⟨9999, 1, 40000, 59000, 60000, 50, 5, 0⟩ ∧ ¬ inRange ⟨400000, 64, 400000, 23999, 60000, 1000, 100, 1⟩ ∧
      ¬ inRange ⟨10000, 1, 40000, 59000, 60000, 50, 5, 2⟩) ∧
    (cutRange ⟨500, 500, 0, 0, 500⟩ ∧ cutRange ⟨20000, 30000, 500, 20000, 20000⟩ ∧ ¬ cutRange ⟨499, 500, 0, 0, 500⟩ ∧
      ¬ cutRange ⟨500, 499, 0, 0, 500⟩) ∧
    (Listens agreed 7 ∧ agreed.cutter.agreement = some goodAgreement ∧ capabilityInRange goodCapability = true ∧
      1199 < max 500 goodCapability.spacing ∧ max 500 goodCapability.spacing ≤ 1200 ∧
      max 500 goodCapability.spacing + (800 * 700 + 99) / 100 + 20000 ≤ agreed.pos.geometry.dgc ∧
      agreed.grader.active.destBeyond 12 = false ∧ agreed.planner.planning = .off) := by
  dsimp only
  repeat' apply And.intro
  all_goals decide

theorem witness_LaneSettings :
    let inRange (f : LaneGeometryFields) : Prop :=
      let columns := if f.binning = 1 then f.columns else (f.columns + 1) / 2
      f.lane ≤ 7 ∧ f.x0 ≤ 60000 ∧ (1 ≤ f.pitch ∧ f.pitch ≤ 4) ∧ (1 ≤ f.columns ∧ f.columns ≤ 4096) ∧
        (1 ≤ f.binning ∧ f.binning ≤ 2) ∧ f.x0 + columns * f.pitch * f.binning ≤ 60000
    (inRange ⟨0, 59999, 1, 1, 1⟩ ∧ inRange ⟨7, 0, 4, 4096, 2⟩ ∧ ¬ inRange ⟨8, 0, 1, 1, 1⟩ ∧ ¬ inRange ⟨0, 60000, 1, 1, 1⟩ ∧
      ¬ inRange ⟨0, 0, 5, 1, 1⟩) ∧
    (Listens idle 7 ∧ idle.port.mode = .idle ∧ idle.lanes[3].configured = false) ∧
    (Listens activeLane3 7 ∧ activeLane3.port.mode ≠ .halted ∧ activeLane3.lanes[3].configured = true ∧
      activeLane3.lanes[3].state ∈ [LaneState.settling, .active, .crowded]) ∧
    (let s := withLane3 lane3 idle
     s.lanes[3].configured = true ∧ s.lanes[3].state ∈ [LaneState.off, .faulted] ∧ s.lanes[3].geometry.reported = 4200) ∧
    ([3, 1, 2].Nodup ∧ (∀ c ∈ [3, 1, 2], c < 4200) ∧ ¬ [7, 7].Nodup) := by
  dsimp only
  repeat' apply And.intro
  all_goals decide

theorem witness_StartAndStopLane :
    (∀ st ∈ [LaneState.off, .faulted, .settling, .active, .crowded],
      let s := withLane3 { lane3 with state := st } (atLine 0 0 (inspect twoSlots))
      Listens s 7 ∧ s.port.mode.scanning = true ∧ s.port.mode ≠ .halted ∧ s.lanes[3].configured = true ∧ s.lanes[3].state = st ∧
        s.pos.lastLine = some 0) ∧ (inspect twoSlots).lanes[3].configured = false := by decide

theorem witness_DarkOffsetByLaneState :
    (∀ st ∈ [LaneState.off, .faulted, .settling, .active, .crowded],
      let s := withLane3 { lane3 with state := st } (inspect twoSlots)
      Listens s 7 ∧ s.port.mode ≠ .halted ∧ s.lanes[3].configured = true ∧ s.lanes[3].state = st) ∧
    (inspect twoSlots).lanes[3].configured = false := by decide

theorem witness_LeavingActiveOpensAnInterval :
    let s := withBlind (List.replicate 63 (closedBlind 1)) activeLane3
    s.port.mode.scanning = true ∧ s.lanes[3].state = .active ∧ s.lanes[3].owned = some ⟨14500, 18600⟩ ∧
    max 14500 s.pos.geometry.xL < min 18600 s.pos.geometry.xR ∧ s.map.blind.length < 64 ∧ s.tracker.apply = .none ∧
    s.tracker.active = some twoSlots ∧ s.map.entries.length + s.tracker.tables[3].flaws.length ≤ 1024 := by decide

theorem witness_Digests :
    (NoTriggerWork activeLane3 ∧ NoTriggerWork idle) ∧
    (idle.port.mode = .idle ∧ (inspect twoSlots).pos.lastLine = none ∧ activeLane3.pos.lastLine = some 2000 ∧ 2000 < 65535) ∧
    (activeLane3.port.mode.scanning = true ∧ activeLane3.lanes[3].state ∈ [LaneState.settling, .active, .crowded] ∧
      activeLane3.tracker.apply = .none ∧ activeLane3.tracker.active = some twoSlots ∧ activeLane3.lanes[3].expected = 2000 ∧
      (0 : Nat) = 2000 % twoSlots.slots.length ∧ (1 : Nat) ≠ 2000 % twoSlots.slots.length ∧ 1999 < activeLane3.lanes[3].expected ∧
      twoSlots.slots[0]? = some ⟨.bright, 120, 1000, 3000⟩ ∧ 2000 % 65536 = 2000) ∧
    (let s := withLane3 { activeLane3.lanes[3] with expected := 1999, limitRuns := Vector.replicate 5 3 } activeLane3
     s.lanes[3].expected < 2000 ∧ s.lanes[3].limitRuns[0] = 3 ∧ 999 < 1000 ∧ 3000 < 3001) :=
  ⟨⟨noTriggerWork _ (by decide), noTriggerWork _ (by decide)⟩, by decide, by decide, by decide⟩

theorem witness_DigestDeadline :
    let overdue (s : State) (i : LaneId) : Prop :=
      s.lanes[i.val].state ∈ [LaneState.settling, .active, .crowded] ∧ s.lanes[i.val].expected + 2 ≤ 2002
    let s := atLine 2002 8008 activeLane3
    (s.ctl.held = false ∧ s.pos.lastLine = some 2002 ∧ s.port.mode.scanning = true) ∧
    (overdue s 3 ∧ ∀ j, j ≠ (3 : LaneId) → ¬ overdue s j) ∧
    (let t := withLane3 { lane3 with expected := 2001 } s; ∀ i, ¬ overdue t i) ∧ idle.port.mode.scanning = false := by decide

/-- Lane 3 settling at line 15, one sample short of 8 of its last kind. -/
def settling3 (samples : Nat) : State :=
  withLane3 { lane3 with state := .settling, rings := ⟨List.replicate 8 2100, List.replicate samples 100, []⟩, expected := 15, interval := some 1 }
    (withBlind [{ closedBlind 1 with yEnd := none }] (atLine 15 60 (inspect twoSlots)))

theorem witness_SettlingLaneTakesADigest :
    (∀ k ∈ [0, 6, 7],
      let s := settling3 k
      s.ctl.held = false ∧ s.port.mode.scanning = true ∧ s.lanes[3].state = .settling ∧ s.lanes[3].expected = 15 ∧
      s.tracker.tables[3] = ⟨[], []⟩ ∧ s.pos.lastLine = some 15 ∧ 15 % 65536 = 15 ∧ s.tracker.apply = .none ∧
      s.tracker.active = some twoSlots ∧ 1 = 15 % twoSlots.slots.length ∧ twoSlots.slots[1]? = some ⟨.dark, 120, 0, 3000⟩) ∧
    (((settling3 6).lanes[3].rings.set .dark (List.replicate 7 100)).get .dark).length < 8 ∧
    (8 ≤ (((settling3 7).lanes[3].rings.set .dark (List.replicate 8 100)).get .dark).length) ∧
    NoTriggerWork (settling3 6) ∧ NoTriggerWork (settling3 7) :=
  ⟨by decide, by decide, by decide, noTriggerWork _ (by decide), noTriggerWork _ (by decide)⟩

theorem witness_RunsKeptByTheirContrast :
    let l := { lane3 with rings := ⟨List.replicate 8 2100, [], []⟩, dark := 64, staticMask := [0, 1] }
    (l.rings.get .bright).length = 8 ∧ l.geometry.reported ≤ 4200 ∧
    (∀ c, 0 ≤ c → c ≤ 1 → c ∈ l.staticMask ∨ c ∈ l.dynColumns) ∧ (2 ∉ l.staticMask ∧ 2 ∉ l.dynColumns) ∧
    120 ≤ min 999 ((2036 - (1650 - 64)) * 1000 / 2036) ∧ min 999 ((2036 - (2095 - 64)) * 1000 / 2036) < 120 := by
  refine ⟨by decide, by decide, ?_, by decide, by decide, by decide⟩
  intro c _ h
  have : c = 0 ∨ c = 1 := by omega
  rcases this with rfl | rfl <;> simp

theorem witness_WriteDetectionSetStages :
    let inRange (f : DetectionFields) : Prop := (1 ≤ f.slots.length ∧ f.slots.length ≤ 5) ∧
      (∀ q : SlotFields, q ∈ f.slots → q.kind ≤ 2 ∧ (5 ≤ q.threshold ∧ q.threshold ≤ 999) ∧ q.low ≤ q.high ∧ q.high ≤ 4095) ∧
      f.join ≤ 8 ∧ (1 ≤ f.gap ∧ f.gap ≤ 16) ∧ (2000 ≤ f.maxLength ∧ f.maxLength ≤ 50000) ∧ (2 ≤ f.aspect ∧ f.aspect ≤ 16) ∧
      (5 ≤ f.stone ∧ f.stone ≤ 999)
    (Listens halted 7 ∧ halted.port.mode = .halted ∧ Listens produce 7 ∧ produce.port.mode ≠ .halted) ∧
    inRange ⟨[⟨0, 5, 0, 0⟩], 0, 1, 2000, 2, 5⟩ ∧ inRange ⟨List.replicate 5 ⟨2, 999, 4095, 4095⟩, 8, 16, 50000, 16, 999⟩ ∧
    ¬ inRange ⟨[], 0, 1, 2000, 2, 5⟩ ∧ ¬ inRange ⟨[⟨0, 5, 1, 0⟩], 0, 1, 2000, 2, 5⟩ ∧
    ¬ inRange ⟨List.replicate 6 ⟨0, 5, 0, 0⟩, 0, 1, 2000, 2, 5⟩ := by
  dsimp only
  repeat' apply And.intro
  all_goals decide

/-- A staged set, ready to be applied. -/
def staged (s : State) : State := { s with tracker := { s.tracker with staged := some threeSlots, stagedFlag := true } }

theorem witness_ApplyDetectionByMode :
    (Listens (withApply (.switched 4) (inspect twoSlots)) 7 ∧ (withApply (.switched 4) (inspect twoSlots)).tracker.apply ≠ .none) ∧
    (Listens idle 7 ∧ idle.port.mode ≠ .halted ∧ idle.tracker.apply = .none ∧ idle.tracker.stagedFlag = false) ∧
    (Listens (staged idle) 7 ∧ (staged idle).port.mode = .idle ∧ (staged idle).tracker.stagedFlag = true ∧
      (staged idle).tracker.staged = some threeSlots) ∧
    (let s := delayedFull (staged (inspect twoSlots)); Listens s 7 ∧ s.port.mode ≠ .idle ∧ 4 ≤ s.port.delayed.length) ∧
    (let s := staged (atLine 1 5 (inspect twoSlots))
     Listens s 7 ∧ s.port.delayed.length < 4 ∧ s.tracker.active = some twoSlots ∧ 0 < twoSlots.slots.length ∧ s.pos.lastLine = some 1) := by
  decide

theorem witness_DetectionSwitchAtItsLine :
    let s := waitingFor .applyDetection 5 (withApply (.waiting threeSlots 2000) activeLane3)
    (s.ctl.held = false ∧ s.port.mode.scanning = true ∧ s.pos.lastLine = some 2000 ∧
      s.port.delayed.find? (fun e => e.kind == .applyDetection) = some ⟨.applyDetection, 5⟩) ∧
    ((atLine 1999 7999 s).pos.lastLine = some 1999) ∧ (s.lanes[3].state = .active ∧ s.lanes[3].rings.get .oblique = []) ∧
    idle.tracker.apply = .none ∧
    (let t := withApply (.switched 1999) activeLane3; t.tracker.apply = .switched 1999 ∧ t.pos.lastLine = some 2000) := by decide

theorem witness_RunsStartJoinOrMergeFlaws :
    let s (fs : List OpenFlaw) (ms : List Mark) := lane5.modTable 5 fun _ => ⟨fs, ms⟩
    let overlaps (r : KeptRun) (a b line : Nat) : Prop := r.first ≤ b + twoSlots.join ∧ a ≤ r.last + twoSlots.join ∧ r.line ≤ line + twoSlots.gap
    let r : KeptRun := ⟨10350, 1202, 1204, 260, .bright, .bright, false⟩
    (overlaps r streak.seenFirst streak.seenLast streak.lastLine ∧ overlaps r spot.seenFirst spot.seenLast spot.lastLine) ∧
    (¬ overlaps { r with first := 1209, last := 1210 } spot.seenFirst spot.seenLast spot.lastLine ∧
      overlaps { r with first := 1208, last := 1210 } spot.seenFirst spot.seenLast spot.lastLine ∧
      ¬ overlaps { r with first := 1208, last := 1210 } streak.seenFirst streak.seenLast streak.lastLine) ∧
    ((s [streak, spot] []).lanes[5].state = .active ∧ (s [streak, spot] []).tracker.tables[5].flaws.length < 32 ∧
      ((s [streak, spot] []).tracker.tables[5].flaws.map OpenFlaw.id).Nodup ∧ streak.id ≤ spot.id) ∧
    (32 ≤ (s (List.replicate 32 streak) []).tracker.tables[5].flaws.length) ∧
    overlaps { r with line := 10500 } 1200 1201 10499 := by decide

theorem witness_TrackerWorkForALine :
    let f : OpenFlaw := ⟨7001, 10000, 10499, 1200, 1209, 1200, 1201, 310, ⟨true, true, false⟩, true, false, none⟩
    let s := lane5.modTable 5 fun _ => ⟨[f, { spot with lastLine := 10497 }, { streak with id := 9, lastLine := 10495 }], []⟩
    (s.port.mode.scanning = true ∧ s.tracker.apply = .none ∧ s.tracker.active = some twoSlots ∧
      (s.tracker.tables[5].flaws.map OpenFlaw.id).Nodup ∧ s.tracker.tables[5].marks.length ≤ 32 ∧
      (trackerWork 10499 5 s).port.mode.scanning = true) ∧
    (twoSlots.maxLength ≤ (f.lastLine + 1 - f.firstLine) * s.pos.geometry.pitch ∧ 10499 ≤ 10497 + twoSlots.gap ∧ ¬ 10499 ≤ 10495 + twoSlots.gap) ∧
    s.tracker.tables[5].flaws.length ≤ 32 := by decide

theorem witness_FrontierIsTheLeastTerm :
    (idle.port.mode = .idle ∧ halted.port.mode = .halted) ∧
    (activeLane3.port.mode.scanning = true ∧ (∀ i : LaneId, activeLane3.lanes[i.val].state = .active ∨ activeLane3.lanes[i.val].state = .crowded →
      activeLane3.lanes[i.val].lastProcessed ≠ none) ∧ activeLane3.lanes[3].lastProcessed = some 1999) ∧
    (let s := atLine 4 17 (inspect twoSlots)
     s.pos.lastLine = some 4 ∧ ∀ i : LaneId, s.lanes[i.val].state = .off ∧ s.tracker.tables[i.val].flaws = []) := by decide

theorem witness_ClosedFlawEntersTheMap :
    let s (n : Nat) := withEntries (List.replicate n (flawAt 1 .stone 0 4 5)) (inspect twoSlots)
    (∀ c ∈ (s 2).map.entries, (s 2).seamCandidate twoSlots 3 bubble9120 c = false) ∧ (s 2).map.entries.length < 1024 ∧
    (s 2).map.entries.Pairwise (fun a b => a.yFirst ≤ b.yFirst) ∧ (s 2).map.blind.length < 64 ∧
    (List.replicate 895 (flawAt 1 .stone 0 4 5)).length + 1 = 896 ∧ 1024 ≤ (List.replicate 1024 (flawAt 1 .stone 0 4 5)).length ∧
    (s 2).map.full = none ∧ (withBlind [allBlind 4] (s 2)).map.blind.find? (fun b => b.lane.isNone && b.yEnd.isNone) = some (allBlind 4) ∧
    (allBlind 4).yStart ≤ bubble9120.yFirst := by
  exact ⟨by decide, by decide, by decide, by decide, by rw [List.length_replicate], (List.length_replicate ..).ge, by decide, by decide,
    by decide⟩

theorem witness_full_map_without_seam :
    let s := withEntries (List.replicate 1024 (flawAt 1 .stone 0 4 5)) (inspect twoSlots)
    (∀ c ∈ s.map.entries, s.seamCandidate twoSlots 3 bubble9120 c = false) ∧ 1024 ≤ s.map.entries.length ∧ s.map.blind.length < 64 := by
  refine ⟨?_, (List.length_replicate ..).ge, by decide⟩
  intro c hc
  have : c = flawAt 1 .stone 0 4 5 := (List.mem_replicate.1 hc).2
  subst this
  decide

theorem witness_SeamMergesOrFlags :
    (let s : State := { seamState with map := { idle.map with entries := [stone9118] } }
     s.map.entries.find? (s.seamCandidate twoSlots 3 bubble9120) = some stone9118 ∧ (s.map.entries.map MapEntry.id).Nodup ∧
       s.map.entries.length < 1024 ∧ stone9118.refs = 0) ∧
    (let c := { stone9118 with refs := 1 }
     let s : State := { seamState with map := { idle.map with entries := [c] } }
     s.map.entries.find? (s.seamCandidate twoSlots 3 bubble9120) = some c ∧ 0 < c.refs) := by decide

theorem witness_MapRetirementPastTheCutter :
    let s : State := { withEntries [stone9118] (withBlind [closedBlind 1] (inspect twoSlots)) with
      pos := { idle.pos with y := 180083 }, map := { idle.map with entries := [stone9118], blind := [closedBlind 1], testDue := true } }
    (s.ctl.held = false ∧ s.map.testDue = true ∧ s.port.mode ≠ .idle ∧ stone9118.refs = 0 ∧ stone9118.yLast + s.pos.geometry.dgc = s.pos.y) ∧
    (idle.map.testDue = false ∧ (inMode .idle s).port.mode = .idle ∧ (inMode .produce s).port.mode = .produce) ∧
    ∀ c, s.report.shift.flaws.get c ≤ 4294967295 := by
  refine ⟨by decide, by decide, fun c => ?_⟩
  cases c <;> decide

theorem witness_MapFullConditionEnds :
    let s : State := { produce with map := { idle.map with full := some 0, fullEnd := some 0 } }
    s.ctl.held = false ∧ s.map.fullEnd = some 0 ∧ s.map.full = some 0 ∧ s.pos.breakMarking = false ∧ idle.map.full = none ∧
    (withPos (fun p => { p with breakMarking := true }) s).pos.breakMarking = true := by decide

theorem witness_LoadOrderChecksAndQueues :
    let inRange (s : State) (f : OrderFields) : Prop := (1 ≤ f.id ∧ f.id ≤ 65535) ∧ (6000 ≤ f.length ∧ f.length ≤ 60000) ∧
      (1 ≤ f.split ∧ f.split ≤ 4) ∧ f.quantity ≤ 65535 ∧ f.target ≤ 2 ∧ f.fallback ≤ 1 ∧ f.positions.length + 1 = f.split ∧
      f.positions.Pairwise (fun x y => x < y) ∧ ∀ x ∈ f.positions, s.pos.geometry.xL < x ∧ x < s.pos.geometry.xR
    let low : OrderFields := ⟨1, 6000, 1, 0, 0, 0, []⟩
    let high : OrderFields := ⟨65535, 60000, 4, 65535, 2, 1, [2001, 20000, 33999]⟩
    (Listens State.reset 7 ∧ State.reset.pos.configured = false ∧ State.reset.port.mode ≠ .halted) ∧
    (inRange idle low ∧ inRange idle high ∧ ¬ inRange idle { low with id := 0 } ∧ ¬ inRange idle { high with positions := [2000, 20000, 33999] }) ∧
    (8 ≤ (withOrders (List.replicate 8 order60) idle).orders.queue.length) ∧
    (let s := withOrders [order60] produce; Listens s 7 ∧ ∃ o ∈ s.orders.queue, o.id = 60) ∧
    (goodAgreement.cMin ≤ low.length ∧ low.split ≤ goodAgreement.cap.across ∧
      low.length + produce.planner.params.maxCull + goodAgreement.lead + produce.planner.params.guard ≤ produce.pos.geometry.dgc ∧
      ¬ (109999 + produce.planner.params.maxCull + goodAgreement.lead + produce.planner.params.guard ≤ produce.pos.geometry.dgc)) ∧
    (produce.port.mode = .produce ∧ (∀ o ∈ produce.orders.queue, o.state = .ending) ∧
      ∃ o ∈ (withOrders [order60] produce).orders.queue, o.state = .active) := by
  dsimp only
  repeat' apply And.intro
  all_goals decide

theorem witness_WithdrawOrderByState :
    let q (st : OrderState) : Order := order 50 24000 1 0 0 0 [] st
    (∀ st ∈ [OrderState.queued, .active, .ending],
      let s := withOrders [q st] produce
      Listens s 7 ∧ s.port.mode ≠ .halted ∧ s.orders.queue = [] ++ q st :: [] ∧ (q st).id = 50 ∧ OrderLaw s ∧
        ¬ ∃ r ∈ s.planner.table, r.order = some 50 ∧ r.state ≠ .void) ∧
    (∃ r ∈ spillState.planner.table, r.order = some 50 ∧ r.state ≠ .void) ∧
    (let n : Order := order 51 24000 1 0 0 0 [] .queued
     let s := withOrders [q .active, n] spillState
     s.port.mode = .produce ∧ ([] ++ [n] : List Order).find? (fun o => o.state == OrderState.queued) = some n ∧ s.fitCheck n = none ∧ n.quantity = 0 ∧
       OrderLaw s ∧ Listens s 7) := by
  simp only [OrderLaw]
  decide

/-- INSPECT with everything that START PRODUCTION asks for. -/
def agreedInspect : State := withAgreement (some goodAgreement) linked

theorem witness_StartProductionCommitsTheHeadCut :
    (Listens (inspect twoSlots) 7 ∧ (inspect twoSlots).port.mode = .inspect ∧ (inspect twoSlots).planner.configured = false) ∧
    (Listens linked 7 ∧ linked.planner.configured = true ∧ linked.grader.version ≠ 0 ∧ linked.cutter.agreement = none) ∧
    (Listens agreedInspect 7 ∧ agreedInspect.cutter.agreement = some goodAgreement ∧ 0 < agreedInspect.pos.geometry.pitch ∧
      (∀ o ∈ agreedInspect.orders.queue, o.state ≠ .queued)) ∧
    (let n : Order := order 51 24000 1 0 0 0 [] .queued
     let s := withOrders [n] agreedInspect
     OrderLaw s ∧ (∀ o ∈ s.orders.queue, o.state ≠ .active) ∧ s.orders.queue.find? (fun q => q.state == .queued) = some n ∧
       goodAgreement.cMin ≤ n.length ∧ n.split ≤ goodAgreement.cap.across ∧
       n.length + s.planner.params.maxCull + goodAgreement.lead + s.planner.params.guard ≤ s.pos.geometry.dgc ∧ n.quantity = 0) := by
  simp only [OrderLaw]
  decide

theorem witness_NormalPlanCommits :
    let due (s : State) : Prop := (s.planner.planning = .ready ∨ s.planner.planning = .waiting) ∧
      s.planner.yPrev + s.planner.params.maxCull + s.plateLength ≤ s.tracker.frontier ∧ s.planner.table.length + 2 ≤ 128
    let noOrder := withOrders [] planState
    let bad (f : Fallback) := withOrders [{ order 50 24000 1 0 0 0 [] .active with fallback := f }]
      (withEntries [flawAt 1 .stone 1003200 1014000 60] planState)
    (planState.ctl.held = false ∧ due planState ∧ ¬ due produce) ∧
    (due noOrder ∧ (∀ o ∈ noOrder.orders.queue, o.state ≠ .active) ∧ noOrder.orders.exhausted = false) ∧
    (planState.activeOrder = some (order 50 24000 1 0 0 0 [] .active) ∧ planState.planner.openChain = none ∧
      planState.candidates.find? (fun c => (planState.evaluatePlate (order 50 24000 1 0 0 0 [] .active) (1000000 + c)).meetsTarget .a) = some 5051) ∧
    (let s := withEntries [] planState; (s.evaluatePlate (order 50 24000 1 0 0 0 [] .active) 1000000).rank ≤ Grade.a.rank) ∧
    (∀ f ∈ [Fallback.take, .cull], due (bad f) ∧
      ∀ c ∈ (bad f).candidates, ¬ ((bad f).evaluatePlate (order 50 24000 1 0 0 0 [] .active) (1000000 + c)).rank ≤ Grade.a.rank) := by decide

theorem witness_CandidateLengths : planState.cutter.agreement = some goodAgreement ∧ planState.candidates.length = 4 := by decide

set_option maxRecDepth 20000 in
theorem witness_ForcedPlanCommits :
    let testing (s : State) : Prop := s.planner.planning = .ready ∨ s.planner.planning = .waiting
    let normal (s : State) : Prop := s.planner.yPrev + s.planner.params.maxCull + s.plateLength ≤ s.tracker.frontier ∧
      s.planner.table.length + 2 ≤ 128
    let s := withPos (fun p => { p with y := 1000000 + 1500 + 120000 - 5600 - 2000 })
      { planState with tracker := { planState.tracker with frontier := 1000000 } }
    let full := withRecords (List.replicate 128 (plateRecord 1 .plate 0 4 .a 1 .sent true)) s
    (s.ctl.held = false ∧ testing s ∧ ¬ normal s ∧ s.planner.table.length + 1 ≤ 128 ∧
      s.planner.yPrev + min 24000 goodAgreement.cMin + s.pos.geometry.dgc ≤ s.pos.y + goodAgreement.lead + s.planner.params.guard ∧
      s.cutter.agreement = some goodAgreement ∧ s.activeOrder = some (order 50 24000 1 0 0 0 [] .active) ∧ s.planner.openChain = none) ∧
    (let t := withPos (fun p => { p with y := 1000000 + 6000 + 120000 - 5600 - 2000 }) (withOrders [] s)
     testing t ∧ ¬ normal t ∧ t.activeOrder = none ∧
       t.planner.yPrev + t.planner.params.maxCull + t.pos.geometry.dgc ≤ t.pos.y + goodAgreement.lead + t.planner.params.guard) ∧
    (testing full ∧ 128 ≤ full.planner.table.length) ∧ ¬ testing idle := by decide

theorem witness_AnswersWithoutEffectAndAccept :
    let done (k : Cut) : Prop := k.state = .done ∨ k.state = .rejected ∨ k.state = .missed
    (spillState.ctl.held = false ∧ (∀ h, spillState.planner.head = some h → h.cut.id = 300 → done h.cut) ∧
      ∀ r ∈ spillState.planner.table, r.cut.id = 300 → done r.cut) ∧
    ((spillState.planner.cuts.map fun h => h.cut.id).Nodup ∧ (spillState.planner.table.map PlateRecord.id).Nodup) ∧
    (spillState.planner.table =
        [plateRecord 201 .plate 2000000 2024000 .a 301 .accepted true, plateRecord 202 .cull 2024000 2027500 .x 302 .accepted false,
         plateRecord 203 .plate 2027500 2051500 .a 303 .accepted true] ++ plateRecord 204 .plate 2051500 2075500 .a 304 .sent true :: []) ∧
    (planState.planner.head = some ⟨⟨94, 1000000, .sent⟩, true⟩ ∧ (planState.planner.cuts.map fun h => h.cut.id).Nodup) := by
  refine ⟨⟨rfl, ?_, by decide⟩, by decide, rfl, by decide⟩
  rintro h hh -
  obtain rfl : ⟨⟨300, 2000000, .done⟩, true⟩ = h := Option.some.inj hh
  exact .inl rfl

theorem witness_CutDoneRetiresTheRecord :
    let live (k : Cut) : Prop := k.state = .sent ∨ k.state = .accepted
    let r := plateRecord 201 .plate 2000000 2024000 .a 301 .accepted true
    let o : Order := order 50 24000 1 0 10 7 [] .active
    (spillState.ctl.held = false ∧ spillState.port.mode = .produce ∧ (spillState.planner.cuts.map fun h => h.cut.id).Nodup ∧
      (spillState.planner.table.map PlateRecord.id).Nodup) ∧
    (spillState.findCut 302 = some ⟨⟨302, 2027500, .accepted⟩, some 202⟩ ∧
      (spillState.planner.cuts.filter (fun k => k.cut.state.live && decide (k.cut.pos < 2027500))) = [⟨⟨301, 2024000, .accepted⟩, some 201⟩]) ∧
    (planState.planner.head = some ⟨⟨94, 1000000, .sent⟩, true⟩ ∧ planState.port.mode = .produce ∧ planState.planner.table = []) ∧
    (spillState.planner.table = r :: spillState.planner.table.drop 1 ∧ live r.cut ∧ r.absorbedInto = none ∧
      (∀ q ∈ spillState.planner.table.drop 1, live q.cut → r.cut.pos ≤ q.cut.pos)) ∧
    (spillState.report.pendingClose = none ∧ spillState.orders.queue = [] ++ o :: [] ∧ r.order = some o.id ∧ OrderLaw spillState ∧ o.state ≠ .ending) ∧
    (let s := withOrders [{ o with state := .ending }] (withRecords [r] spillState)
     s.planner.table = r :: [] ∧ OrderLaw s ∧ s.port.mode = .produce) := by
  simp only [OrderLaw]
  decide

theorem witness_FailedCutSpillsTheRecord :
    let isOverdue (s : State) (k : Cut) : Prop := (k.state = .sent ∨ k.state = .accepted) ∧
      k.pos + s.pos.geometry.dgc + s.planner.params.overdue ≤ s.pos.y
    let late := withPos (fun p => { p with y := 2024000 + 120000 + 4000 }) spillState
    (idle.port.mode.cutting = false ∧ (∀ h ∈ spillState.planner.cuts, ¬ isOverdue spillState h.cut)) ∧
    (spillState.port.mode = .produce ∧ spillState.ctl.held = false ∧ (spillState.planner.cuts.map fun h => h.cut.id).Nodup ∧
      (spillState.planner.table.map PlateRecord.id).Nodup) ∧
    (∀ h ∈ late.planner.cuts, isOverdue late h.cut ↔ h.cut.id = 301) ∧
    (planState.planner.head = some ⟨⟨94, 1000000, .sent⟩, true⟩ ∧ planState.port.mode = .produce) := by decide

theorem witness_StopProductionDrains :
    (Listens (delayedFull produce) 7 ∧ produce.port.mode = .produce ∧ 4 ≤ (delayedFull produce).port.delayed.length) ∧
    (Listens spillState 7 ∧ spillState.port.delayed.length < 4 ∧ ∀ r, spillState.planner.table.getLast? = some r → r.state ≠ .spilled) ∧
    (let s := waitingFor .stopProduction 5 (inMode .draining produce)
     s.ctl.held = false ∧ s.port.mode = .draining ∧ s.planner.table = [] ∧ s.planner.head = none ∧ s.report.pendingClose = none ∧
       s.port.delayed.find? (fun d => d.kind == .stopProduction) = some ⟨.stopProduction, 5⟩) ∧
    (let s : State := waitingFor .closeShift 6 (waitingFor .stopProduction 5 (inMode .draining produce))
     s.port.delayed.find? (fun d => d.kind == .closeShift) = some ⟨.closeShift, 6⟩) ∧ produce.port.mode ≠ .draining := by
  refine ⟨by decide, ⟨by decide, by decide, ?_⟩, by decide, by decide, by decide⟩
  intro r hr
  obtain rfl : plateRecord 204 .plate 2051500 2075500 .a 304 .sent true = r := Option.some.inj hr
  decide

theorem witness_GradeTablesWrittenAndApplied :
    let rowOk (r : GradeRow) : Prop := match r with
      | .limit g k es ec cs cc => g ≤ 2 ∧ k ≤ 3 ∧ es ≤ 65535 ∧ ec ≤ 255 ∧ cs ≤ 65535 ∧ cc ≤ 255
      | .floor b st l f => b ≤ 10000 ∧ st ≤ 10000 ∧ l ≤ 10000 ∧ f ≤ 10000
      | .general w e a b c u x => w ≤ 2000 ∧ e ≤ 1000 ∧ a ≤ 15 ∧ b ≤ 15 ∧ c ≤ 15 ∧ u ≤ 15 ∧ x ≤ 15
      | .other _ => False
    let one : GradeRow := .limit 2 3 65535 255 65535 255
    let stagedTable : State := { linked with grader := { linked.grader with staged := version7, stagedFlag := true } }
    (Listens halted 7 ∧ halted.port.mode = .halted ∧ Listens linked 7 ∧ linked.port.mode ≠ .halted) ∧
    (rowOk one ∧ rowOk (.floor 10000 0 0 0) ∧ rowOk (.general 2000 1000 15 15 15 15 15) ∧ ¬ rowOk (.other 3) ∧ ¬ rowOk (.floor 10001 0 0 0)) ∧
    ([one, .floor 10000 0 0 0, .general 2000 1000 15 15 15 15 15].Pairwise fun p q => rowIdentity p ≠ rowIdentity q) ∧
    (¬ [one, one].Pairwise fun p q => rowIdentity p ≠ rowIdentity q) ∧ linked.grader.stagedFlag = false ∧
    (stagedTable.grader.stagedFlag = true ∧ stagedTable.cutter.agreement = none ∧ Listens stagedTable 7 ∧
      (let a : Agreement := { goodAgreement with cap := { goodCapability with destinations := 9 } }
       a.cap.destinations ≤ stagedTable.grader.staged.dest.get .x)) := by
  refine ⟨by decide, ⟨?_, ?_, ?_, ?_, ?_⟩, by decide, by decide, by decide, by decide⟩ <;> simp

theorem witness_PieceGrades :
    ((∀ k, ([] : List MapEntry) = (idle.map.entries.filter fun e =>
        decide (e.xFirst < 34000) && decide (2000 ≤ e.xLast) && decide (e.yFirst < 6000) && decide (0 ≤ e.yLast) &&
          decide (idle.grader.active.floors.get e.cls ≤ e.size)).filter fun e =>
        e.cls == k && e.edge idle.grader.active.band ⟨⟨2000, 34000⟩, ⟨0, 6000⟩⟩)) ∧
    ([⟨0, 4⟩, ⟨0, 4⟩, ⟨3, 8⟩] : List Span).Pairwise (fun p q => p.start ≤ q.start) ∧
    ([⟨2000, 34000, .a, 3, 0, 0⟩] : List Piece) ≠ [] := by
  refine ⟨fun k => ?_, by decide, by decide⟩
  cases k <;> decide

theorem witness_AgreementFormedAndLost :
    let s := linked
    let travel (c : Capability) : Prop :=
      max s.planner.params.minCull c.spacing + (c.lead * min c.speed s.pos.geometry.maxSpeed + 99) / 100 + s.planner.params.guard ≤ s.pos.geometry.dgc
    (s.ctl.held = false ∧ s.port.mode ≠ .halted ∧ s.cutter.ready = true ∧ s.cutter.agreement = none ∧ halted.port.mode = .halted) ∧
    (capabilityInRange goodCapability = true ∧ max s.planner.params.minCull goodCapability.spacing ≤ s.planner.params.maxCull ∧
      travel goodCapability ∧ (∀ g ∈ [Grade.a, .b, .c, .u, .x], s.grader.active.dest.get g < 12) ∧ ¬ s.grader.active.dest.get .x < 9) ∧
    (capabilityInRange { goodCapability with lead := 19 } = false ∧ capabilityInRange { goodCapability with lead := 5000 } = true ∧
      ¬ (10001 ≤ s.planner.params.maxCull) ∧
      ¬ (let s' := withPos (fun p => { p with geometry := { p.geometry with dgc := 9099 } }) s
         1500 + 5600 + s'.planner.params.guard ≤ s'.pos.geometry.dgc)) ∧
    (idle.cutter.ready = false ∧ produce.cutter.agreement = some goodAgreement ∧ produce.port.mode.cutting = true ∧
      agreedInspect.cutter.agreement = some goodAgreement ∧ agreedInspect.port.mode.cutting = false) := by decide

/-- IDLE after a line reset that a late Cutter Link Unit has not heard of. -/
def unheard : State := { idle with fault := { idle.fault with before := some ⟨.produce, false, true⟩ } }

theorem witness_loss_unheard :
    unheard.lossUnheard true ∧ (unheard.ctl.held = false ∧ (unheard.cutterMode true).cutting = true ∧ unheard.cutter.agreement = none ∧
      unheard.cutter.ready = false ∧ unheard.cutterMode false = .idle ∧ agreedInspect.cutterMode true = .inspect) ∧
    ¬ unheard.lossUnheard false := ⟨⟨rfl, _, rfl, rfl⟩, by decide, nofun⟩

/-- R187, R156: a late clearing after the line reset is reported once, and the late capability that follows adds no fault. -/
theorem test_unheard_loss_reported_once :
    let t := after (.cutterReadyCleared true) unheard
    (t.fault.slot.record.map FaultRecord.kind, (after (.capability goodCapability true) t).fault.slot) =
      (some .cutterLost, t.fault.slot) := by decide

theorem witness_CloseShiftByMode :
    let pending (s : State) : State := { s with report := { s.report with pendingClose := some ⟨[], 5, 6⟩ } }
    (idle.report.store.length < 4) ∧ (Listens idle 7 ∧ idle.port.mode.cutting = false ∧ idle.report.pendingClose = none) ∧
    (List.replicate 16 (0#8 : Byte)).length ≤ 16 ∧ 16 < (List.replicate 17 (0#8 : Byte)).length ∧
    (pending produce).report.pendingClose ≠ none ∧
    (Listens produce 7 ∧ produce.port.mode.cutting = true ∧ produce.port.delayed.length < 4) ∧
    (Listens (delayedFull produce) 7 ∧ 4 ≤ (delayedFull produce).port.delayed.length) ∧
    (let s := waitingFor .closeShift 6 (pending idle)
     s.ctl.held = false ∧ s.report.pendingClose = some ⟨[], 5, 6⟩ ∧ s.port.mode.cutting = false ∧
       s.port.delayed.find? (fun d => d.kind == .closeShift) = some ⟨.closeShift, 6⟩) := by decide

theorem witness_Reports :
    (idle.fault.slot = .empty ∧ (withFault (.held rejectFault) idle).fault.slot = .held rejectFault ∧
      (withFault (.haltHeld rejectFault) halted).fault.slot = .haltHeld rejectFault) ∧
    (Listens idle 7 ∧ idle.port.mode = .idle ∧ Listens halted 7 ∧ halted.port.mode = .halted) ∧
    (Listens produce 7 ∧ produce.port.mode.scanning = true ∧ produce.fault.slot = .empty ∧ produce.report.pendingClose = none ∧
      produce.report.shift.voidCount ≤ 4294967295) ∧
    (halted.ctl.held = false ∧ halted.fault.before = some ⟨.produce, false, false⟩ ∧ Mode.produce.scanning = true ∧
      halted.pos.breakLevel = false ∧ halted.pos.geometry.breakAction = .halt) := by decide

theorem witness_ClearFault :
    (Listens idle 7 ∧ idle.fault.slot = .empty) ∧
    (let s := withFault (.held rejectFault) idle; Listens s 7 ∧ s.fault.slot = .held rejectFault ∧ rejectFault.number = 37) ∧
    (let s := withFault (.haltHeld rejectFault) halted; Listens s 7 ∧ s.fault.slot = .haltHeld rejectFault ∧ s.cutter.held = none) := by decide

/-! ### The same for the clauses that chain commands, lanes and modes -/

/-- The overlapping lanes 0 and 1: the midpoint of 16,000 and 16,384 is 16,192. -/
def overlapping : State := ready.modLane 1 fun l => { l with geometry := ⟨16000, 1, 1000, 1⟩, configured := true }

/-- A third lane that begins before lane 0 ends. -/
def threeDeep : State :=
  (ready.modLane 1 fun l => { l with geometry := ⟨16000, 1, 1000, 1⟩, configured := true }).modLane 2 fun l =>
    { l with geometry := ⟨16300, 1, 1000, 1⟩, configured := true }

theorem witness_owned_spans :
    overlapping.ownedSpans = [] ++ (0, ⟨0, 16192⟩) :: [(1, ⟨16192, 17000⟩)] ∧ overlapping.spansRefused = false ∧
    (threeDeep.ownedSpans.map fun o => o.1) = [] ++ 0 :: 1 :: 2 :: [] ∧ threeDeep.spansRefused = true := by decide

theorem witness_marking_ends :
    let marking := withPos (fun p => { p with breakMarking := true, breakLevel := true, lastLine := some 4 }) produce
    (marking.map.full = none ∧ ∀ b ∈ marking.map.blind, b.lane = none → b.yEnd ≠ none) ∧
    (let s := withBlind [closedBlind 3, allBlind 4] marking
     s.pos.lastLine = some 4 ∧ s.map.blind.find? (fun b => b.lane.isNone && b.yEnd.isNone) = some (allBlind 4)) ∧
    (let s : State := { produce with map := { idle.map with full := some 9, fullEnd := some 4 } }
     (∀ b ∈ s.map.blind, b.lane = none → b.yEnd ≠ none) ∧
     (withBlind [allBlind 4] s).map.blind.find? (fun b => b.lane.isNone && b.yEnd.isNone) = some (allBlind 4)) := by decide

/-- IDLE with an agreement, an order whose plate is split at 18,000 and one that is not split. -/
def ordersInIdle : State := withOrders [{ order60 with state := .queued }, order 61 24000 1 0 0 0 [] .queued] (withAgreement (some goodAgreement) idle)

theorem witness_settings_withdraw_orders :
    OrderLaw ordersInIdle ∧ Listens ordersInIdle 7 ∧ ordersInIdle.port.mode = .idle ∧ ordersInIdle.cutter.agreement = some goodAgreement ∧
    (¬ ∀ x ∈ order60.positions, 18000 < x ∧ x < 34000) ∧ (∀ x ∈ order60.positions, 17999 < x ∧ x < 34000) ∧
    order60.fits ⟨goodCapability, 700, 1500, 5600⟩ ⟨500, 12000, 50, 20000, 500⟩ 61600 = true ∧
    order60.fits ⟨goodCapability, 700, 1500, 5600⟩ ⟨500, 12000, 50, 20000, 500⟩ 61599 = false := by
  simp only [OrderLaw]
  decide

theorem witness_lane_leaves :
    (let s := withLane3 { activeLane3.lanes[3] with owned := some ⟨0, 2000⟩ } activeLane3
     s.lanes[3].state = .active ∧ ∀ o, s.lanes[3].owned = some o → ¬ max o.start s.pos.geometry.xL < min o.stop s.pos.geometry.xR) ∧
    (let s := withBlind (List.replicate 64 (closedBlind 1)) activeLane3
     s.lanes[3].state = .active ∧ 64 ≤ s.map.blind.length ∧ s.lanes[3].owned = some ⟨14500, 18600⟩ ∧ s.fault.slot = .empty) ∧
    (let s := withLane3 { activeLane3.lanes[3] with state := .crowded, interval := some 1 } activeLane3
     s.port.mode.scanning = true ∧ s.lanes[3].state = .crowded ∧ s.tracker.active = some twoSlots) := by
  refine ⟨⟨by decide, fun o h => ?_⟩, by decide, by decide⟩
  obtain rfl : (⟨0, 2000⟩ : Span) = o := Option.some.inj h
  decide

/-- Lane 3 with a narrow streak in column 5 at its 63rd line. -/
def narrowLane3 (dyn : List Nat) : State :=
  withLane3 { activeLane3.lanes[3] with dynMasking := true, persistence := [(5, 63), (9, 2)], dynColumns := dyn } activeLane3

theorem haltLaw_narrow : HaltLaw (narrowLane3 []) := haltLaw_of_empty _ (by decide) rfl

theorem witness_inspecting_lane_takes_a_digest :
    (∀ st ∈ [LaneState.active, .crowded], ∀ acc ∈ [8000, 8001],
      let s := withLane3 { activeLane3.lanes[3] with state := st, acceptance := acc } activeLane3
      s.ctl.held = false ∧ s.port.mode.scanning = true ∧ s.lanes[3].state ∈ [LaneState.active, .crowded] ∧ s.lanes[3].expected = 2000 ∧
      s.pos.lastLine = some 2000 ∧ s.tracker.apply = .none ∧ s.tracker.active = some twoSlots ∧ s.map.blind.length < 64) ∧
    8000 ≤ 2000 * activeLane3.pos.geometry.pitch ∧ 2000 * activeLane3.pos.geometry.pitch < 8001 ∧ NoTriggerWork activeLane3 ∧
    (let s := withLane3 { activeLane3.lanes[3] with state := .crowded } activeLane3
     s.lanes[3].state = .crowded ∧ s.tracker.tables[3].flaws.length ≤ 24 ∧ s.port.mode ≠ .halted) ∧
    (handRun twoSlots 3 ⟨2000, 1, 2, 200, .dark, .bright, false⟩ activeLane3).2 = false ∧
    (handRun twoSlots 3 ⟨2000, 1, 2, 200, .dark, .bright, false⟩
      (activeLane3.modTable 3 fun _ => ⟨List.replicate 32 { spot with seenFirst := 90, seenLast := 90 }, []⟩)).2 = true := by
  exact ⟨by decide, by decide, by decide, noTriggerWork _ (by decide), by decide, by decide, by decide⟩

theorem witness_narrow_runs :
    let count (c : Nat) : Nat := (((narrowLane3 []).lanes[3].persistence.find? fun e => e.1 == c).map fun e => e.2).getD 0 + 1
    (narrowLane3 []).lanes[3].dynMasking = true ∧ activeLane3.lanes[3].dynMasking = false ∧ (narrowLane3 []).port.mode ≠ .halted ∧
    (64 ≤ count 5 ∧ ∀ x ∈ [5, 9, 12], 64 ≤ count x → x = 5) ∧
    ((narrowLane3 [1, 2, 3, 4, 6, 7, 8]).lanes[3].dynColumns.length < 8 ∧ 5 ∉ (narrowLane3 [1, 2, 3, 4, 6, 7, 8]).lanes[3].dynColumns) ∧
    (8 ≤ (narrowLane3 [1, 2, 3, 4, 6, 7, 8, 9]).lanes[3].dynColumns.length ∧ 5 ∈ (narrowLane3 [5]).lanes[3].dynColumns) ∧
    (let s := (narrowLane3 []).modTable 3 fun _ => ⟨[{ spot with seenFirst := 4, seenLast := 5 }, { streak with seenFirst := 6, seenLast := 7 }], []⟩
     (s.tracker.tables[3].flaws.map OpenFlaw.id).Nodup ∧ (followNarrow 2000 3 [5, 9, 12] s).port.mode = s.port.mode) := by decide

theorem witness_marks_at_a_join :
    let m : Mark := ⟨6000, 10349, 1201, 1204⟩
    let s := lane5.modTable 5 fun _ => ⟨[spot], [m]⟩
    let overlaps (r : KeptRun) (a b line : Nat) : Prop := r.first ≤ b + twoSlots.join ∧ a ≤ r.last + twoSlots.join ∧ r.line ≤ line + twoSlots.gap
    let r : KeptRun := ⟨10350, 1203, 1204, 260, .bright, .bright, false⟩
    s.tracker.tables[5].flaws = [] ++ spot :: [] ∧ overlaps r spot.seenFirst spot.seenLast spot.lastLine ∧ spot.pred = none ∧
    m ∈ s.tracker.tables[5].marks ∧ overlaps r m.seenFirst m.seenLast m.lastLine := by decide

theorem witness_marks_expire :
    let old (n line : Nat) : Mark := ⟨n, line, 1, 2⟩
    let long : OpenFlaw := ⟨7001, 10000, 10499, 1200, 1209, 1200, 1201, 310, ⟨true, true, false⟩, true, false, none⟩
    let s := lane5.modTable 5 fun _ => ⟨[long], old 1 10495 :: (List.range 31).map fun k => old (k + 2) 10496⟩
    s.port.mode.scanning = true ∧ (s.tracker.tables[5].flaws.map OpenFlaw.id).Nodup ∧ s.tracker.tables[5].marks.length ≤ 32 ∧
    (trackerWork 10499 5 s).port.mode.scanning = true := by decide

theorem witness_closed_flaw_classes :
    let long (along across : Nat) : Prop := twoSlots.aspect * min along across ≤ max along across
    (long 4 32 ∧ ¬ long 4 31) ∧ (twoSlots.stone ≤ 250 ∧ ¬ twoSlots.stone ≤ 249) ∧ spot.darkInBright = true ∧
    streak.darkInBright = false ∧ lane5.port.mode ≠ .halted ∧ (⟨false, false, true⟩ : Views) ≠ spot.views := by decide

/-- A full map of entries that meet no seam of lane 3, with a blind list. -/
def fullMap (bs : List Interval) : State := withBlind bs (withEntries (List.replicate 1024 (flawAt 1 .stone 0 4 5)) (inspect twoSlots))

theorem fullMap_without_seam (bs : List Interval) :
    1024 ≤ (fullMap bs).map.entries.length ∧ ∀ c ∈ (fullMap bs).map.entries, (fullMap bs).seamCandidate twoSlots 3 bubble9120 c = false := by
  refine ⟨(List.length_replicate ..).ge, fun c hc => ?_⟩
  have : c = flawAt 1 .stone 0 4 5 := (List.mem_replicate.1 hc).2
  subst this
  rfl

set_option maxRecDepth 100000 in
/-- A suspect column's flaw refused by a full map with a full blind list: the narrow runs of line 2,000 end in HALTED. -/
theorem witness_narrow_runs_halt :
    let s := ((fullMap (List.replicate 64 (closedBlind 1))).modLane 3 fun _ => (narrowLane3 []).lanes[3]).modTable 3 fun _ =>
      ⟨[{ spot with seenFirst := 4, seenLast := 5 }], []⟩
    s.port.mode.scanning = true ∧ (followNarrow 2000 3 [5] s).port.mode = .halted := by decide

theorem witness_refused_flaw_is_covered :
    let closedAll (id y : Nat) : Interval := { allBlind id with yEnd := some y }
    let bs := [closedAll 2 70000, closedAll 3 61000, closedBlind 4]
    (∀ q ∈ bs, q.lane = none → q.yEnd ≠ none ∧ (q = closedAll 3 61000 ∨ q.id < 3)) ∧
    (closedAll 3 61000 ∈ bs ∧ (closedAll 3 61000).lane = none ∧ (closedAll 3 61000).yEnd = some 61000) ∧ bs.length < 64 ∧
    (let o := { allBlind 4 with yStart := 60001 }
     ([closedBlind 3, o] : List Interval).find? (fun b => b.lane.isNone && b.yEnd.isNone) = some o ∧ bubble9120.yFirst < o.yStart ∧
       ∀ q ∈ [closedBlind 3, o], q.lane = none → q.yEnd = none) := by decide

theorem witness_plans_count_toward_orders :
    let three (planned : Nat) (o : Order) := withOrders [{ order 50 24000 1 3 planned 0 [] .active with fallback := .take }, o] planState
    let next := order 51 24000 1 1 0 0 [] .queued
    OrderLaw planState ∧ OrderLaw (three 2 next) ∧ min 4294967295 (2 + 1) = 3 ∧ min 4294967295 (1 + 1) ≠ 3 ∧
    (three 2 next).fitCheck next = none ∧ next.planned < next.quantity ∧ (three 2 next).port.mode = .produce ∧
    (let s := withRecords [{ plateRecord 1 .plate 976000 1000000 .x 94 .rejected false with state := .spilled }] planState
     s.planner.openChain ≠ none) := by
  simp only [OrderLaw]
  decide

/-- Plate 201 spilled with the cull 202 absorbed into its chain. -/
def chained : State :=
  withRecords
    [{ plateRecord 201 .plate 2000000 2024000 .x 301 .rejected false with state := .spilled },
     { plateRecord 202 .cull 2024000 2027500 .x 302 .accepted false with absorbedInto := some 201 },
     plateRecord 203 .plate 2027500 2051500 .a 303 .accepted true] spillState

/-- Plate 203 and, after it, plate 204 whose chain stays open. -/
def openChained : State :=
  withRecords
    [plateRecord 203 .plate 2027500 2051500 .a 303 .accepted true,
     { plateRecord 204 .plate 2051500 2075500 .x 304 .missed false with state := .spilled }] spillState

theorem witness_chains_retire :
    let live (k : Cut) : Prop := k.state = .sent ∨ k.state = .accepted
    let chain (x : PlateRecord) : Nat := x.absorbedInto.getD x.id
    let r := { plateRecord 202 .cull 2024000 2027500 .x 302 .accepted false with absorbedInto := some 201 }
    let last := { plateRecord 204 .plate 2051500 2075500 .x 304 .missed false with state := .spilled }
    (∀ m ∈ [Mode.produce, .draining],
      let s := inMode m chained
      s.port.mode.cutting = true ∧ (s.planner.cuts.map fun h => h.cut.id).Nodup ∧ (s.planner.table.map PlateRecord.id).Nodup ∧
      s.planner.table = s.planner.table.take 1 ++ r :: s.planner.table.drop 2 ∧ live r.cut ∧ r.absorbedInto ≠ none ∧
      (∀ x ∈ s.planner.table.take 1, chain x = chain r) ∧ (∀ x ∈ s.planner.table.drop 2, chain x ≠ chain r) ∧
      (∀ q ∈ s.planner.table.take 1 ++ s.planner.table.drop 2, live q.cut → r.cut.pos ≤ q.cut.pos) ∧
      ((s.planner.table.drop 2).getLast?.map fun x => x.state) ≠ some .spilled ∧ ∀ o ∈ s.orders.queue, o.state ≠ .ending) ∧
    (let s := inMode .draining openChained
     s.planner.table = s.planner.table.take 1 ++ last :: [] ∧ [last].getLast? = some last ∧ last.state = .spilled ∧
     (∀ x ∈ [last], chain x = chain last ∧ chain x ≠ 203) ∧ (s.planner.cuts.map fun h => h.cut.id).Nodup ∧
     (s.planner.table.map PlateRecord.id).Nodup) ∧
    (let first := plateRecord 201 .plate 2000000 2024000 .a 301 .accepted true
     let s := waitingFor .closeShift 6 { spillState with report := { spillState.report with pendingClose := some ⟨[], 5, 6⟩ } }
     s.report.pendingClose = some ⟨[], 5, 6⟩ ∧ s.port.mode = .produce ∧ (s.planner.cuts.map fun h => h.cut.id).Nodup ∧
     (s.planner.table.map PlateRecord.id).Nodup ∧ s.planner.table = first :: s.planner.table.drop 1 ∧ live first.cut ∧
     first.absorbedInto = none ∧ (s.planner.head.map fun h => h.cut.state) = some .done ∧
     (∀ q ∈ s.planner.table.drop 1, live q.cut → first.cut.pos ≤ q.cut.pos) ∧
     (after (.cutDone 301) s).report.store.length = 1) := by decide

theorem witness_drains_with_failed_cuts :
    let one := withRecords [plateRecord 201 .plate 2000000 2024000 .a 301 .accepted true] (inMode .draining spillState)
    let alone := withRecords [{ plateRecord 204 .plate 2051500 2075500 .x 304 .missed false with state := .spilled }] spillState
    (one.port.mode = .draining ∧ one.planner.table.length = 1 ∧ (one.planner.cuts.map fun h => h.cut.id).Nodup) ∧
    ((inMode .draining spillState).planner.table.getLast?.map fun x => x.state) = some .committed ∧
    (Listens alone 7 ∧ alone.port.mode = .produce ∧ alone.port.delayed.length < 4 ∧ (alone.planner.table.map PlateRecord.id).Nodup ∧
      (alone.planner.table.getLast?.map fun x => x.state) = some .spilled ∧ ∀ o ∈ alone.orders.queue, o.state ≠ .ending) := by decide

theorem witness_fit_checks_at_an_agreement :
    let tight : Capability := { goodCapability with spacing := 7000 }
    let short : Order := order 70 6999 1 0 0 0 [] .active
    let next : Order := order 72 30000 2 80 0 0 [18000] .queued
    let base := withOrders [short, next] (withRecords [{ plateRecord 1 .plate 0 6999 .a 1 .sent true with order := some 70 }] produce)
    let s : State := { base with grader := linked.grader }
    OrderLaw s ∧ s.port.mode = .produce ∧ s.cutter.ready = true ∧ max s.planner.params.minCull tight.spacing ≤ s.planner.params.maxCull ∧
    short.fits ⟨tight, 700, 7000, 5600⟩ s.planner.params s.pos.geometry.dgc = false ∧
    next.fits ⟨tight, 700, 7000, 5600⟩ s.planner.params s.pos.geometry.dgc = true ∧
    (∃ r ∈ s.planner.table, r.order = some 70 ∧ r.state ≠ .void) ∧
    (([] ++ { short with state := .ending } :: [next] : List Order).find? fun q => q.state == .queued) = some next ∧
    next.planned < next.quantity := by
  simp only [OrderLaw]
  decide

theorem witness_store_of_four :
    let h (n : Nat) : Shift := { idle.report.shift with seq := n }
    let s : State := { idle with report := { idle.report with store := [h 4294967294, h 4294967295, h 1, h 2] } }
    4 ≤ s.report.store.length ∧ s.report.store = [h 4294967294, h 4294967295] ++ h 1 :: [h 2] ∧
    (∀ x ∈ [h 4294967294, h 4294967295], (h 1).seq < x.seq) ∧ (∀ x ∈ [h 2], (h 1).seq ≤ x.seq) ∧ idle.report.store.length < 4 := by
  decide

/-- R198, R199, R204: once RESET has been taken the drain completes but its delayed requests stay and receive no reply. -/
theorem test_no_reply_after_reset :
    let s := afterResetTaken (waitingFor .stopProduction 5 (inMode .draining produce))
    let t := after .drainComplete s
    (t.port.mode, t.out.replies, t.port.delayed) = (.inspect, [], [⟨.stopProduction, 5⟩]) := by decide

/-- R204: a power-on with the RESET pin asserted leaves the part held, and the release of the pin performs the full reset. -/
theorem test_power_on_with_reset_asserted :
    let t := after (.powerOn ⟨false, false, false, true, true, State.reset.ctl.straps⟩) produce
    (t.ctl.held, (after .stall t) = t, (after (.resetPin false State.reset.ctl.straps) t).ctl.held) = (true, True, false) := by
  simp only [Prod.mk.injEq]
  exact ⟨by decide, eq_true (by decide), by decide⟩

theorem witness_silence_after_reset :
    (afterResetTaken idle).ctl.resetting = true ∧ (heldInReset idle).ctl.held = true ∧ performsFullReset .drainComplete = false ∧
    (∃ t, exec .drainComplete (afterResetTaken idle) = .next t) ∧ ∃ t, exec (.breakAsserted false) (heldInReset idle) = .next t :=
  ⟨rfl, rfl, rfl, ⟨_, rfl⟩, _, rfl⟩

def brightOnly : DetectionSet := ⟨[⟨.bright, 120, 1000, 3000⟩], 1, 3, 2000, 8, 250⟩

/-- Lane 3 before its digest of line 2,001 in a switch to `now` at line 2,002. -/
def switching (now : DetectionSet) : State :=
  let s := withApply (.switched 2002) (atLine 2002 8008 (withLane3 { activeLane3.lanes[3] with expected := 2001 } activeLane3))
  { s with tracker := { s.tracker with outgoing := some twoSlots, active := some now } }

theorem witness_sets_in_force :
    InForce activeLane3 2000 twoSlots twoSlots ∧ (∀ k, InForce (settling3 k) 15 twoSlots twoSlots) ∧
    (∀ now, InForce (switching now) 2001 twoSlots now) ∧
    (∀ now, InForce (switching now) 2002 now now) ∧ NoTriggerWork (switching brightOnly) ∧
    (∃ q ∈ threeSlots.slots, q.kind = .dark) ∧ ∀ q ∈ brightOnly.slots, q.kind ≠ .dark :=
  ⟨⟨rfl, nofun, fun _ => rfl⟩, fun _ => ⟨rfl, nofun, fun _ => rfl⟩,
    fun _ => ⟨rfl, fun _ _ _ => rfl, fun h => absurd (h 2002 rfl) (by decide)⟩,
    fun _ => ⟨rfl, fun l hl hn => by injection hl with hl; omega, fun _ => rfl⟩, noTriggerWork _ (by decide), by decide, by decide⟩

/-- R29: of four samples below the limit the third leaves the lane ACTIVE, its ring untouched. -/
theorem test_third_sample_outside :
    let s := withLane3 { activeLane3.lanes[3] with limitRuns := Vector.replicate 5 2 } activeLane3
    let t := after (.gantryDigest 3 ⟨2000, 0, false, false, 999, []⟩) s
    ((t.lane 3).state, (t.lane 3).limitRuns[0], (t.lane 3).rings.bright, (t.lane 3).expected) =
      (.active, 3, List.replicate 8 2100, 2001) := by decide

/-- R41: below the switch line the runs of a kind that the new set has not are discarded and its ring stays discarded. -/
theorem test_digest_below_the_switch_line :
    let s := withLane3 { activeLane3.lanes[3] with rings := ⟨List.replicate 8 2100, [], []⟩, expected := 2001 } (switching brightOnly)
    let t := after (.gantryDigest 3 ⟨2001, 1, false, false, 100, [⟨1, 9, 4095, .dark⟩]⟩) s
    ((t.lane 3).rings.dark, (t.table 3).flaws, (t.lane 3).expected) = ([], [], 2002) := by decide

theorem witness_sample_outside_its_limits :
    (∀ k ∈ [0, 2], let s := withLane3 { activeLane3.lanes[3] with limitRuns := Vector.replicate 5 k } activeLane3
      s.lanes[3].limitRuns[0] ≤ 2) ∧ ¬ (1000 ≤ 999) ∧ ¬ (3001 ≤ 3000) ∧ (settling3 7).lanes[3].limitRuns[1] ≤ 2 := by decide

set_option maxRecDepth 100000 in
/-- The overflow flag halts the line by a full blind list. -/
theorem witness_overflow_halts :
    let s := withBlind (List.replicate 64 (closedBlind 1)) activeLane3
    s.fault.slot = .empty ∧ s.lanes[3].state = .active ∧ (laneTo 3 .crowded s).port.mode = .halted := by decide

set_option maxRecDepth 100000 in
/-- So does a dropped run. -/
theorem witness_dropped_run_halts :
    let s := (withBlind (List.replicate 64 (closedBlind 1)) activeLane3).modTable 3 fun _ =>
      ⟨List.replicate 32 { spot with seenFirst := 90, seenLast := 90 }, []⟩
    s.port.mode ≠ .halted ∧ (takeRun twoSlots 3 ⟨2000, 1, 2, 200, .dark, .bright, false⟩ s).port.mode = .halted := by decide

/-- R49: spot was seen on the run's line, the streak was not: the last-seen range leaves the streak's out. -/
theorem test_merge_last_seen :
    let s := lane5.modTable 5 fun _ => ⟨[streak, { spot with lastLine := 10350, pred := some 6999 }], []⟩
    let fs := ((handRun twoSlots 5 ⟨10350, 1202, 1203, 260, .bright, .oblique, true⟩ s).1.table 5).flaws
    fs.map (fun f => (f.seenFirst, f.seenLast, f.views, f.saturated, f.pred)) =
      [(1202, 1207, ⟨true, true, true⟩, true, some 6999)] := by decide

theorem witness_merges :
    let hit (r : KeptRun) (f : OpenFlaw) : Prop :=
      r.first ≤ f.seenLast + twoSlots.join ∧ f.seenFirst ≤ r.last + twoSlots.join ∧ r.line ≤ f.lastLine + twoSlots.gap
    let r : KeptRun := ⟨10350, 1202, 1204, 260, .bright, .bright, false⟩
    let m : Mark := ⟨6000, 10349, 1201, 1204⟩
    let s := lane5.modTable 5 fun _ => ⟨[streak, spot], [m]⟩
    (∀ f ∈ s.tracker.tables[5].flaws, hit r f ∧ f.pred = none ∧ streak.id ≤ f.id) ∧ streak.id ≠ spot.id ∧
    (s.tracker.tables[5].flaws.map OpenFlaw.id).Nodup ∧ r.first ≤ m.seenLast + twoSlots.join ∧ r.line ≤ { spot with lastLine := 10350 }.lastLine := by
  decide

theorem witness_refused_flaw :
    let closedAll (id y : Nat) : Interval := { allBlind id with yEnd := some y }
    (∀ bs ∈ [List.replicate 64 (closedBlind 1), List.replicate 63 (closedBlind 1)], ∀ q ∈ bs, q.lane = none → q.yEnd ≠ none) ∧
    (∀ q ∈ List.replicate 64 (closedBlind 1), q.lane = none → q.yEnd = none) ∧ (inspect twoSlots).port.mode.scanning = true ∧
    (inspect twoSlots).fault.slot = .empty ∧
    (let o := allBlind 4
     let bs := closedAll 3 61000 :: o :: List.replicate 62 (closedBlind 1)
     64 ≤ bs.length ∧ bs.find? (fun b => b.lane.isNone && b.yEnd.isNone) = some o ∧
       (∀ q ∈ bs, q.lane = none → q.yEnd ≠ none → q = closedAll 3 61000 ∨ q.id < 3) ∧ max bubble9120.yFirst 61000 = 61000 ∧
       o.yStart ≤ 61000 ∧ 61000 < { o with yStart := 61001 }.yStart) := by decide

/-- A map of 1,024 entries of which the first touches the bubble at the seam of lanes 3 and 4. -/
theorem witness_merge_in_a_full_map :
    let es := stone9118 :: (List.range 1023).map fun k => flawAt (k + 1) .stone 0 4 5
    let s : State := { seamState with map := { idle.map with entries := es } }
    es.length = 1024 ∧ s.map.entries.find? (s.seamCandidate twoSlots 3 bubble9120) = some stone9118 ∧ (es.map MapEntry.id).Nodup := by
  refine ⟨by simp, rfl, ?_⟩
  rw [List.map_cons, List.nodup_cons, List.map_map]
  exact ⟨by simp [stone9118, flawAt], List.nodup_range.map fun a b h => by simpa [flawAt] using h⟩

theorem witness_seam_candidate :
    let s : State := { seamState with map := { idle.map with entries := [stone9118] } }
    s.seamCandidate twoSlots 3 bubble9120 stone9118 = true ∧
    (s.seamCandidate twoSlots 3 { bubble9120 with yFirst := 60095, yLast := 60095 } stone9118 = true ∧
     s.seamCandidate twoSlots 3 { bubble9120 with yFirst := 60096, yLast := 60096 } stone9118 = false) ∧
    s.ownedSpans.map (fun o => o.1) = [] ++ 3 :: 4 :: [] := by decide

theorem witness_map_full_end_noted :
    let s : State := { lane5 with map := { idle.map with full := some 9, room := true } }
    (InForce s 10499 twoSlots twoSlots ∧ s.map.fullEnd = none ∧ s.port.mode.scanning = true ∧ s.map.room = true) ∧
    ((trackerWork 10499 5 s).port.mode = s.port.mode ∧ (trackerWork 10499 5 s).map.full ≠ none) ∧
    ((trackerWork 10499 5 { s with map := { s.map with room := false } }).port.mode = s.port.mode ∧ s.port.mode ≠ .idle) ∧
    ((trackerWork 10499 5 { s with map := { s.map with fullEnd := some 3 } }).map.fullEnd = some 3) ∧
    (let q : State := { inspect twoSlots with map := { idle.map with full := some 9, room := true } }
     (∀ i : LaneId, q.lanes[i.val].state = .off ∨ q.lanes[i.val].state = .faulted) ∧ q.map.full ≠ none ∧ q.map.fullEnd = none ∧
       q.map.room = true) ∧
    ¬ ∀ i : LaneId, s.lanes[i.val].state = .off ∨ s.lanes[i.val].state = .faulted :=
  ⟨⟨⟨rfl, nofun, fun _ => rfl⟩, rfl, rfl, rfl⟩, by decide, by decide, by decide, by decide, by decide⟩

theorem witness_plan_joins_an_open_chain :
    let spilled := { plateRecord 1 .plate 976000 1000000 .x 94 .rejected false with state := .spilled }
    let s := withRecords [spilled] planState
    let leadIn : State := { planState with planner := { planState.planner with head := some ⟨⟨94, 1000000, .missed⟩, true⟩ } }
    s.planner.openChain = some 1 ∧ (s.planner.planning = .ready ∧
      s.planner.yPrev + s.planner.params.maxCull + s.plateLength ≤ s.tracker.frontier ∧ s.planner.table.length + 2 ≤ 128) ∧
    leadIn.planner.openChain = some 0 ∧ planState.planner.openChain = none := by decide

/-- R124: the cull of the plan joins the open chain, and the plate after it does not. -/
theorem test_plan_joins_an_open_chain :
    let spilled := { plateRecord 1 .plate 976000 1000000 .x 94 .rejected false with state := .spilled }
    let t := after .normalPlan (withRecords [spilled] planState)
    (t.planner.table.drop 1).map (fun r => (r.absorbedInto, r.grade, r.flawRefs)) = [(some 1, .x, []), (none, .a, [3])] := by decide

theorem witness_several_cuts_fail :
    let isOverdue (s : State) (k : Cut) : Prop := (k.state = .sent ∨ k.state = .accepted) ∧
      k.pos + s.pos.geometry.dgc + s.planner.params.overdue ≤ s.pos.y
    let chain (x : PlateRecord) : Nat := x.absorbedInto.getD x.id
    let late := withPos (fun p => { p with y := 2027500 + 120000 + 4000 }) spillState
    let spilled203 := { plateRecord 203 .plate 2027500 2051500 .x 303 .missed false with state := .spilled }
    let last := { plateRecord 204 .plate 2051500 2075500 .x 304 .missed false with state := .spilled, absorbedInto := some 203 }
    let table := [spilled203, last]
    (late.port.mode.cutting = true ∧ ∀ h ∈ late.planner.cuts, h ∈ (late.planner.cuts.drop 1).take 2 ↔ isOverdue late h.cut) ∧
    (let s := inMode .draining openChained
     s.planner.table = [] ++ plateRecord 203 .plate 2027500 2051500 .a 303 .accepted true :: s.planner.table.drop 1 ∧
     s.port.mode = .draining ∧ (after (.cutMissed 303) s).planner.table = []) ∧
    (table.head? = some spilled203 ∧ table.getLast? = some last ∧ last.state = .spilled ∧ ∀ x ∈ table, chain x = chain last) ∧
    (let open204 := { plateRecord 204 .plate 2051500 2075500 .x 304 .missed false with state := .spilled }
     let s := withRecords [open204] (inMode .draining planState)
     s.planner.head = some ⟨⟨94, 1000000, .sent⟩, true⟩ ∧ s.planner.table.getLast? = some open204 ∧ s.port.mode = .draining ∧
       (after (.cutMissed 94) s).planner.table = []) := by decide

/-- R159, R169: the capability held in HALTED forms its agreement at the line reset. -/
theorem test_held_capability_at_the_line_reset :
    let s : State := { halted with cutter := { linked.cutter with agreement := none, held := some goodCapability }, grader := linked.grader }
    let t := after (.clearFault 7 (.fields 38)) s
    (t.port.mode, t.cutter.held, t.cutter.agreement.map Agreement.cap) = (.idle, none, some goodCapability) := by decide

theorem witness_capability_held :
    let s : State := { halted with cutter := { halted.cutter with held := some goodCapability } }
    Listens s 7 ∧ s.fault.slot = halted.fault.slot ∧ s.cutter.held = some goodCapability ∧ s.ctl.held = false ∧
    ({ s with cutter := { s.cutter with ready := false } } : State).cutter.ready = false := by decide

theorem reset_meets_the_laws :
    HaltLaw State.reset ∧ Capacities State.reset ∧ OrderLaw State.reset ∧ ListOrders State.reset ∧ RibbonRanges State.reset.pos ∧
    ∃ t, step State.reset = .next t :=
  ⟨haltLaw_of_empty _ (by decide) rfl,
    ⟨by decide, by simp [Tracker.holds, State.reset, Tracker.initial], by decide, by decide, by decide, by decide, by decide, by decide,
      by decide, by decide⟩,
    by simp only [OrderLaw]; decide, by simp only [ListOrders]; decide, ⟨by decide, by decide, by decide, by decide, by decide⟩, _, rfl⟩

theorem reset_lanes_in_capacity (i : LaneId) : LaneCapacities State.reset.lanes[i.val] State.reset.tracker.tables[i.val] := by
  have h : ∀ i : LaneId, (State.reset.lanes[i.val].rings = ⟨[], [], []⟩ ∧ State.reset.lanes[i.val].dynColumns = [] ∧
      State.reset.lanes[i.val].staticMask = []) ∧
      State.reset.tracker.tables[i.val] = ⟨[], []⟩ := by decide
  obtain ⟨⟨h1, h2, h4⟩, h3⟩ := h i
  constructor <;> simp [h1, h2, h3, h4]

theorem witness_laws_outside_reset :
    performsFullReset .stall = false ∧ (∃ t, exec (.encoderStateChange true false false) idle = .next t) ∧
    (∃ t, exec (.cutReject 302 .spacing) spillState = .next t) ∧ Instr.cutReject 302 .spacing ≠ .normalPlan :=
  ⟨rfl, ⟨_, rfl⟩, ⟨_, rfl⟩, by decide⟩

end Sys2Proof.Tests
end

section
/-!
O27 (R60): the check of a detection set against Table 3-3, the copy it stages, and WRITE DETECTION SET.
-/

namespace Sys2Proof.Machine

/-! ### Reading a list of fields -/

theorem readAll_eq_some {α β : Type} {f : α → Option β} {g : α → β} {xs : List α} (h : ∀ x ∈ xs, f x = some (g x)) :
    readAll f xs = some (xs.map g) := by
  induction xs with
  | nil => rfl
  | cons x xs ih =>
    obtain ⟨hx, hxs⟩ := List.forall_mem_cons.1 h
    simp [readAll, hx, ih hxs]

/-- One field that is refused refuses the list. -/
theorem readAll_eq_none {α β : Type} {f : α → Option β} {xs : List α} {x : α} (hx : x ∈ xs) (h : f x = none) :
    readAll f xs = none := by
  induction xs with
  | nil => cases hx
  | cons y ys ih =>
    obtain rfl | hx := List.mem_cons.1 hx
    · simp [readAll, h]
    · simp [readAll, ih hx]

/-! ### Table 3-3 -/

/-- R209: the view kind of a code; meant for the codes 0 to 2. -/
def viewKindCoded (n : Nat) : ViewKind := if n = 0 then .bright else if n = 1 then .dark else .oblique

theorem viewKindOf_of_le {n : Nat} (h : n ≤ 2) : viewKindOf n = some (viewKindCoded n) := by
  obtain rfl | rfl | rfl : n = 0 ∨ n = 1 ∨ n = 2 := by omega
  all_goals rfl

theorem viewKindOf_of_gt {n : Nat} (h : 2 < n) : viewKindOf n = none := by
  match n, h with
  | _ + 3, _ => rfl

/-- A slot's fields lie in Table 3-3 and its low limit is not above its high limit. -/
def SlotInRange (q : SlotFields) : Prop :=
  q.kind ≤ 2 ∧ (5 ≤ q.threshold ∧ q.threshold ≤ 999) ∧ q.low ≤ q.high ∧ q.high ≤ 4095

/-- The slot that fields in range give. -/
def slotCoded (q : SlotFields) : Slot := ⟨viewKindCoded q.kind, q.threshold, q.low, q.high⟩

theorem slotOf_of_inRange {q : SlotFields} (h : SlotInRange q) : slotOf q = some (slotCoded q) := by
  obtain ⟨hkind, ⟨h5, h999⟩, hlow, hhigh⟩ := h
  have hlow' : q.low ≤ 4095 := hlow.trans hhigh
  simp [slotOf, viewKindOf_of_le hkind, within, slotCoded, *]

theorem slotOf_of_not_inRange {q : SlotFields} (h : ¬ SlotInRange q) : slotOf q = none := by
  by_cases hkind : q.kind ≤ 2
  · simp only [slotOf, viewKindOf_of_le hkind, Bool.and_eq_true, within_iff, decide_eq_true_eq]
    exact if_neg fun ⟨⟨⟨hthreshold, _⟩, hhigh⟩, hlow⟩ => h ⟨hkind, hthreshold, hlow, hhigh.2⟩
  · simp [slotOf, viewKindOf_of_gt (not_le.1 hkind)]

/-- The thresholds of a set, its slots apart, lie in Table 3-3. -/
def TailInRange (f : DetectionFields) : Prop :=
  f.join ≤ 8 ∧ (1 ≤ f.gap ∧ f.gap ≤ 16) ∧ (2000 ≤ f.maxLength ∧ f.maxLength ≤ 50000) ∧ (2 ≤ f.aspect ∧ f.aspect ≤ 16) ∧
    (5 ≤ f.stone ∧ f.stone ≤ 999)

/-- R60: the set is not refused. -/
def DetectionInRange (f : DetectionFields) : Prop :=
  (1 ≤ f.slots.length ∧ f.slots.length ≤ 5) ∧ (∀ q : SlotFields, q ∈ f.slots → SlotInRange q) ∧ TailInRange f

/-- The set that fields in range give. -/
def detectionCoded (f : DetectionFields) : DetectionSet :=
  ⟨f.slots.map slotCoded, f.join, f.gap, f.maxLength, f.aspect, f.stone⟩

/-- With every slot in range the slot count and the thresholds decide. -/
theorem detectionSetOf_of_slots {f : DetectionFields} (h : ∀ q ∈ f.slots, SlotInRange q) [Decidable (TailInRange f)] :
    detectionSetOf f =
      if (1 ≤ f.slots.length ∧ f.slots.length ≤ 5) ∧ TailInRange f then some (detectionCoded f) else none := by
  have hslots : readAll slotOf f.slots = some (f.slots.map slotCoded) := readAll_eq_some fun q hq => slotOf_of_inRange (h q hq)
  simp only [detectionSetOf, hslots, Bool.and_eq_true, within_iff, List.length_map, TailInRange, detectionCoded, Nat.zero_le,
    true_and, and_assoc]

theorem detectionSetOf_of_inRange {f : DetectionFields} (h : DetectionInRange f) : detectionSetOf f = some (detectionCoded f) := by
  classical
  obtain ⟨hcount, hslots, htail⟩ := h
  rw [detectionSetOf_of_slots hslots, if_pos ⟨hcount, htail⟩]

theorem detectionSetOf_of_not_inRange {f : DetectionFields} (h : ¬ DetectionInRange f) : detectionSetOf f = none := by
  classical
  by_cases hslots : ∀ q ∈ f.slots, SlotInRange q
  · rw [detectionSetOf_of_slots hslots, if_neg fun ⟨hcount, htail⟩ => h ⟨hcount, hslots, htail⟩]
  · push Not at hslots
    obtain ⟨q, hq, hbad⟩ := hslots
    simp [detectionSetOf, readAll_eq_none hq (slotOf_of_not_inRange hbad)]

/-! ### WRITE DETECTION SET -/

theorem takenIn_writeDetectionSet (m : Mode) : takenIn .writeDetectionSet m = true ↔ m ≠ .halted := by
  simp [takenIn]

theorem exec_writeDetectionSet (tag : Nat) (c : Content DetectionFields) (s : State) :
    exec (.writeDetectionSet tag c) s = .next (request .writeDetectionSet tag c writeDetectionBody s) := rfl

section
variable {s : State} {tag : Nat} {f : DetectionFields}

theorem exec_writeDetectionSet_halted (hl : Listens s tag) (hm : s.port.mode = .halted) :
    exec (.writeDetectionSet tag (.fields f)) s = .next (s.answered .writeDetectionSet tag .wrongMode .empty) := by
  have hrow : takenIn .writeDetectionSet s.mode = false :=
    Bool.eq_false_iff.2 fun h => (takenIn_writeDetectionSet s.mode).1 h hm
  rw [exec_writeDetectionSet, request_wrongMode _ _ _ _ s hl.deaf hl.tagFree hrow]

/-- Outside HALTED the request is answered as R60 says. -/
theorem exec_writeDetectionSet_taken (hl : Listens s tag) (hm : s.port.mode ≠ .halted) :
    exec (.writeDetectionSet tag (.fields f)) s = .next (answer .writeDetectionSet tag s (writeDetectionBody f s)) := by
  rw [exec_writeDetectionSet, hl.request ((takenIn_writeDetectionSet s.mode).2 hm)]

end

/-- Settles O27: the check of Table 3-3 accepts exactly the fields in range, and the answer follows it. -/
theorem writeDetectionSetStages : Obligations.WriteDetectionSetStages := by
  intro s tag f hl
  refine ⟨exec_writeDetectionSet_halted hl, fun hm hbad => ?_, fun hm hgood => ?_⟩
  · have hnone : detectionSetOf f = none := detectionSetOf_of_not_inRange hbad
    simp [exec_writeDetectionSet_taken hl hm, writeDetectionBody, hnone]
  · have hset : detectionSetOf f = some (detectionCoded f) := detectionSetOf_of_inRange hgood
    rw [exec_writeDetectionSet_taken hl hm, writeDetectionBody, hset, answer_ok]
    rfl

end Sys2Proof.Machine
end

section
/-!
O47 (R133, R134): the check of the rows against Tables 7-2 and 7-3, the cells of a table that a row writes, and the two requests.
-/

namespace Sys2Proof.Machine

/-! ### The codes of a row -/

/-- R210: the codes 0 to 2 stand for the grades that a row can limit. -/
theorem targetOf_eq_some {n : Nat} {g : Grade} : targetOf n = some g ↔ g.code = n ∧ n ≤ 2 := by
  match n with
  | 0 | 1 | 2 | _ + 3 => cases g <;> simp [targetOf, Grade.code]

theorem targetOf_isSome (n : Nat) : (targetOf n).isSome = true ↔ n ≤ 2 := by
  match n with
  | 0 | 1 | 2 | _ + 3 => simp [targetOf]

theorem classOf_eq_some {n : Nat} {k : FlawClass} : classOf n = some k ↔ k.code = n := by
  match n with
  | 0 | 1 | 2 | 3 | _ + 4 => cases k <;> simp [classOf, FlawClass.code]

theorem classOf_isSome (n : Nat) : (classOf n).isSome = true ↔ n ≤ 3 := by
  match n with
  | 0 | 1 | 2 | 3 | _ + 4 => simp [classOf]

/-! ### Tables 7-2 and 7-3 -/

/-- A row's kind, grade and class exist and its values lie in Tables 7-2 and 7-3. -/
def RowInRange : GradeRow → Prop
  | .limit g k es ec cs cc => g ≤ 2 ∧ k ≤ 3 ∧ es ≤ 65535 ∧ ec ≤ 255 ∧ cs ≤ 65535 ∧ cc ≤ 255
  | .floor b st l f => b ≤ 10000 ∧ st ≤ 10000 ∧ l ≤ 10000 ∧ f ≤ 10000
  | .general w e a b c u x => w ≤ 2000 ∧ e ≤ 1000 ∧ a ≤ 15 ∧ b ≤ 15 ∧ c ≤ 15 ∧ u ≤ 15 ∧ x ≤ 15
  | .other _ => False

theorem gradeRowOk_iff (r : GradeRow) : gradeRowOk r = true ↔ RowInRange r := by
  cases r with
  | limit g k es ec cs cc => simp [gradeRowOk, RowInRange, targetOf_isSome, classOf_isSome, within_iff, and_assoc]
  | floor b st l f => simp [gradeRowOk, RowInRange, within_iff, and_assoc]
  | general w e a b c u x => simp [gradeRowOk, RowInRange, within_iff, and_assoc]
  | other kind => simp [gradeRowOk, RowInRange]

/-- R133: the rows of a request are not refused. -/
def RowsInRange (rows : List GradeRow) : Prop :=
  (1 ≤ rows.length ∧ rows.length ≤ 14) ∧ (∀ r ∈ rows, RowInRange r) ∧ rows.Pairwise fun p q => rowIdentity p ≠ rowIdentity q

theorem gradeRowsOk_iff (rows : List GradeRow) : gradeRowsOk rows = true ↔ RowsInRange rows := by
  simp only [gradeRowsOk, Bool.and_eq_true, within_iff, List.all_eq_true, gradeRowOk_iff, rowsDistinct_iff, RowsInRange, and_assoc]

/-! ### The identity of a row -/

theorem rowIdentity_eq_limit {r : GradeRow} {g k : Nat} (h : rowIdentity r = (0, g, k)) :
    ∃ es ec cs cc, r = .limit g k es ec cs cc := by
  cases r <;> simp_all [rowIdentity]

theorem rowIdentity_eq_floor {r : GradeRow} (h : rowIdentity r = (1, 0, 0)) : ∃ b st l f, r = .floor b st l f := by
  cases r <;> simp_all [rowIdentity]

theorem rowIdentity_eq_general {r : GradeRow} (h : rowIdentity r = (2, 0, 0)) :
    ∃ w e a b c u x, r = .general w e a b c u x := by
  cases r <;> simp_all [rowIdentity]

/-! ### One limit of a table -/

theorem PerClass.get_modify_same {α : Type} (f : α → α) (p : PerClass α) (k : FlawClass) :
    (p.modify f k).get k = f (p.get k) := by
  cases k <;> rfl

theorem PerClass.get_modify_of_ne {α : Type} (f : α → α) (p : PerClass α) {k l : FlawClass} (h : k ≠ l) :
    (p.modify f k).get l = p.get l := by
  cases k <;> cases l <;> simp_all [PerClass.modify, PerClass.get]

section
variable (t : GradeTable) (g : Grade) (k : FlawClass) (v : ClassLimit)

@[simp] theorem GradeTable.setLimit_floors : (t.setLimit g k v).floors = t.floors := by cases g <;> rfl

@[simp] theorem GradeTable.setLimit_band : (t.setLimit g k v).band = t.band := by cases g <;> rfl

@[simp] theorem GradeTable.setLimit_blindLimit : (t.setLimit g k v).blindLimit = t.blindLimit := by cases g <;> rfl

@[simp] theorem GradeTable.setLimit_dest : (t.setLimit g k v).dest = t.dest := by cases g <;> rfl

theorem GradeTable.limits_setLimit_same : (t.setLimit g k v).limits g = (t.limits g).modify (fun _ => v) k := by
  cases g <;> rfl

/-- The grades U and X have no limits of their own: `limits` reads those of C for them. -/
theorem GradeTable.limits_setLimit_of_ne {g h : Grade} (hg : g.code ≤ 2) (hh : h.code ≤ 2) (hne : g ≠ h) :
    (t.setLimit g k v).limits h = t.limits h := by
  match g, h with
  | .a, .b | .a, .c | .b, .a | .b, .c | .c, .a | .c, .b => rfl
  | .a, .a | .b, .b | .c, .c => exact absurd rfl hne
  | .u, _ | .x, _ => simp [Grade.code] at hg
  | _, .u | _, .x => simp [Grade.code] at hh

end

/-! ### The parts of a table that a row writes -/

theorem writeGradeRow_limit {g k : Nat} {G : Grade} {K : FlawClass} (hg : targetOf g = some G) (hk : classOf k = some K)
    (t : GradeTable) (es ec cs cc : Nat) :
    writeGradeRow t (.limit g k es ec cs cc) = t.setLimit G K ⟨⟨es, ec⟩, ⟨cs, cc⟩⟩ := by
  simp only [writeGradeRow, hg, hk]

/-- A LIMIT row writes one limit, or nothing. -/
theorem writeGradeRow_limit_cases (t : GradeTable) (g k es ec cs cc : Nat) :
    (∃ G K, targetOf g = some G ∧ classOf k = some K ∧
      writeGradeRow t (.limit g k es ec cs cc) = t.setLimit G K ⟨⟨es, ec⟩, ⟨cs, cc⟩⟩) ∨
    writeGradeRow t (.limit g k es ec cs cc) = t := by
  simp only [writeGradeRow]
  split
  next G K hg hk => exact .inl ⟨G, K, hg, hk, rfl⟩
  next => exact .inr rfl

/-- No row but the one of an identity writes a part of the table. -/
def WrittenOnlyBy {β : Type} (part : GradeTable → β) (i : Nat × Nat × Nat) : Prop :=
  ∀ t r, rowIdentity r ≠ i → part (writeGradeRow t r) = part t

theorem limit_writtenOnlyBy {g k : Nat} {G : Grade} {K : FlawClass} (hg : targetOf g = some G) (hk : classOf k = some K) :
    WrittenOnlyBy (fun t => (t.limits G).get K) (0, g, k) := by
  intro t r hr
  cases r with
  | floor | general | other => cases G <;> rfl
  | limit g' k' es ec cs cc =>
    obtain ⟨G', K', hg', hk', hwrite⟩ | hwrite := writeGradeRow_limit_cases t g' k' es ec cs cc
    · rw [targetOf_eq_some] at hg hg'
      rw [classOf_eq_some] at hk hk'
      obtain ⟨rfl, hG⟩ := hg
      obtain ⟨rfl, hG'⟩ := hg'
      subst hk hk'
      by_cases hne : G' = G
      · subst hne
        have hcls : K' ≠ K := fun h => hr (by rw [h]; rfl)
        simp only [hwrite, GradeTable.limits_setLimit_same, PerClass.get_modify_of_ne _ _ hcls]
      · simp only [hwrite, GradeTable.limits_setLimit_of_ne t K' _ hG' hG hne]
    · simp only [hwrite]

theorem floors_writtenOnlyBy : WrittenOnlyBy GradeTable.floors (1, 0, 0) := by
  intro t r hr
  cases r with
  | floor => exact absurd rfl hr
  | general | other => rfl
  | limit g k es ec cs cc =>
    obtain ⟨_, _, _, _, hwrite⟩ | hwrite := writeGradeRow_limit_cases t g k es ec cs cc <;> simp [hwrite]

/-- What a GENERAL row writes. -/
def GradeTable.generalPart (t : GradeTable) : Nat × Nat × PerGrade Nat := (t.band, t.blindLimit, t.dest)

theorem generalPart_writtenOnlyBy : WrittenOnlyBy GradeTable.generalPart (2, 0, 0) := by
  intro t r hr
  cases r with
  | general => exact absurd rfl hr
  | floor | other => rfl
  | limit g k es ec cs cc =>
    obtain ⟨_, _, _, _, hwrite⟩ | hwrite := writeGradeRow_limit_cases t g k es ec cs cc <;>
      simp [hwrite, GradeTable.generalPart]

/-! ### All rows of a request -/

section
variable {β : Type} {part : GradeTable → β} {i : Nat × Nat × Nat} {rows : List GradeRow}

theorem WrittenOnlyBy.foldl_of_absent (h : WrittenOnlyBy part i) (habsent : ∀ r ∈ rows, rowIdentity r ≠ i) (t : GradeTable) :
    part (rows.foldl writeGradeRow t) = part t := by
  induction rows generalizing t with
  | nil => rfl
  | cons r rs ih =>
    obtain ⟨hr, hrs⟩ := List.forall_mem_cons.1 habsent
    rw [List.foldl_cons, ih hrs, h t r hr]

/-- With one row of each identity no later row writes over a row's part. -/
theorem WrittenOnlyBy.foldl_of_mem {r : GradeRow} {v : β} (h : WrittenOnlyBy part (rowIdentity r))
    (hv : ∀ t, part (writeGradeRow t r) = v) (hdistinct : rows.Pairwise fun p q => rowIdentity p ≠ rowIdentity q)
    (hr : r ∈ rows) (t : GradeTable) : part (rows.foldl writeGradeRow t) = v := by
  induction rows generalizing t with
  | nil => cases hr
  | cons q qs ih =>
    obtain ⟨hq, hqs⟩ := List.pairwise_cons.1 hdistinct
    rw [List.foldl_cons]
    obtain rfl | hr := List.mem_cons.1 hr
    · rw [h.foldl_of_absent (fun p hp => (hq p hp).symm), hv]
    · exact ih hqs hr _

end

section
variable {rows : List GradeRow} (t : GradeTable)

theorem foldl_limit_of_mem (hdistinct : rows.Pairwise fun p q => rowIdentity p ≠ rowIdentity q) {g k es ec cs cc : Nat}
    {G : Grade} {K : FlawClass} (hg : targetOf g = some G) (hk : classOf k = some K) (hr : .limit g k es ec cs cc ∈ rows) :
    ((rows.foldl writeGradeRow t).limits G).get K = ⟨⟨es, ec⟩, ⟨cs, cc⟩⟩ := by
  refine (limit_writtenOnlyBy hg hk).foldl_of_mem (fun t => ?_) hdistinct hr t
  simp only [writeGradeRow_limit hg hk, GradeTable.limits_setLimit_same, PerClass.get_modify_same]

theorem foldl_limit_of_absent {g k : Nat} {G : Grade} {K : FlawClass} (hg : targetOf g = some G) (hk : classOf k = some K)
    (habsent : ∀ es ec cs cc, .limit g k es ec cs cc ∉ rows) :
    ((rows.foldl writeGradeRow t).limits G).get K = (t.limits G).get K := by
  refine (limit_writtenOnlyBy hg hk).foldl_of_absent (fun r hr hid => ?_) t
  obtain ⟨es, ec, cs, cc, rfl⟩ := rowIdentity_eq_limit hid
  exact habsent es ec cs cc hr

theorem foldl_floors_of_mem (hdistinct : rows.Pairwise fun p q => rowIdentity p ≠ rowIdentity q) {b st l f : Nat}
    (hr : .floor b st l f ∈ rows) : (rows.foldl writeGradeRow t).floors = ⟨b, st, l, f⟩ :=
  floors_writtenOnlyBy.foldl_of_mem (fun _ => rfl) hdistinct hr t

theorem foldl_floors_of_absent (habsent : ∀ b st l f, .floor b st l f ∉ rows) :
    (rows.foldl writeGradeRow t).floors = t.floors := by
  refine floors_writtenOnlyBy.foldl_of_absent (fun r hr hid => ?_) t
  obtain ⟨b, st, l, f, rfl⟩ := rowIdentity_eq_floor hid
  exact habsent b st l f hr

theorem foldl_generalPart_of_mem (hdistinct : rows.Pairwise fun p q => rowIdentity p ≠ rowIdentity q) {w e a b c u x : Nat}
    (hr : .general w e a b c u x ∈ rows) : (rows.foldl writeGradeRow t).generalPart = (w, e, ⟨a, b, c, u, x⟩) :=
  generalPart_writtenOnlyBy.foldl_of_mem (fun _ => rfl) hdistinct hr t

theorem foldl_generalPart_of_absent (habsent : ∀ w e a b c u x, .general w e a b c u x ∉ rows) :
    (rows.foldl writeGradeRow t).generalPart = t.generalPart := by
  refine generalPart_writtenOnlyBy.foldl_of_absent (fun r hr hid => ?_) t
  obtain ⟨w, e, a, b, c, u, x, rfl⟩ := rowIdentity_eq_general hid
  exact habsent w e a b c u x hr

end

/-! ### WRITE GRADE ROWS and APPLY GRADE TABLE -/

theorem takenIn_writeGradeRows (m : Mode) : takenIn .writeGradeRows m = true ↔ m ≠ .halted := by simp [takenIn]

theorem takenIn_applyGradeTable (m : Mode) : takenIn .applyGradeTable m = true ↔ m ≠ .halted := by simp [takenIn]

theorem destRefused_iff (s : State) : s.destRefused = true ↔
    ∃ a, s.cutter.agreement = some a ∧ ∃ g : Grade, a.cap.destinations ≤ s.grader.staged.dest.get g := by
  cases h : s.cutter.agreement <;> simp [State.destRefused, h, destBeyond_iff]

theorem exec_writeGradeRows (tag : Nat) (c : Content (List GradeRow)) (s : State) :
    exec (.writeGradeRows tag c) s = .next (request .writeGradeRows tag c writeGradeRowsBody s) := rfl

theorem exec_applyGradeTable (tag : Nat) (c : Content Unit) (s : State) :
    exec (.applyGradeTable tag c) s = .next (request .applyGradeTable tag c (fun _ => applyGradeTableBody) s) := rfl

/-- R197 check 4, for a request that the part listens to. -/
theorem Listens.request_wrongMode {α : Type} {k : Request} {tag : Nat} {v : α} {body : α → State → Answer} {s : State}
    (hl : Listens s tag) (hm : ¬ takenIn k s.mode = true) :
    Machine.request k tag (.fields v) body s = s.answered k tag .wrongMode .empty :=
  Machine.request_wrongMode k tag v body s hl.deaf hl.tagFree (Bool.eq_false_iff.2 hm)

section
variable {s : State} {tag : Nat}

theorem exec_writeGradeRows_halted (hl : Listens s tag) (hm : s.port.mode = .halted) (rows : List GradeRow) :
    exec (.writeGradeRows tag (.fields rows)) s = .next (s.answered .writeGradeRows tag .wrongMode .empty) := by
  rw [exec_writeGradeRows, hl.request_wrongMode fun h => (takenIn_writeGradeRows _).1 h hm]

/-- Outside HALTED the request is answered as R133 says. -/
theorem exec_writeGradeRows_taken (hl : Listens s tag) (hm : s.port.mode ≠ .halted) (rows : List GradeRow) :
    exec (.writeGradeRows tag (.fields rows)) s = .next (answer .writeGradeRows tag s (writeGradeRowsBody rows s)) := by
  rw [exec_writeGradeRows, hl.request ((takenIn_writeGradeRows _).2 hm)]

theorem exec_applyGradeTable_halted (hl : Listens s tag) (hm : s.port.mode = .halted) :
    exec (.applyGradeTable tag (.fields ())) s = .next (s.answered .applyGradeTable tag .wrongMode .empty) := by
  rw [exec_applyGradeTable, hl.request_wrongMode fun h => (takenIn_applyGradeTable _).1 h hm]

/-- Outside HALTED the request is answered as R134 says. -/
theorem exec_applyGradeTable_taken (hl : Listens s tag) (hm : s.port.mode ≠ .halted) :
    exec (.applyGradeTable tag (.fields ())) s = .next (answer .applyGradeTable tag s (applyGradeTableBody s)) := by
  rw [exec_applyGradeTable, hl.request ((takenIn_applyGradeTable _).2 hm)]

end

/-- Settles O47: the check accepts exactly the rows in range, each row in range stands in the staged copy, and APPLY GRADE TABLE
answers by the staged flag and the agreement. -/
theorem gradeTablesWrittenAndApplied : Obligations.GradeTablesWrittenAndApplied := by
  intro s tag hl rowOk rowsOk
  have hcheck (rows : List GradeRow) : gradeRowsOk rows = true ↔ rowsOk rows := gradeRowsOk_iff rows
  refine ⟨fun rows hm => exec_writeGradeRows_halted hl hm rows, fun rows hm hbad => ?_, fun rows hm hgood => ?_,
    exec_applyGradeTable_halted hl, fun hm hflag => ?_, fun hm hflag => ⟨fun hbeyond => ?_, fun hwithin => ?_⟩⟩
  · rw [exec_writeGradeRows_taken hl hm, writeGradeRowsBody, if_neg (mt (hcheck rows).1 hbad), answer_refuse]
  · have hok : gradeRowsOk rows = true := (hcheck rows).2 hgood
    obtain ⟨-, -, hdistinct⟩ := hgood
    refine ⟨rows.foldl writeGradeRow s.grader.staged, ?_, fun g k G K hg hk =>
        ⟨fun es ec cs cc => foldl_limit_of_mem _ hdistinct hg hk, foldl_limit_of_absent _ hg hk⟩,
      fun b st l f => foldl_floors_of_mem _ hdistinct, foldl_floors_of_absent _, fun w e a b c u x hr => ?_, fun habsent => ?_⟩
    · rw [exec_writeGradeRows_taken hl hm, writeGradeRowsBody, if_pos hok, answer_ok]
      rfl
    · simpa [GradeTable.generalPart] using foldl_generalPart_of_mem s.grader.staged hdistinct hr
    · simpa [GradeTable.generalPart] using foldl_generalPart_of_absent s.grader.staged habsent
  · simp [exec_applyGradeTable_taken hl hm, applyGradeTableBody, hflag]
  · have hrefused : s.destRefused = true := (destRefused_iff s).2 hbeyond
    simp [exec_applyGradeTable_taken hl hm, applyGradeTableBody, hflag, hrefused]
  · have hfits : s.destRefused = false := Bool.eq_false_iff.2 (mt (destRefused_iff s).1 hwithin)
    rw [exec_applyGradeTable_taken hl hm, applyGradeTableBody, hflag, hfits]
    rfl

end Sys2Proof.Machine
end

section
/-!
O51 (R184, with R183 and R175): a class 1 report by the state of the fault slot.
-/

namespace Sys2Proof.Machine

/-! ### Saturating and wrapping counts -/

theorem class1Reported_eq (h : Shift) : h.class1Reported = { h with class1 := min 4294967295 (h.class1 + 1) } := rfl

theorem suppress_eq (r : FaultRecord) : r.suppress = { r with suppressed := min 255 (r.suppressed + 1) } := rfl

theorem nextNumber_eq (n : Nat) : nextNumber n = if 65535 ≤ n then 1 else n + 1 := rfl

@[simp] theorem FaultSlot.suppress_held (r : FaultRecord) : (FaultSlot.held r).suppress = .held r.suppress := rfl

@[simp] theorem FaultSlot.suppress_haltHeld (r : FaultRecord) : (FaultSlot.haltHeld r).suppress = .haltHeld r.suppress := rfl

/-! ### The report by the slot -/

section
variable (k : FaultKind) (it : ReportItems) {s : State}

/-- R183: an empty slot captures the report. -/
theorem report1_empty (h : s.fault.slot = .empty) :
    report1 k it s = fillSlot (.held (s.record k it none)) (tally Shift.class1Reported s) := by
  simp only [report1, tally_fault, h]
  rfl

/-- R184: whatever the kind and the items, a report that finds a record in the slot only raises its suppressed count. -/
theorem report1_full (h : s.fault.slot ≠ .empty) :
    report1 k it s = { tally Shift.class1Reported s with fault := { s.fault with slot := s.fault.slot.suppress } } := by
  unfold report1
  cases hs : s.fault.slot with
  | empty => exact absurd hs h
  | held r | haltHeld r => simp only [tally_fault, hs, State.modFault]

end

/-- Settles O51: the report is captured by an empty slot and suppressed by one that holds a record, in either state of that record. -/
theorem class1ReportByTheSlot : Obligations.Class1ReportByTheSlot := by
  intro k items s counted
  have hcounted : (tally Shift.class1Reported s).report = counted := by rw [tally_report, class1Reported_eq]
  refine ⟨fun hempty => ?_, fun r hheld => ?_, fun r hhalt => ?_⟩
  · rw [report1_empty k items hempty, ← hcounted, ← nextNumber_eq]
    rfl
  · rw [report1_full k items (by simp [hheld]), hheld, FaultSlot.suppress_held, suppress_eq, ← hcounted]
    rfl
  · rw [report1_full k items (by simp [hhalt]), hhalt, FaultSlot.suppress_haltHeld, suppress_eq, ← hcounted]
    rfl

end Sys2Proof.Machine
end

section
/-!
O1 (log 1), O2, O3 (R196, R197, R204), O4 (R207), O5, O6, O7 (R204), O16 (R10 to R12) and O60: the step, the checks of a request, the READ
requests, the full reset and what the speed window and the stall timer do.
-/

namespace Sys2Proof.Machine

/-! ### A request that is taken -/

/-- A command that is a request is answered by its own rule once the part listens and the mode admits it. -/
theorem exec_taken {α : Type} {c : Instr} {k : Request} {tag : Nat} {v : α} {body : α → State → Answer} {s : State}
    (hl : Listens s tag) (hc : exec c s = .next (request k tag (.fields v) body s)) (hm : takenIn k s.mode = true) :
    exec c s = .next (answer k tag s (body v s)) := by
  rw [hc, hl.request hm]

/-- A read request leaves the state and answers with a content. -/
theorem exec_read {α : Type} {c : Instr} {k : Request} {tag : Nat} {v : α} {body : α → State → Answer} {s : State} {b : ReplyBody}
    (hl : Listens s tag) (hc : exec c s = .next (request k tag (.fields v) body s)) (hm : takenIn k s.mode = true)
    (hb : body v s = .ok s b) : exec c s = .next (s.answered k tag .ok b) := by
  rw [exec_taken hl hc hm, hb, answer_ok]

/-- A request that its own rule refuses. -/
theorem exec_refused {α : Type} {c : Instr} {k : Request} {tag : Nat} {v : α} {body : α → State → Answer} {s : State} {r : Result}
    (hl : Listens s tag) (hc : exec c s = .next (request k tag (.fields v) body s)) (hm : takenIn k s.mode = true)
    (hb : body v s = .refuse r) : exec c s = .next (s.answered k tag r .empty) := by
  rw [exec_taken hl hc hm, hb, answer_refuse]

/-! ### The step -/

/-- Settles O1. -/
theorem stepRunsTheFrontCommand : Obligations.StepRunsTheFrontCommand := by
  refine ⟨fun c rest s h => by simp only [step, h], fun s h => ⟨fun c hc => by simp only [step, h, hc],
    fun hn => by simp only [step, h, hn], fun hheld => ?_⟩⟩
  have hn : s.due = none := by simp [State.due, hheld]
  simp only [step, h, hn]

/-! ### The checks of R197 -/

section
variable {c : Instr} {k : Request} {tag : Nat} {ok : Bool} {s : State}

theorem exec_tagInUse (hc : requestOf c = some (k, tag, ok)) (hd : s.deaf = false) (ht : ∃ d ∈ s.port.delayed, d.tag = tag) :
    exec c s = .next (s.answered k tag .tagInUse .empty) := by
  obtain ⟨α, cont, body, -, he⟩ := exec_request c k tag ok s hc
  rw [he, request_tagInUse _ _ _ _ _ hd ((tagInUse_eq_true s tag).2 ht)]

theorem exec_badLength (hc : requestOf c = some (k, tag, false)) (hl : Listens s tag) :
    exec c s = .next (s.answered k tag .badLength .empty) := by
  obtain ⟨α, cont, body, hr, he⟩ := exec_request c k tag false s hc
  cases cont with
  | wrongLength => rw [he, request_badLength _ _ _ _ hl.deaf hl.tagFree]
  | fields v => simp [rightLength] at hr

theorem exec_wrongMode (hc : requestOf c = some (k, tag, true)) (hl : Listens s tag) (hm : takenIn k s.mode = false) :
    exec c s = .next (s.answered k tag .wrongMode .empty) := by
  obtain ⟨α, cont, body, hr, he⟩ := exec_request c k tag true s hc
  cases cont with
  | wrongLength => simp [rightLength] at hr
  | fields v => rw [he, request_wrongMode _ _ _ _ _ hl.deaf hl.tagFree hm]

/-- R204: a deaf part neither takes nor answers a request. -/
theorem exec_request_deaf (hc : requestOf c = some (k, tag, ok)) (hd : s.deaf = true) : exec c s = .next s := by
  obtain ⟨α, cont, body, -, he⟩ := exec_request c k tag ok s hc
  rw [he, request_deaf _ _ _ _ _ hd]

end

/-- Settles O2: the checks in order, then the rows of Table 11-4, each the modes in which `takenIn` fails. -/
theorem requestsRefusedInOrder : Obligations.RequestsRefusedInOrder := by
  refine ⟨fun c k tag ok s hc hheld hreset => ⟨fun ht => exec_tagInUse hc (by simp [State.deaf, hheld, hreset]) ht,
    fun hfree => ⟨?_, ?_⟩⟩, fun c k tag s hc hl => ?_⟩
  · rintro rfl
    exact exec_badLength hc ⟨hheld, hreset, hfree⟩
  · rintro rfl hm
    exact exec_wrongMode hc ⟨hheld, hreset, hfree⟩ hm
  · have row (h : takenIn k s.port.mode = false) : exec c s = .next (s.answered k tag .wrongMode .empty) := exec_wrongMode hc hl h
    refine ⟨fun hk hm => row ?_, fun hk hm => row ?_, fun hk hm => row ?_, fun hk hm => row ?_, fun hk hm => row ?_⟩
    · simp only [List.mem_cons, List.not_mem_nil, or_false] at hk
      rcases hk with rfl | rfl | rfl | rfl <;> simpa [takenIn] using hm
    · simp only [List.mem_cons, List.not_mem_nil, or_false] at hk
      rcases hk with rfl | rfl <;> simpa [takenIn] using hm
    · subst hk
      simpa [takenIn] using hm
    · simp only [List.mem_cons, List.not_mem_nil, or_false] at hk
      rcases hk with rfl | rfl <;> rcases hm with hm | hm <;> simp [takenIn, hm, Mode.scanning]
    · simp only [List.mem_cons, List.not_mem_nil, or_false] at hk
      rcases hk with rfl | rfl | rfl | rfl | rfl | rfl | rfl | rfl | rfl | rfl | rfl | rfl | rfl <;> simp [takenIn, hm]

theorem deaf_eq_true (s : State) : s.deaf = true ↔ s.ctl.held = true ∨ s.ctl.resetting = true := by simp [State.deaf]

/-- R197 check 2: the answer to an unknown kind. -/
theorem exec_unknownRequest {s : State} {kind : Nat} (hd : s.deaf = false) (hk : Request.ofCode kind = none) (tag : Nat) :
    exec (.unknownRequest kind tag) s =
      .next (sendReply kind tag (if s.tagInUse tag then .tagInUse else .unknownRequest) .empty s) := by
  change Host.Outcome.next (unknownRequest kind tag s) = _
  cases h : s.tagInUse tag <;> simp [unknownRequest, hd, hk, h]

/-- Settles O3. -/
theorem framesThatAreNoRequest : Obligations.FramesThatAreNoRequest := by
  refine ⟨fun kind tag s hheld hreset hk => ?_, fun s h => ⟨fun c r hc => ?_, fun kind tag => ?_⟩, fun s => ⟨fun hheld => ?_,
    fun lane => ⟨rfl, rfl⟩⟩⟩
  · rw [exec_unknownRequest (by simp [State.deaf, hheld, hreset]) hk]
    simp only [sendReply, State.modOut, tagInUse_eq_true]
    rfl
  · exact exec_request_deaf hc ((deaf_eq_true s).2 h)
  · have hd : s.deaf = true := (deaf_eq_true s).2 h
    change Host.Outcome.next (unknownRequest kind tag s) = _
    simp [unknownRequest, hd]
  · have hdiscard : discardFrame s =
        { s with port := { s.port with receiver := .hunting, discarded := min 65535 (s.port.discarded + 1) } } := by
      simp [discardFrame, hheld, satAdd, Config.max16, State.modPort]
    refine ⟨congrArg _ hdiscard, congrArg _ hdiscard, ?_⟩
    change Host.Outcome.next (if s.ctl.held then s else _) = _
    rw [hheld]
    rfl

/-! ### The event set -/

/-- R205: ATTN while the part is not held in reset. -/
theorem attn_iff {t : State} (h : t.ctl.held = false) :
    t.attn = true ↔ ∃ e : Fin 16, t.port.events.getLsbD e = true ∧ t.port.mask.getLsbD e = true := by
  have hzero : t.port.events &&& t.port.mask = 0#16 ↔
      ∀ e : Fin 16, ¬ (t.port.events.getLsbD e = true ∧ t.port.mask.getLsbD e = true) := by
    constructor
    · intro hz e he
      have hbit : (t.port.events &&& t.port.mask).getLsbD e = true := by simpa using he
      simp [hz] at hbit
    · intro hall
      apply BitVec.eq_of_getLsbD_eq
      intro i hi
      have hbit := hall ⟨i, hi⟩
      simp only [Bool.eq_false_iff, BitVec.getLsbD_and, BitVec.getLsbD_zero, ne_eq, Bool.and_eq_true]
      exact hbit
  simp only [State.attn, h, Bool.not_false, Bool.true_and, decide_eq_true_eq, ne_eq, hzero]
  push Not
  rfl

/-- Settles O4. -/
theorem eventSetRequests : Obligations.EventSetRequests := by
  intro s tag v hl hm
  have hclear : exec (.clearEvents tag (.fields v)) s =
      .next ({ s with port := { s.port with events := s.port.events &&& ~~~v } }.answered .clearEvents tag .ok
        (.eventSet (s.port.events &&& ~~~v))) := by
    rw [exec_taken hl rfl (by simpa [takenIn, State.mode] using hm)]
    simp only [answer_ok]
    rfl
  have hmask : exec (.setEventMask tag (.fields v)) s =
      .next ({ s with port := { s.port with mask := v } }.answered .setEventMask tag .ok .empty) := by
    rw [exec_taken hl rfl (by simpa [takenIn, State.mode] using hm)]
    simp only [answer_ok]
    rfl
  refine ⟨hclear, hmask, fun t ht => ?_⟩
  have hheld : t.ctl.held = false := by
    rcases ht with ht | ht
    · rw [hclear, Host.Outcome.next.injEq] at ht
      rw [← ht]
      exact hl.1
    · rw [hmask, Host.Outcome.next.injEq] at ht
      rw [← ht]
      exact hl.1
  exact attn_iff hheld

/-! ### The READ requests -/

/-- R65: the reply's two items about a switch in progress. -/
theorem switching_eq (s : State) : s.switching =
    ((match s.tracker.apply with
      | .none => none
      | .waiting _ l | .switched l => some (l, s.pos.lastLine.any fun t => decide (l ≤ t))),
     (match s.tracker.apply with
      | .waiting d _ => some d
      | .none | .switched _ => none)) := by
  have htrig (l : Nat) : s.triggered l = s.pos.lastLine.any fun t => decide (l ≤ t) := by
    unfold State.triggered
    cases s.pos.lastLine <;> rfl
  unfold State.switching
  cases s.tracker.apply <;> simp [htrig]

/-- Settles O5. -/
theorem readRepliesAsTheyStand : Obligations.ReadRepliesAsTheyStand := by
  intro s tag hl
  refine ⟨exec_read hl rfl rfl ?_, exec_read hl rfl rfl rfl, exec_read hl rfl rfl rfl, exec_read hl rfl rfl ?_,
    exec_read hl rfl rfl rfl, exec_read hl rfl rfl ?_⟩
  · simp only [answerWith, State.attn, hl.1, Bool.not_false, Bool.true_and]
    rfl
  · simp only [answerWith, State.agreedParameters]
    rfl
  · simp only [answerWith, switching_eq] <;> rfl

theorem find_id_none {α : Type} {f : α → Nat} {xs : List α} {id : Nat} (h : ∀ x ∈ xs, f x ≠ id) :
    xs.find? (fun x => f x == id) = none := by
  simpa [List.find?_eq_none] using h

theorem allLanes_map_lane {β : Type} (f : Lane → β) (s : State) :
    allLanes.map (fun i => f (s.lane i)) = s.lanes.toList.map f := by
  apply List.ext_getElem
  · simp [allLanes]
  · intro n h1 h2
    have hn : n < 8 := by simpa [allLanes] using h1
    match n, hn with
    | 0, _ | 1, _ | 2, _ | 3, _ | 4, _ | 5, _ | 6, _ | 7, _ => simp [allLanes, State.lane]

section
variable {s : State} {tag : Nat} (hl : Listens s tag)
include hl

/-- R44: READ LANE replies with the lane's items. -/
theorem exec_readLane (i : LaneId) :
    exec (.readLane tag (.fields i.val)) s = .next (s.answered .readLane tag .ok (.lane (s.laneReply i))) :=
  exec_read hl rfl rfl (by simp [withLane, laneOf_some])

theorem exec_readFlaws_one {id : Nat} {e : MapEntry} (h : s.map.entries.find? (fun q => q.id == id) = some e) :
    exec (.readFlaws tag (.fields (.byId id))) s = .next (s.answered .readFlaws tag .ok
      (.flaws (.one e) s.map.entries.length s.map.highRaised s.map.refused s.map.full)) :=
  exec_read hl rfl rfl (by simp only [readFlawsBody, h])

theorem exec_readShiftReport {n : Nat} {h : Shift} (hf : findReport n s.report.store = some h) :
    exec (.readShiftReport tag (.fields n)) s = .next (s.answered .readShiftReport tag .ok
      (.shiftReport h.inDm2 (s.report.store.map Shift.seq))) :=
  exec_read hl rfl rfl (by simp only [hf]; rfl)

theorem exec_readShiftReport_notFound {n : Nat} (hf : findReport n s.report.store = none) :
    exec (.readShiftReport tag (.fields n)) s = .next (s.answered .readShiftReport tag .notFound .empty) :=
  exec_refused hl rfl rfl (by simp only [hf])

end

/-- Settles O6. -/
theorem readRepliesOfNamedItems : Obligations.ReadRepliesOfNamedItems := by
  refine ⟨fun s tag hl => ⟨exec_read hl rfl rfl rfl, exec_read hl rfl rfl rfl, exec_read hl rfl rfl rfl, exec_read hl rfl rfl rfl,
      fun n hn => ⟨?_, ?_⟩, fun i => ?_, fun i => ?_⟩,
    fun s tag hl => ⟨fun y k hk => ?_, fun y k hk => ?_, fun id hid => ?_, fun id e he => exec_readFlaws_one hl he,
      fun k hk => ?_, fun id hid => ?_, ?_, fun k hk => ?_, fun id hid => ?_, ?_⟩,
    fun s tag hl => ⟨fun h => ?_, fun older newest h => ?_, fun n hn h => ?_, fun n h hn hf => ?_, fun p => exec_read hl rfl rfl rfl⟩⟩
  · exact exec_refused hl rfl rfl (by simp only [withLane, laneOf_none n hn])
  · exact exec_refused hl rfl rfl (by simp only [laneOf_none n hn])
  · refine ⟨_, exec_readLane hl i, rfl, rfl, rfl, rfl, rfl, rfl, rfl, fun h => ?_, fun d h => ?_, rfl, rfl, rfl, rfl, rfl, rfl, rfl, rfl⟩
    · simp [State.laneReply, h]
    · simp only [State.laneReply, h]
      exact ⟨rfl, rfl⟩
  · exact exec_read hl rfl rfl (by simp only [laneOf_some]; rfl)
  · exact exec_refused hl rfl rfl (by simp [readFlawsBody, hk])
  · exact exec_read hl rfl rfl (by simp [readFlawsBody, hk, Config.mapPage])
  · exact exec_refused hl rfl rfl (by simp only [readFlawsBody, find_id_none hid])
  · exact exec_refused hl rfl rfl (by simp [readBlindBody, hk])
  · exact exec_refused hl rfl rfl (by simp only [readBlindBody, find_id_none hid])
  · have hlanes : (allLanes.map fun i => (s.lane i).interval) = s.lanes.toList.map Lane.interval := allLanes_map_lane _ s
    rintro q bs (⟨k, hk, rfl, rfl⟩ | ⟨id, b, rfl, hb, rfl⟩)
    · refine exec_read hl rfl rfl ?_
      simp only [readBlindBody, if_neg (Nat.not_lt.2 hk), hlanes]
      rfl
    · refine exec_read hl rfl rfl ?_
      simp only [readBlindBody, hb, hlanes]
      rfl
  · exact exec_refused hl rfl rfl (by simp [readPlatesBody, hk])
  · exact exec_refused hl rfl rfl (by simp only [readPlatesBody, State.findRecord, find_id_none hid])
  · rintro q rs (⟨k, hk, rfl, rfl⟩ | ⟨id, r, rfl, hr, rfl⟩)
    · refine exec_read hl rfl rfl ?_
      simp only [readPlatesBody, if_neg (Nat.not_lt.2 hk)]
      rfl
    · refine exec_read hl rfl rfl ?_
      simp only [readPlatesBody, State.findRecord, hr]
  · exact exec_readShiftReport_notFound hl (by simp [findReport, h])
  · exact exec_readShiftReport hl (by simp [findReport, h])
  · exact exec_readShiftReport_notFound hl (by simp only [findReport, if_neg hn, find_id_none h])
  · exact exec_readShiftReport hl (by simp only [findReport, if_neg hn, hf])

/-! ### The full reset -/

/-- R204: the three causes of a full reset leave the same state, up to the levels and straps read. -/
theorem exec_fullReset_cases {s : State} {c : Instr} {p : Pins}
    (h : c = .powerOn p ∨
      (∃ straps, c = .fullReset straps ∧ s.ctl.resetting = true ∧ s.ctl.held = false ∧
        p = ⟨s.pos.phaseA, s.pos.phaseB, s.pos.breakLevel, s.cutter.ready, false, straps⟩) ∨
      ∃ straps, c = .resetPin false straps ∧ s.ctl.held = true ∧
        p = ⟨s.pos.phaseA, s.pos.phaseB, s.pos.breakLevel, s.cutter.ready, false, straps⟩) :
    exec c s = .next (s.afterReset p) := by
  rcases h with rfl | ⟨straps, rfl, hr, hh, rfl⟩ | ⟨straps, rfl, hh, rfl⟩
  · rfl
  · change Host.Outcome.next (fullReset straps s) = _
    simp only [fullReset, hr, hh]
    rfl
  · change Host.Outcome.next (resetPin false straps s) = _
    simp only [resetPin, hh]
    rfl

/-- Settles O7. -/
theorem fullResetLeaves : Obligations.FullResetLeaves := by
  intro s c p h
  refine ⟨s.afterReset p, exec_fullReset_cases h, rfl, fun i => ?_, fun i => ?_, rfl, rfl, rfl, rfl, rfl, rfl, rfl, rfl, rfl, rfl, rfl,
    rfl, rfl, rfl, rfl, rfl, rfl, fun k => ?_, rfl, rfl, rfl, rfl, rfl, rfl, rfl, rfl, rfl, rfl, rfl⟩
  · simp [State.afterReset, State.reset, Lane.initial, Rings.empty]
  · simp [State.afterReset, State.reset, Tracker.initial, FlawTable.empty]
  · cases k <;> exact ⟨rfl, rfl, rfl⟩

/-- Settles O60. -/
theorem resetMeetsTheLaws : Obligations.ResetMeetsTheLaws := by
  refine ⟨?_, ?_, ?_, ?_, fun i => ?_, ?_⟩
  · simp [HaltLaw, State.reset, Port.initial, FaultUnit.initial]
  · constructor <;> simp [State.reset, MapUnit.initial, OrderUnit.initial, Planner.initial, ReportUnit.initial, Port.initial,
      Lane.initial, Tracker.holds, Tracker.initial]
  · simp [OrderLaw, State.reset, OrderUnit.initial]
  · simp [ListOrders, State.reset, MapUnit.initial]
  · constructor <;> simp [State.reset, Lane.initial, Rings.empty, Tracker.initial, FlawTable.empty]
  · constructor <;> simp [State.reset, Position.initial]

/-! ### The speed window and the stall timer -/

theorem exec_speedWindow {s : State} (h : s.ctl.held = false) : exec .speedWindow s =
    .next (judgeSpeed (s.modPos fun p => { p with speed := p.windowCount, windowCount := 0 })) := by
  change Host.Outcome.next (speedWindow s) = _
  simp only [speedWindow, h]
  rfl

theorem exec_stall {s : State} (h : s.ctl.held = false) : exec .stall s = .next
    (if s.pos.stallRunning = false then s
     else if s.pos.ribbon = .moving then raise .ribbonState (s.modPos fun p => { p with stallRunning := false, ribbon := .stopped })
     else s.modPos fun p => { p with stallRunning := false, ribbon := .stopped }) := by
  change Host.Outcome.next (stall s) = _
  cases hr : s.pos.stallRunning <;> simp [stall, h, hr]

/-- Settles O16. -/
theorem speedAndStall : Obligations.SpeedAndStall := by
  refine ⟨fun s hheld => ?_, fun s hheld => ⟨fun hrun => ?_, fun hrun hmove => ?_, fun hrun hstop => ?_⟩⟩
  · intro measured
    refine ⟨fun h => ?_, fun a hcut ha => ⟨fun hslow => ?_, fun hfast hopen => ?_, fun hfast hnew => ?_⟩⟩
    · rw [exec_speedWindow hheld]
      rcases h with h | h <;> simp [judgeSpeed, State.mode, h] <;> rfl
    · rw [exec_speedWindow hheld]
      simp [judgeSpeed, State.mode, hcut, ha, hslow]
      rfl
    · rw [exec_speedWindow hheld]
      simp [judgeSpeed, State.mode, hcut, ha, Nat.not_le.2 hfast, hopen]
      rfl
    · rw [exec_speedWindow hheld]
      simp [judgeSpeed, State.mode, hcut, ha, Nat.not_le.2 hfast, hnew]
      rfl
  · rw [exec_stall hheld, if_pos hrun]
  · rw [exec_stall hheld, if_neg (by simp [hrun]), if_pos hmove]
    rfl
  · rw [exec_stall hheld, if_neg (by simp [hrun]), if_neg (by simp [hstop])]
    simp only [State.modPos, ← hstop]

end Sys2Proof.Machine
end

section
/-!
What every operation of the part keeps, said once for the invariants (O8, O56 to O59): capacities and orders of the collections, the ranges of the
Position Unit, Y and K, the plate records, and the silence after RESET. `Steady` leaves the twelfth law out, which the steps of a
halt and of a line reset break in between; `Kept` adds it.
-/

namespace Sys2Proof.Machine

/-! ### The invariants, block by block -/

/-- The capacities of a lane unit. -/
structure LaneFits (l : Lane) : Prop where
  staticMask : l.staticMask.length ≤ 64
  bright : l.rings.bright.length ≤ 8
  dark : l.rings.dark.length ≤ 8
  oblique : l.rings.oblique.length ≤ 8
  dynColumns : l.dynColumns.length ≤ 8

/-- The capacities of a lane's open flaws and marks. -/
structure TableFits (t : FlawTable) : Prop where
  flaws : t.flaws.length ≤ 32
  marks : t.marks.length ≤ 32

def SetFits (d : DetectionSet) : Prop := 1 ≤ d.slots.length ∧ d.slots.length ≤ 5

/-- The masked columns of all lanes. -/
def maskCount (v : Vector Lane 8) : Nat := (v.toList.map fun l => l.staticMask.length).sum

/-- The map and the blind list within their capacities and in order. -/
structure MapFits (m : MapUnit) : Prop where
  entries : m.entries.length ≤ 1024
  blind : m.blind.length ≤ 64
  sorted : m.entries.Pairwise fun a b => a.yFirst ≤ b.yFirst
  blindSorted : m.blind.Pairwise fun a b => a.yStart ≤ b.yStart

structure OrdersFit (u : OrderUnit) : Prop where
  queue : u.queue.length ≤ 8
  ids : (u.queue.map Order.id).Nodup
  finished : u.finished.length ≤ 8

structure ReportFits (r : ReportUnit) : Prop where
  store : r.store.length ≤ 4
  journal : r.journal.length ≤ 64

/-- The eighth law for one record: `r` is what `q` may become. -/
structure Descends (q r : PlateRecord) : Prop where
  id : r.id = q.id
  kind : r.kind = q.kind
  order : r.order = q.order
  yStart : r.yStart = q.yStart
  yEnd : r.yEnd = q.yEnd
  version : r.version = q.version
  rejectDest : r.rejectDest = q.rejectDest
  forced : r.forced = q.forced
  cutId : r.cut.id = q.cut.id
  cutPos : r.cut.pos = q.cut.pos
  grades : (r.grade = q.grade ∧ r.pieces = q.pieces) ∨
    (r.grade = .x ∧ r.pieces = q.pieces.map fun p => { p with grade := .x, dest := q.rejectDest })

def PosKept (ys : Nat) (p q : Position) : Prop := q.y = p.y + ys ∧ (RibbonRanges p → RibbonRanges q)

def LanesKept (v w : Vector Lane 8) : Prop :=
  (maskCount v ≤ 256 → maskCount w ≤ 256) ∧ ((∀ i : LaneId, LaneFits v[i.val]) → ∀ i : LaneId, LaneFits w[i.val])

def TrackerKept (t u : Tracker) : Prop :=
  ((∀ i : LaneId, TableFits t.tables[i.val]) → ∀ i : LaneId, TableFits u.tables[i.val]) ∧
    ((∀ d, t.holds d → SetFits d) → ∀ d, u.holds d → SetFits d)

/-- At most `n` records more, and with none more each record stems from one that stood. -/
def RecordsKept (n : Nat) (xs ys : List PlateRecord) : Prop :=
  ys.length ≤ xs.length + n ∧ (n = 0 → ∀ r ∈ ys, ∃ q ∈ xs, Descends q r)

/-- What every operation keeps that adds `recs` plate records and `ys` to Y, the twelfth law apart. -/
structure Steady (recs ys : Nat) (s t : State) : Prop where
  pos : PosKept ys s.pos t.pos
  lanes : LanesKept s.lanes t.lanes
  tracker : TrackerKept s.tracker t.tracker
  map : MapFits s.map → MapFits t.map
  orders : OrdersFit s.orders → OrdersFit t.orders
  records : RecordsKept recs s.planner.table t.planner.table
  report : ReportFits s.report → ReportFits t.report
  delayed : s.port.delayed.length ≤ 4 → t.port.delayed.length ≤ 4
  silent : s.ctl.resetting = true → t.ctl.resetting = true ∧ t.out.replies = s.out.replies ∧ t.port.delayed = s.port.delayed
  held : t.ctl.held = s.ctl.held
  idle : s.port.mode = .idle → t.port.mode = .idle
  frontier : t.port.mode ≠ .idle → s.tracker.frontier ≤ t.tracker.frontier

structure Kept (recs ys : Nat) (s t : State) : Prop extends Steady recs ys s t where
  halt : HaltLaw s → HaltLaw t

/-- What an operation keeps that adds no record and leaves Y. -/
abbrev Keeps (s t : State) : Prop := Kept 0 0 s t

/-! ### Doing nothing, and one operation after another -/

theorem Descends.refl (q : PlateRecord) : Descends q q := ⟨rfl, rfl, rfl, rfl, rfl, rfl, rfl, rfl, rfl, rfl, .inl ⟨rfl, rfl⟩⟩

theorem Descends.trans {p q r : PlateRecord} (h : Descends p q) (g : Descends q r) : Descends p r := by
  refine ⟨g.id.trans h.id, g.kind.trans h.kind, g.order.trans h.order, g.yStart.trans h.yStart, g.yEnd.trans h.yEnd,
    g.version.trans h.version, g.rejectDest.trans h.rejectDest, g.forced.trans h.forced, g.cutId.trans h.cutId,
    g.cutPos.trans h.cutPos, ?_⟩
  rcases g.grades with ⟨g1, g2⟩ | ⟨g1, g2⟩
  · rw [g1, g2]
    exact h.grades
  · refine .inr ⟨g1, ?_⟩
    rcases h.grades with ⟨-, h2⟩ | ⟨-, h2⟩ <;> simp [g2, h2, h.rejectDest]

theorem RecordsKept.trans {m n : Nat} {xs ys zs : List PlateRecord} (h : RecordsKept m xs ys) (g : RecordsKept n ys zs) :
    RecordsKept (m + n) xs zs := by
  refine ⟨by have := h.1; have := g.1; omega, fun hmn r hr => ?_⟩
  obtain ⟨q, hq, hqr⟩ := g.2 (by omega) r hr
  obtain ⟨p, hp, hpq⟩ := h.2 (by omega) q hq
  exact ⟨p, hp, hpq.trans hqr⟩

theorem RecordsKept.refl (xs : List PlateRecord) : RecordsKept 0 xs xs := ⟨le_rfl, fun _ r hr => ⟨r, hr, .refl r⟩⟩

theorem Kept.refl (s : State) : Keeps s s where
  pos := ⟨rfl, id⟩
  lanes := ⟨id, id⟩
  tracker := ⟨id, id⟩
  map := id
  orders := id
  records := .refl _
  report := id
  delayed := id
  silent h := ⟨h, rfl, rfl⟩
  held := rfl
  idle := id
  frontier _ := le_rfl
  halt := id

theorem Steady.trans {m n x y : Nat} {s t u : State} (h : Steady m x s t) (g : Steady n y t u) : Steady (m + n) (x + y) s u where
  pos := ⟨by rw [g.pos.1, h.pos.1]; omega, g.pos.2 ∘ h.pos.2⟩
  lanes := ⟨g.lanes.1 ∘ h.lanes.1, g.lanes.2 ∘ h.lanes.2⟩
  tracker := ⟨g.tracker.1 ∘ h.tracker.1, g.tracker.2 ∘ h.tracker.2⟩
  map := g.map ∘ h.map
  orders := g.orders ∘ h.orders
  records := h.records.trans g.records
  report := g.report ∘ h.report
  delayed := g.delayed ∘ h.delayed
  silent hs := by
    obtain ⟨h1, h2, h3⟩ := h.silent hs
    obtain ⟨g1, g2, g3⟩ := g.silent h1
    exact ⟨g1, g2.trans h2, g3.trans h3⟩
  held := g.held.trans h.held
  idle := g.idle ∘ h.idle
  frontier hu := (h.frontier fun ht => hu (g.idle ht)).trans (g.frontier hu)

theorem Kept.trans {m n x y : Nat} {s t u : State} (h : Kept m x s t) (g : Kept n y t u) : Kept (m + n) (x + y) s u :=
  ⟨h.toSteady.trans g.toSteady, g.halt ∘ h.halt⟩

theorem Keeps.trans {s t u : State} (h : Keeps s t) (g : Keeps t u) : Keeps s u := Kept.trans h g

theorem Keeps.after {s t u : State} (g : Keeps t u) (h : Keeps s t) : Keeps s u := h.trans g

theorem Keeps.afterKept {m x : Nat} {s t u : State} (g : Keeps t u) (h : Kept m x s t) : Kept m x s u := h.trans g

theorem Keeps.thenKept {m x : Nat} {s t u : State} (h : Keeps s t) (g : Kept m x t u) : Kept m x s u := by
  have hboth := Kept.trans h g
  rwa [Nat.zero_add, Nat.zero_add] at hboth

theorem RecordsKept.mono {m n : Nat} {xs ys : List PlateRecord} (h : RecordsKept m xs ys) (hmn : m ≤ n) : RecordsKept n xs ys :=
  ⟨h.1.trans (by omega), fun hn => h.2 (by omega)⟩

theorem Kept.mono {m n x : Nat} {s t : State} (h : Kept m x s t) (hmn : m ≤ n) : Kept n x s t :=
  { h with records := h.records.mono hmn }

theorem keeps_ite {p : Prop} [Decidable p] {s t u : State} (h : Keeps s t) (g : Keeps s u) : Keeps s (if p then t else u) := by
  split
  · exact h
  · exact g

/-- A fold of steps that each keep the invariants. -/
theorem keeps_foldl {α : Type} (f : State → α → State) (h : ∀ s x, Keeps s (f s x)) (xs : List α) (s : State) :
    Keeps s (xs.foldl f s) := by
  induction xs generalizing s with
  | nil => exact .refl s
  | cons x xs ih => exact (h s x).trans (ih _)

theorem forLanes_keepsAll (f : LaneId → State → State) (h : ∀ i s, Keeps s (f i s)) (s : State) : Keeps s (forLanes f s) :=
  keeps_foldl (fun s i => f i s) (fun s i => h i s) allLanes s

/-! ### Changes of one block -/

section
variable (s : State)

theorem modPos_keeps {g : Position → Position} (h : PosKept 0 s.pos (g s.pos)) : Keeps s (s.modPos g) :=
  { Kept.refl s with pos := h }

theorem modMap_keeps {g : MapUnit → MapUnit} (h : MapFits s.map → MapFits (g s.map)) : Keeps s (s.modMap g) :=
  { Kept.refl s with map := h }

theorem modOrders_keeps {g : OrderUnit → OrderUnit} (h : OrdersFit s.orders → OrdersFit (g s.orders)) : Keeps s (s.modOrders g) :=
  { Kept.refl s with orders := h }

theorem modPlanner_keeps {g : Planner → Planner} (h : RecordsKept 0 s.planner.table (g s.planner).table) : Keeps s (s.modPlanner g) :=
  { Kept.refl s with records := h }

theorem modGrader_keeps (g : Grader → Grader) : Keeps s (s.modGrader g) := { Kept.refl s with }

theorem modCutter_keeps (g : CutterLink → CutterLink) : Keeps s (s.modCutter g) := { Kept.refl s with }

theorem modReport_keeps {g : ReportUnit → ReportUnit} (h : ReportFits s.report → ReportFits (g s.report)) : Keeps s (s.modReport g) :=
  { Kept.refl s with report := h }

theorem tally_keeps (g : Shift → Shift) : Keeps s (tally g s) := modReport_keeps s fun h => ⟨h.store, h.journal⟩

theorem raise_keeps (e : Event) : Keeps s (raise e s) := { Kept.refl s with }

theorem sendRecord_keeps (r : CutterRecord) : Keeps s (sendRecord r s) := { Kept.refl s with }

theorem modTracker_keeps {g : Tracker → Tracker} (h : TrackerKept s.tracker (g s.tracker))
    (hk : s.tracker.frontier ≤ (g s.tracker).frontier) : Keeps s (s.modTracker g) :=
  { Kept.refl s with tracker := h, frontier := fun _ => hk }

/-- A change of one lane that does not lengthen its static mask. -/
theorem modLane_keeps (i : LaneId) {g : Lane → Lane} (hm : (g (s.lane i)).staticMask.length ≤ (s.lane i).staticMask.length)
    (hf : LaneFits (s.lane i) → LaneFits (g (s.lane i))) : Keeps s (s.modLane i g) := by
  have hmask : maskCount (s.lanes.set i.val (g s.lanes[i.val])) ≤ maskCount s.lanes := by
    simp only [maskCount, Vector.toList_set]
    apply List.Forall₂.sum_le_sum
    rw [List.forall₂_map_left_iff, List.forall₂_map_right_iff, List.forall₂_iff_get]
    refine ⟨by simp, fun n h1 h2 => ?_⟩
    rw [List.get_eq_getElem, List.get_eq_getElem, List.getElem_set]
    split
    · obtain rfl : i.val = n := ‹_›
      simpa [State.lane] using hm
    · exact le_rfl
  have hfit (h : ∀ j : LaneId, LaneFits s.lanes[j.val]) (j : LaneId) : LaneFits (s.lanes.set i.val (g s.lanes[i.val]))[j.val] := by
    rw [Vector.getElem_set]
    split
    · exact hf (h i)
    · exact h j
  exact { Kept.refl s with lanes := ⟨fun h => hmask.trans h, hfit⟩ }

theorem modTable_keeps (i : LaneId) {g : FlawTable → FlawTable} (hf : TableFits (s.table i) → TableFits (g (s.table i))) :
    Keeps s (s.modTable i g) := by
  refine modTracker_keeps s ⟨fun h j => ?_, id⟩ le_rfl
  change TableFits (s.tracker.tables.set i.val (g s.tracker.tables[i.val]))[j.val]
  rw [Vector.getElem_set]
  split
  · exact hf (h i)
  · exact h j

/-- A slot that is HALT HELD. -/
def FaultSlot.halting : FaultSlot → Bool
  | .haltHeld _ => true
  | .empty | .held _ => false

theorem haltLaw_iff : HaltLaw s ↔ (s.port.mode = .halted ↔ s.fault.slot.halting = true) := by
  unfold HaltLaw
  cases s.fault.slot <;> simp [FaultSlot.halting]

theorem FaultSlot.suppress_halting (slot : FaultSlot) : slot.suppress.halting = slot.halting := by cases slot <;> rfl

theorem modFault_keeps {g : FaultUnit → FaultUnit} (h : (g s.fault).slot.halting = s.fault.slot.halting) : Keeps s (s.modFault g) :=
  { Kept.refl s with halt := fun hs => (haltLaw_iff _).2 (by simpa [h] using (haltLaw_iff s).1 hs) }

theorem fillSlot_keeps {slot : FaultSlot} (h : slot.halting = s.fault.slot.halting) : Keeps s (fillSlot slot s) :=
  (modFault_keeps s (g := fun f => { f with slot := slot, nextNumber := nextNumber f.nextNumber }) h).trans (raise_keeps _ _)

/-- A reply that the part sends while no RESET is outstanding. -/
theorem sendReply_keeps (kind tag : Nat) (r : Result) (b : ReplyBody) (h : s.ctl.resetting = false) :
    Keeps s (sendReply kind tag r b s) :=
  { Kept.refl s with silent := fun hs => absurd hs (by simp [h]) }

theorem answered_kept {m x : Nat} {s t : State} (k : Request) (tag : Nat) (r : Result) (b : ReplyBody) (h : s.ctl.resetting = false)
    (ht : Kept m x s t) : Kept m x s (t.answered k tag r b) :=
  { ht with silent := fun hs => absurd hs (by simp [h]) }

theorem addDelayed_keeps (k : Request) (tag : Nat) (h : s.ctl.resetting = false) (hroom : s.delayFull = false) :
    Keeps s (addDelayed k tag s) := by
  have hlt : s.port.delayed.length < 4 := Nat.not_le.1 (of_decide_eq_false hroom)
  exact { Kept.refl s with
    silent := fun hs => absurd hs (by simp [h])
    delayed := fun _ => by simp [addDelayed]; omega }

/-- A change of mode that does not leave IDLE, the twelfth law apart. -/
theorem setMode_steady {m : Mode} (h : s.port.mode ≠ .idle) : Steady 0 0 s (setMode m s) :=
  { (Kept.refl s).toSteady with
    pos := ⟨rfl, fun hp => ⟨hp.y, hp.debt, hp.window, hp.speed, hp.rem⟩⟩
    idle := fun hi => absurd hi h
    frontier := fun _ => le_rfl }

/-- A change from one mode that is neither IDLE nor HALTED to another. -/
theorem setMode_keeps {m : Mode} (h : s.port.mode.scanning = true) (hm : m ≠ .halted) : Keeps s (setMode m s) := by
  refine ⟨setMode_steady s (by rintro hi; simp [hi, Mode.scanning] at h), fun hs => (haltLaw_iff _).2 ?_⟩
  have hrun : s.port.mode ≠ .halted := by rintro hi; simp [hi, Mode.scanning] at h
  have hslot : s.fault.slot.halting ≠ true := fun hh => hrun (((haltLaw_iff s).1 hs).2 hh)
  simp [hm, hslot]

end

/-! ### The port (Chapter 11) -/

theorem answerDelayed_keeps (k : Request) (r : Result) (b : ReplyBody) (s : State) : Keeps s (answerDelayed k r b s) := by
  obtain ⟨d, o, he, hd, -⟩ := answerDelayed_frame k r b s
  by_cases hr : s.ctl.resetting = true
  · rw [answerDelayed_resetting hr]
    exact .refl s
  · rw [he]
    exact { Kept.refl s with silent := fun hs => absurd hs hr, delayed := fun h => hd.length_le.trans h }

theorem discardFrame_keeps (s : State) : Keeps s (discardFrame s) := by
  unfold discardFrame
  split
  · exact .refl s
  · exact { Kept.refl s with }

theorem unknownRequest_keeps (kind tag : Nat) (s : State) : Keeps s (unknownRequest kind tag s) := by
  unfold unknownRequest
  split
  · exact .refl s
  · rename_i h
    have hr : s.ctl.resetting = false := by simp [State.deaf] at h; exact h.1.2
    split <;> exact sendReply_keeps s _ _ _ _ hr

/-- R197, R204: a request changes nothing, is refused by the checks, or is answered by its own rule. -/
theorem request_cases {α : Type} (k : Request) (tag : Nat) (c : Content α) (body : α → State → Answer) (s : State) :
    request k tag c body s = s ∨
    s.deaf = false ∧ ((∃ r, request k tag c body s = s.answered k tag r .empty) ∨
      ∃ v, c = .fields v ∧ takenIn k s.port.mode = true ∧ request k tag c body s = answer k tag s (body v s)) := by
  by_cases hd : s.deaf = true
  · exact .inl (request_deaf _ _ _ _ _ hd)
  have hd' : s.deaf = false := by simpa using hd
  refine .inr ⟨hd', ?_⟩
  by_cases ht : s.tagInUse tag = true
  · exact .inl ⟨_, request_tagInUse _ _ _ _ _ hd' ht⟩
  have ht' : s.tagInUse tag = false := by simpa using ht
  cases c with
  | wrongLength => exact .inl ⟨_, request_badLength _ _ _ _ hd' ht'⟩
  | fields v =>
    by_cases hm : takenIn k s.mode = true
    · exact .inr ⟨v, rfl, hm, request_taken _ _ _ _ _ hd' ht' hm⟩
    · exact .inl ⟨_, request_wrongMode _ _ _ _ _ hd' ht' (by simpa using hm)⟩

/-- What an answer leaves to do before its reply. -/
def Answer.leaves (m x : Nat) (s : State) : Answer → Prop
  | .refuse _ => Keeps s s
  | .ok t _ | .delay t => Kept m x s t

/-- The checks of R197 add nothing to what the request's own rule does. -/
theorem request_keeps {α : Type} (k : Request) (tag : Nat) (c : Content α) (body : α → State → Answer) (s : State)
    (h : ∀ v, s.ctl.resetting = false → s.ctl.held = false → takenIn k s.port.mode = true → (body v s).leaves 0 0 s) :
    Keeps s (request k tag c body s) := by
  rcases request_cases k tag c body s with he | ⟨hd, he⟩
  · rw [he]
    exact .refl s
  obtain ⟨hheld, hr⟩ : s.ctl.held = false ∧ s.ctl.resetting = false := by simpa [State.deaf] using hd
  have refused (r : Result) : Keeps s (s.answered k tag r .empty) := answered_kept k tag r .empty hr (.refl s)
  rcases he with ⟨r, he⟩ | ⟨v, -, hm, he⟩
  · rw [he]
    exact refused r
  rw [he]
  have hv := h v hr hheld hm
  cases hb : body v s with
  | refuse r =>
    rw [answer_refuse]
    exact refused r
  | ok t b =>
    rw [hb] at hv
    rw [answer_ok]
    exact answered_kept k tag .ok b hr hv
  | delay t =>
    rw [hb] at hv
    exact hv

/-- A request whose own rule answers OK with the state as it is. -/
theorem read_keeps {α : Type} (k : Request) (tag : Nat) (c : Content α) (body : α → State → Answer) (s : State)
    (h : ∀ v, (∃ r, body v s = .refuse r) ∨ ∃ b, body v s = .ok s b) : Keeps s (request k tag c body s) := by
  refine request_keeps k tag c body s fun v _ _ _ => ?_
  rcases h v with ⟨r, hr⟩ | ⟨b, hb⟩
  · rw [hr]
    exact .refl s
  · rw [hb]
    exact .refl s

/-! ### The Report Unit (Chapter 9) -/

theorem addJournal_keeps (r : PlateRecord) (chain : Option (Nat × Nat)) (s : State) : Keeps s (addJournal r chain s) :=
  (modReport_keeps s (g := fun p => { p with
    journal := pushBounded Config.journalCapacity p.journal (journalEntry r chain p.shift.seq) })
    fun h => ⟨h.store, pushBounded_length 64 _ _ h.journal (by omega)⟩).trans (raise_keeps _ _)

theorem closeOpenShift_keeps (label : List Byte) (time : Nat) (s : State) : Keeps s (closeOpenShift label time s) :=
  (modReport_keeps s (g := fun r =>
    { r with store := storeReport { r.shift with closeTime := some time, closeY := some s.pos.y } r.store,
             shift := Shift.opened (nextId r.shift.seq) label time s.pos.y })
    fun h => ⟨(storeReport_spec _ _ h.store).1, h.journal⟩).trans (raise_keeps _ _)

theorem makePendingClose_keeps (s : State) : Keeps s (makePendingClose s) := by
  unfold makePendingClose
  split
  · exact .refl s
  · exact ((closeOpenShift_keeps _ _ s).trans
      (modReport_keeps _ (g := fun r => { r with pendingClose := none }) fun h => ⟨h.store, h.journal⟩)).trans (answerDelayed_keeps ..)

theorem pendingClose_keeps (s : State) : Keeps s (pendingClose s) := by
  unfold pendingClose
  split
  · exact .refl s
  · exact makePendingClose_keeps s

/-! ### References and retirement (R81 to R83) -/

theorem MapFits.updateRefs {m : MapUnit} (h : MapFits m) (pe : MapEntry → Bool) (pb : Interval → Bool) (f g : Nat → Nat) :
    MapFits { m with entries := updateWhere pe (fun e => { e with refs := f e.refs }) m.entries,
                     blind := updateWhere pb (fun b => { b with refs := g b.refs }) m.blind } :=
  ⟨by simpa using h.entries, by simpa using h.blind, updateWhere_sorted _ _ MapEntry.yFirst (by intro; rfl) _ h.sorted,
    updateWhere_sorted _ _ Interval.yStart (by intro; rfl) _ h.blindSorted⟩

theorem takeReferences_keeps (a b : Nat) (s : State) : Keeps s (takeReferences a b s) :=
  modMap_keeps s fun h => h.updateRefs _ _ (· + 1) (· + 1)

theorem retireWhere_keeps (pe : MapEntry → Bool) (pb : Interval → Bool) (s : State) : Keeps s (retireWhere pe pb s) := by
  obtain ⟨es, bs, hr, rm, f, he, h1, h2⟩ := retireWhere_frame pe pb s
  rw [he]
  exact { Kept.refl s with
    map := fun h => ⟨h1.length_le.trans h.entries, h2.length_le.trans h.blind, h.sorted.sublist h1, h.blindSorted.sublist h2⟩
    report := fun h => ⟨h.store, h.journal⟩ }

theorem releaseReferences_keeps (fs bs : List Nat) (s : State) : Keeps s (releaseReferences fs bs s) :=
  (modMap_keeps s fun h => h.updateRefs _ _ (· - 1) (· - 1)).trans (retireWhere_keeps _ _ _)

theorem mapRetirement_keeps (s : State) : Keeps s (mapRetirement s) := by
  unfold mapRetirement
  split
  · exact .refl s
  · exact (retireWhere_keeps _ _ s).trans (modMap_keeps _ fun h => ⟨h.entries, h.blind, h.sorted, h.blindSorted⟩)

/-! ### The planning state and orders (Chapter 5) -/

theorem testRoom_keeps (s : State) : Keeps s (testRoom s) := by
  obtain ⟨p, hp, -⟩ := testRoom_spec s
  rw [hp]
  exact { Kept.refl s with }

theorem modOrder_keeps (id : Nat) {g : Order → Order} (h : ∀ o, (g o).id = o.id) (s : State) : Keeps s (modOrder id g s) :=
  modOrders_keeps s fun hu => ⟨by simpa using hu.queue, by
    have hids : (updateWhere (fun o : Order => o.id == id) g s.orders.queue).map Order.id = s.orders.queue.map Order.id :=
      updateWhere_proj _ _ _ h _
    simpa only [hids] using hu.ids, hu.finished⟩

theorem finishOrder_keeps (o : Order) (c : OrderOutcome) (s : State) : Keeps s (finishOrder o c s) :=
  ((modOrders_keeps s (g := fun u =>
    { u with queue := u.queue.filter (fun q => q.id != o.id),
             finished := pushBounded Config.finishedCapacity u.finished
               ⟨o.id, o.quantity, o.target, o.planned, o.delivered, c, s.report.shift.seq⟩ })
    fun h => ⟨(List.length_filter_le _ _).trans h.queue, h.ids.sublist (List.filter_sublist.map _),
      pushBounded_length 8 _ _ h.finished (by omega)⟩).trans (tally_keeps _ _)).trans (raise_keeps _ _)

theorem testFinish_keeps (id : Nat) (s : State) : Keeps s (testFinish id s) := by
  unfold testFinish
  split
  · exact .refl s
  · split
    · exact finishOrder_keeps _ _ s
    · exact .refl s

theorem endOrder_keeps (id : Nat) (s : State) : Keeps s (endOrder id s) :=
  ((modOrder_keeps id (g := fun o => { o with state := .ending }) (fun _ => rfl) s).trans (testFinish_keeps id _)).trans (testRoom_keeps _)

theorem failQueued_keeps (o : Order) (s : State) : Keeps s (failQueued o s) := by
  unfold failQueued
  split
  · exact finishOrder_keeps _ _ s
  · exact (modOrder_keeps o.id (g := fun q => { q with state := .ending }) (fun _ => rfl) s).trans (raise_keeps _ _)

theorem setExhausted_keeps (b : Bool) (s : State) : Keeps s (s.modOrders fun u => { u with exhausted := b }) :=
  modOrders_keeps s fun h => ⟨h.queue, h.ids, h.finished⟩

theorem makeActive_keeps (o : Order) (s : State) : Keeps s (makeActive o s) :=
  (((modOrder_keeps o.id (g := fun q => { q with state := .active }) (fun _ => rfl) s).trans (setExhausted_keeps false _)).trans
    (raise_keeps _ _)).trans (testRoom_keeps _)

theorem activateNext_keeps (s : State) : Keeps s (activateNext s) := by
  unfold activateNext
  generalize s.orders.queue.length = n
  induction n generalizing s with
  | zero => exact .refl s
  | succ n ih =>
    unfold activateUpTo
    split
    · exact .refl s
    split
    · exact .refl s
    split
    · exact (failQueued_keeps _ s).trans (ih _)
    split
    · exact ((makeActive_keeps _ s).trans (endOrder_keeps _ _)).trans (ih _)
    · exact makeActive_keeps _ s

theorem fitOrder_keeps (s : State) (id : Nat) : Keeps s (fitOrder s id) := by
  unfold fitOrder
  split
  · exact .refl s
  split
  · exact .refl s
  split
  · exact failQueued_keeps _ s
  · exact ((raise_keeps s _).trans (endOrder_keeps _ _)).trans (activateNext_keeps _)
  · exact .refl s

theorem fitChecks_keeps (s : State) : Keeps s (fitChecks s) := keeps_foldl fitOrder fitOrder_keeps _ s

theorem splitChecks_keeps (s : State) : Keeps s (splitChecks s) :=
  keeps_foldl _ (fun s o => by
    split
    · exact .refl s
    · exact finishOrder_keeps _ _ s) _ s

theorem stopCounting_keeps (r : PlateRecord) (s : State) : Keeps s (stopCounting r s) := by
  unfold stopCounting
  split
  · exact .refl s
  split
  · exact modOrder_keeps _ (by intro; rfl) s
  · exact .refl s

theorem orderDelivered_keeps (r : PlateRecord) (s : State) : Keeps s (orderDelivered r s) := by
  unfold orderDelivered
  split
  · exact .refl s
  split
  · exact modOrder_keeps _ (by intro; rfl) s
  · exact .refl s

theorem orderCommitted_keeps (id : Nat) (counted : Bool) (s : State) : Keeps s (orderCommitted id counted s) := by
  have hcount := modOrder_keeps id (g := fun o => { o with planned := satAdd Config.max32 o.planned 1 }) (fun _ => rfl) s
  unfold orderCommitted
  split
  · dsimp only
    split
    · exact hcount
    split
    · exact (hcount.trans (endOrder_keeps _ _)).trans (activateNext_keeps _)
    · exact hcount
  · exact .refl s

theorem requeue_keeps (p : OrderState → Bool) (s : State) : Keeps s (requeue p s) := by
  refine modOrders_keeps s fun h => ?_
  have hperm : (((s.orders.queue.filter fun o : Order => p o.state).map (fun o : Order => { o with state := OrderState.queued }) ++
      s.orders.queue.filter fun o : Order => !p o.state).map Order.id).Perm (s.orders.queue.map Order.id) := by
    have h := (List.filter_append_perm (fun o : Order => p o.state) s.orders.queue).map Order.id
    simpa [Function.comp_def] using h
  exact ⟨by simpa using hperm.length_eq.le.trans (by simpa using h.queue), hperm.nodup_iff.2 h.ids, h.finished⟩

theorem ordersExhausted_keeps (s : State) : Keeps s (ordersExhausted s) := by
  unfold ordersExhausted
  split
  · exact .refl s
  · exact (setExhausted_keeps true s).trans (raise_keeps _ _)

theorem withdraw_keeps (o : Order) (s : State) : Keeps s (withdraw o s) := by
  unfold withdraw
  split
  · split
    · exact finishOrder_keeps _ _ s
    · exact modOrder_keeps _ (by intro; rfl) s
  · exact (endOrder_keeps _ s).trans (activateNext_keeps _)
  · exact .refl s

theorem loadOrderBody_leaves (f : OrderFields) (s : State) : (loadOrderBody f s).leaves 0 0 s := by
  unfold loadOrderBody
  split
  · exact .refl s
  split
  · exact .refl s
  split
  · exact .refl s
  split
  · exact .refl s
  split
  · exact .refl s
  rename_i o _ hroom hnew _ _
  refine (modOrders_keeps s fun h => ?_).trans (activateNext_keeps _)
  have hid : ∀ q ∈ s.orders.queue, q.id ≠ o.id := by simpa [State.findOrder] using hnew
  have hlen : s.orders.queue.length < 8 := by simpa [Config.queueCapacity] using hroom
  refine ⟨by simp; omega, ?_, h.finished⟩
  rw [List.map_append, List.nodup_append]
  exact ⟨h.ids, by simp, by simpa using hid⟩

theorem withdrawOrderBody_leaves (id : Nat) (s : State) : (withdrawOrderBody id s).leaves 0 0 s := by
  unfold withdrawOrderBody
  split
  · exact .refl s
  · exact withdraw_keeps _ s

theorem closeShiftBody_leaves (tag : Nat) (f : CloseFields) (s : State) (hr : s.ctl.resetting = false) :
    (closeShiftBody tag f s).leaves 0 0 s := by
  unfold closeShiftBody
  split
  · exact .refl s
  split
  · exact .refl s
  split
  · exact .refl s
  split
  · split
    · exact .refl s
    · rename_i hfull
      exact (modReport_keeps s (g := fun r => { r with pendingClose := some ⟨f.label, f.hostTime, tag⟩ })
        fun h => ⟨h.store, h.journal⟩).trans (addDelayed_keeps _ _ _ hr (Bool.eq_false_iff.2 hfull))
  · exact closeOpenShift_keeps _ _ s

/-! ### The agreement (section 8.2) -/

theorem agree_keeps (c : Capability) (s : State) : Keeps s (agree c s) :=
  ((((modCutter_keeps s _).trans (sendRecord_keeps _ _)).trans (raise_keeps _ _)).trans (fitChecks_keeps _)).trans (testRoom_keeps _)

theorem dropAgreement_keeps (s : State) : Keeps s (dropAgreement s) := by
  unfold dropAgreement
  split
  · exact .refl s
  · exact (modCutter_keeps s _).trans (raise_keeps _ _)

theorem setUnseenLoss_keeps (v : Bool) (s : State) : Keeps s (setUnseenLoss v s) := modFault_keeps s rfl

theorem decline_keeps (r : DeclineReason) (c : Capability) (s : State) : Keeps s (decline r c s) :=
  ((modCutter_keeps s _).trans (sendRecord_keeps _ _)).trans (dropAgreement_keeps _)

theorem evaluate_keeps (ready : Bool) (c : Capability) (s : State) : Keeps s (evaluate ready c s) := by
  unfold evaluate
  split
  · exact agree_keeps c s
  · exact decline_keeps _ c s

theorem reassess_keeps (s : State) : Keeps s (reassess s) := by
  unfold reassess
  split
  · exact .refl s
  · exact evaluate_keeps _ _ s

theorem evaluateHeld_keeps (s : State) : Keeps s (evaluateHeld s) := by
  unfold evaluateHeld
  split
  · exact .refl s
  · exact (modCutter_keeps s _).trans (evaluate_keeps _ _ _)

end Sys2Proof.Machine
end

section
/-!
What the reports, the halt, the line reset, the blind list, the map, the Tracker and the lanes keep (O56 to O59).
-/

namespace Sys2Proof.Machine

/-! ### Reports, the halt and the line reset (Chapter 10) -/

theorem suppress_keeps (s : State) : Keeps s (s.modFault fun f => { f with slot := f.slot.suppress }) :=
  modFault_keeps s (FaultSlot.suppress_halting _)

theorem report1_keeps (k : FaultKind) (it : ReportItems) (s : State) : Keeps s (report1 k it s) := by
  unfold report1
  dsimp only
  split
  · rename_i hslot
    exact (tally_keeps s _).trans (fillSlot_keeps _ (by rw [hslot]; rfl))
  · exact (tally_keeps s _).trans (suppress_keeps _)
  · exact (tally_keeps s _).trans (suppress_keeps _)

theorem RecordsKept.of_sublist {xs ys : List PlateRecord} (h : ys.Sublist xs) : RecordsKept 0 xs ys :=
  ⟨h.length_le, fun _ r hr => ⟨r, h.subset hr, .refl r⟩⟩

theorem voidRecord_keeps (r : PlateRecord) (s : State) : Keeps s (voidRecord r s) :=
  (((modPlanner_keeps s (g := fun p => { p with table := p.table.filter fun q => q.id != r.id })
    (.of_sublist List.filter_sublist)).trans (releaseReferences_keeps _ _ _)).trans (stopCounting_keeps r _)).trans (tally_keeps _ _)

theorem voidAll_keeps (s : State) : Keeps s (voidAll s) :=
  (keeps_foldl (fun s r => voidRecord r s) (fun s r => voidRecord_keeps r s) _ s).trans
    (modPlanner_keeps _ (g := fun p => { p with table := [], head := none, planning := .off }) (.of_sublist (List.nil_sublist _)))

theorem sendCutterHalt_keeps (s : State) : Keeps s (sendCutterHalt s) := (sendRecord_keeps s _).trans (modCutter_keeps _ _)

theorem makePendingClose_mode (s : State) : (makePendingClose s).port.mode = s.port.mode := by
  obtain ⟨r, v, d, o, he, -⟩ := makePendingClose_frame s
  rw [he]

theorem makePendingClose_fault (s : State) : (makePendingClose s).fault = s.fault := by
  obtain ⟨r, v, d, o, he, -⟩ := makePendingClose_frame s
  rw [he]

theorem voidAll_port (s : State) : (voidAll s).port = s.port := by
  obtain ⟨m, q, h, he, -⟩ := voidAll_frame s
  rw [he]

theorem voidAll_fault (s : State) : (voidAll s).fault = s.fault := by
  obtain ⟨m, q, h, he, -⟩ := voidAll_frame s
  rw [he]

theorem halt_mode (s : State) : (halt s).port.mode = .halted := by
  rw [halt, makePendingClose_mode]
  change (voidAll _).port.mode = _
  rw [voidAll_port]
  rfl

theorem halt_slot (s : State) : (halt s).fault.slot = s.fault.slot := by
  rw [halt, makePendingClose_fault]
  change (voidAll _).fault.slot = _
  rw [voidAll_fault]
  rfl

/-- The halt, from a mode that is not IDLE. -/
theorem halt_steady {s : State} (h : s.port.mode ≠ .idle) : Steady 0 0 s (halt s) :=
  ((modFault_keeps s (g := fun f => { f with before := some ⟨s.mode, s.overrunDue, false⟩ }) rfl).toSteady.trans
    (setMode_steady _ h)).trans
      (((voidAll_keeps _).trans (sendCutterHalt_keeps _)).trans (makePendingClose_keeps _)).toSteady

theorem fillSlot_steady (slot : FaultSlot) (s : State) : Steady 0 0 s (fillSlot slot s) := { (Kept.refl s).toSteady with }

theorem captureHalt_keeps (k : FaultKind) (it : ReportItems) {s : State} (h : s.port.mode.scanning = true) :
    Keeps s (captureHalt k it s) := by
  have hidle : s.port.mode ≠ .idle := by rintro hi; simp [hi, Mode.scanning] at h
  refine ⟨(fillSlot_steady _ s).trans (halt_steady hidle), fun _ => (haltLaw_iff _).2 ?_⟩
  have hslot : (captureHalt k it s).fault.slot = .haltHeld (s.record k it s.fault.slot.number) := halt_slot _
  have hmode : (captureHalt k it s).port.mode = .halted := halt_mode _
  simp [hslot, hmode, FaultSlot.halting]

/-- The change to IDLE, the twelfth law apart. -/
theorem setModeIdle_steady (s : State) : Steady 0 0 s (setMode .idle s) :=
  { (Kept.refl s).toSteady with
    pos := ⟨rfl, fun hp => ⟨hp.y, hp.debt, hp.window, hp.speed, hp.rem⟩⟩
    idle := fun _ => rfl
    frontier := fun h => absurd rfl h }

theorem LaneFits.toIdle {l : Lane} (h : LaneFits l) : LaneFits l.toIdle :=
  ⟨h.staticMask, by simp [Lane.toIdle, Rings.empty], by simp [Lane.toIdle, Rings.empty], by simp [Lane.toIdle, Rings.empty],
    h.dynColumns⟩

theorem laneToIdle_keeps (i : LaneId) (s : State) : Keeps s (s.modLane i Lane.toIdle) := modLane_keeps s i le_rfl LaneFits.toIdle

theorem lanesToIdle_keeps (s : State) : Keeps s (lanesToIdle s) :=
  forLanes_keepsAll _ (fun i s => by
    split
    · exact laneToIdle_keeps i s
    · exact (laneToIdle_keeps i s).trans (raise_keeps _ _)) s

theorem lanesToIdle_mode (s : State) : (lanesToIdle s).port.mode = s.port.mode := by
  unfold lanesToIdle
  exact forLanes_keeps (fun t => t.port.mode = s.port.mode) _ s rfl fun i t h => by
    split <;> exact h

theorem emptyTables_fit (i : LaneId) : TableFits (Vector.replicate 8 FlawTable.empty)[i.val] := by
  rw [Vector.getElem_replicate]
  exact ⟨by simp [FlawTable.empty], by simp [FlawTable.empty]⟩

theorem trackerToIdle_keeps {s : State} (h : s.port.mode = .idle) : Keeps s (trackerToIdle s) :=
  { Kept.refl s with
    tracker := ⟨fun _ => emptyTables_fit, fun hs d hd => hs d (by
      rcases hd with hd | hd | hd | ⟨_, hd⟩
      · exact .inl hd
      · cases hd
      · exact .inr (.inr (.inl hd))
      · cases hd)⟩
    frontier := fun hm => absurd h hm }

theorem mapToIdle_keeps (s : State) : Keeps s (mapToIdle s) :=
  modMap_keeps s fun _ => ⟨by simp [MapUnit.initial], by simp [MapUnit.initial], by simp [MapUnit.initial], by simp [MapUnit.initial]⟩

theorem RibbonRanges.of_eq {p q : Position} (hp : RibbonRanges p) (hy : q.y = p.y) (hd : q.debt = p.debt)
    (hw : q.windowCount = p.windowCount) (hs : q.speed = p.speed) (hr : q.rem = p.rem) (hc : q.configured = p.configured)
    (hg : q.geometry = p.geometry) : RibbonRanges q :=
  ⟨hy ▸ hp.y, hd ▸ hp.debt, hw ▸ hp.window, hs ▸ hp.speed, by rw [hc, hg, hr]; exact hp.rem⟩

theorem markingToIdle_keeps (s : State) : Keeps s (markingToIdle s) :=
  modPos_keeps s ⟨rfl, fun hp => hp.of_eq rfl rfl rfl rfl rfl rfl rfl⟩

theorem plannerToIdle_keeps (s : State) : Keeps s (plannerToIdle s) := modPlanner_keeps s (.refl _)

@[simp] theorem plannerToIdle_port (s : State) : (plannerToIdle s).port = s.port := rfl
@[simp] theorem mapToIdle_port (s : State) : (mapToIdle s).port = s.port := rfl
@[simp] theorem trackerToIdle_port (s : State) : (trackerToIdle s).port = s.port := rfl
@[simp] theorem markingToIdle_port (s : State) : (markingToIdle s).port = s.port := rfl

theorem returnToIdle_mode (s : State) : (returnToIdle s).port.mode = .idle := by
  simp [returnToIdle, lanesToIdle_mode]

theorem returnToIdle_steady (s : State) : Steady 0 0 s (returnToIdle s) := by
  have hidle : (lanesToIdle (markingToIdle (setMode .idle s))).port.mode = .idle := by simp [lanesToIdle_mode]
  have hrest : Keeps (setMode .idle s) (returnToIdle s) := (plannerToIdle_keeps _).after ((mapToIdle_keeps _).after
    ((trackerToIdle_keeps hidle).after ((lanesToIdle_keeps _).after (markingToIdle_keeps _))))
  exact (setModeIdle_steady s).trans hrest.toSteady

theorem cancelApply_keeps (s : State) : Keeps s (cancelApply s) := by
  unfold cancelApply
  split
  · exact modTracker_keeps s ⟨id, fun hs d hd => hs d (by
      rcases hd with hd | hd | hd | ⟨_, hd⟩
      · exact .inl hd
      · exact .inr (.inl hd)
      · exact .inr (.inr (.inl hd))
      · cases hd)⟩ le_rfl
  · exact .refl s
  · exact .refl s

/-- Replies to several delayed requests. -/
theorem reply_foldl (r : Result) (b : ReplyBody) (ds : List Delayed) (s : State) :
    ds.foldl (fun s d => reply d.kind d.tag r b s) s =
      { s with out := { s.out with replies := s.out.replies ++ ds.map (fun d => ⟨d.kind.code + 32768, d.tag, r, b⟩) } } := by
  induction ds generalizing s with
  | nil => simp
  | cons d ds ih =>
    rw [List.foldl_cons, reply_eq_answered, ih]
    simp [State.answered]

/-- R208: the delayed requests that a line reset cancels. -/
def Delayed.cancels (d : Delayed) : Bool := d.kind == .stopProduction || d.kind == .applyDetection

def Delayed.cancelledReply (d : Delayed) : Reply := ⟨d.kind.code + 32768, d.tag, .cancelled, .empty⟩

theorem cancelDelayed_eq {s : State} (h : s.ctl.resetting = false) :
    cancelDelayed s = { s with
      port := { s.port with delayed := s.port.delayed.filter fun d => !d.cancels },
      out := { s.out with replies := s.out.replies ++ (s.port.delayed.filter Delayed.cancels).map Delayed.cancelledReply } } := by
  unfold cancelDelayed
  rw [if_neg (by simp [h])]
  exact reply_foldl ..

theorem cancelDelayed_resetting {s : State} (h : s.ctl.resetting = true) : cancelDelayed s = s := by simp [cancelDelayed, h]

theorem cancelDelayed_keeps (s : State) : Keeps s (cancelDelayed s) := by
  by_cases h : s.ctl.resetting = true
  · rw [cancelDelayed_resetting h]
    exact .refl s
  · rw [cancelDelayed_eq (by simpa using h)]
    exact { Kept.refl s with silent := fun hs => absurd hs h, delayed := fun hd => (List.length_filter_le _ _).trans hd }

theorem cancelDelayed_mode (s : State) : (cancelDelayed s).port.mode = s.port.mode := by
  by_cases h : s.ctl.resetting = true
  · rw [cancelDelayed_resetting h]
  · rw [cancelDelayed_eq (by simpa using h)]

theorem ordersReset_keeps (s : State) : Keeps s (ordersReset s) := (requeue_keeps _ s).trans (setExhausted_keeps false _)

theorem clearAgreement_keeps (s : State) : Keeps s (clearAgreement s) := (setUnseenLoss_keeps _ s).trans (dropAgreement_keeps _)

theorem OrdersOnly.mode {s t : State} (h : OrdersOnly s t) : t.port.mode = s.port.mode := by
  obtain ⟨u, p, v, x, rfl, -⟩ := h
  rfl

theorem dropAgreement_mode (s : State) : (dropAgreement s).port.mode = s.port.mode := by
  unfold dropAgreement
  split <;> rfl

theorem evaluate_mode (ready : Bool) (c : Capability) (s : State) : (evaluate ready c s).port.mode = s.port.mode := by
  unfold evaluate
  split
  · exact ((fitChecks_ordersOnly _).trans (testRoom_ordersOnly _)).mode
  · exact dropAgreement_mode _

theorem evaluateHeld_mode (s : State) : (evaluateHeld s).port.mode = s.port.mode := by
  unfold evaluateHeld
  split
  · rfl
  · exact evaluate_mode ..

@[simp] theorem ordersReset_port (s : State) : (ordersReset s).port = s.port := rfl

theorem clearAgreement_mode (s : State) : (clearAgreement s).port.mode = s.port.mode := dropAgreement_mode _

theorem lineReset_mode (s : State) : (lineReset s).port.mode = .idle := by
  rw [lineReset, evaluateHeld_mode, clearAgreement_mode, cancelDelayed_mode, ordersReset_port, returnToIdle_mode]

theorem lineReset_steady (s : State) : Steady 0 0 s (lineReset s) := by
  have hrest : Keeps (returnToIdle (cancelApply s)) (lineReset s) := (evaluateHeld_keeps _).after
    ((clearAgreement_keeps _).after ((cancelDelayed_keeps _).after (ordersReset_keeps _)))
  exact ((cancelApply_keeps s).toSteady.trans (returnToIdle_steady _)).trans hrest.toSteady

/-- A change of the Fault Unit that ends in IDLE with a slot that is not HALT HELD. -/
theorem Steady.modFault_idle {s t : State} (h : Steady 0 0 s t) (hm : t.port.mode = .idle) {g : FaultUnit → FaultUnit}
    (hg : (g t.fault).slot.halting = false) : Keeps s (t.modFault g) :=
  ⟨{ h with }, fun _ => (haltLaw_iff _).2 (by simp [hm, hg])⟩

theorem escalate_keeps (k : FaultKind) (r : FaultRecord) (s : State) : Keeps s (escalate k r s) :=
  ((raise_keeps s .faultCaptured).toSteady.trans (lineReset_steady (raise .faultCaptured s))).modFault_idle (lineReset_mode _) rfl

theorem reportIdle_keeps (k : FaultKind) (it : ReportItems) (s : State) : Keeps s (reportIdle k it s) := by
  unfold reportIdle
  split
  · rename_i hslot
    exact fillSlot_keeps s (by rw [hslot]; rfl)
  · exact suppress_keeps s
  · exact suppress_keeps s

theorem report2_keeps (k : FaultKind) (it : ReportItems) (s : State) : Keeps s (report2 k it s) := by
  by_cases hslot : ∃ r, s.fault.slot = .haltHeld r
  · obtain ⟨r, hr⟩ := hslot
    rw [report2_haltHeld k it s r hr]
    exact escalate_keeps k r s
  have hslot' : ∀ r, s.fault.slot ≠ .haltHeld r := fun r hr => hslot ⟨r, hr⟩
  by_cases hm : s.port.mode.scanning = true
  · rw [report2_scanning k it s hslot' hm]
    exact captureHalt_keeps k it hm
  · rw [report2_idle k it s hslot' (by simpa using hm)]
    exact reportIdle_keeps k it s

theorem clearFaultBody_leaves (number : Nat) (s : State) : (clearFaultBody number s).leaves 0 0 s := by
  unfold clearFaultBody
  split
  · exact .refl s
  · rename_i hslot
    split
    · exact modFault_keeps s (by rw [hslot]; rfl)
    · exact .refl s
  · split
    · exact (lineReset_steady s).modFault_idle (lineReset_mode s) rfl
    · exact .refl s

/-! ### The blind list (section 4.4) -/

theorem enterInterval_keeps (reason : BlindReason) (lane : Option LaneId) (a b y : Nat) {s : State} (h : s.blindFull = false) :
    Keeps s (enterInterval reason lane a b y s) := by
  have hroom : s.map.blind.length < 64 := Nat.not_le.1 (of_decide_eq_false h)
  exact (modMap_keeps s fun hm => ⟨hm.entries, by simp; omega, hm.sorted, insertByKey_sorted _ _ _ hm.blindSorted⟩).trans
    (raise_keeps _ _)

theorem openInterval_keeps (reason : BlindReason) (lane : Option LaneId) (a b y : Nat) (s : State) :
    Keeps s (openInterval reason lane a b y s) := by
  unfold openInterval
  split
  · exact report2_keeps _ _ s
  · rename_i h
    exact enterInterval_keeps _ _ _ _ _ (Bool.eq_false_iff.2 h)

theorem modInterval_keeps (id : Nat) {g : Interval → Interval} (h : ∀ b, (g b).yStart = b.yStart) (s : State) :
    Keeps s (modInterval id g s) :=
  modMap_keeps s fun hm => ⟨hm.entries, by simpa using hm.blind, hm.sorted, updateWhere_sorted _ _ Interval.yStart h _ hm.blindSorted⟩

theorem changeReason_keeps (id : Nat) (reason : BlindReason) (s : State) : Keeps s (changeReason id reason s) :=
  modInterval_keeps id (by intro; rfl) s

theorem closeInterval_keeps (id yEnd : Nat) (s : State) : Keeps s (closeInterval id yEnd s) := modInterval_keeps id (by intro; rfl) s

/-- A change of the Map Unit's marks and labels. -/
theorem mapNotes_keeps (s : State) {g : MapUnit → MapUnit} (he : (g s.map).entries = s.map.entries)
    (hb : (g s.map).blind = s.map.blind) : Keeps s (s.modMap g) :=
  modMap_keeps s fun hm => ⟨he ▸ hm.entries, hb ▸ hm.blind, he ▸ hm.sorted, hb ▸ hm.blindSorted⟩

theorem closeAll_keeps (label : Nat) (s : State) : Keeps s (closeAll label s) := by
  unfold closeAll
  split
  · exact .refl s
  · exact (closeInterval_keeps _ _ s).trans (mapNotes_keeps _ rfl rfl)

theorem marking_keeps (b : Bool) (s : State) : Keeps s (s.modPos fun p => { p with breakMarking := b }) :=
  modPos_keeps s ⟨rfl, fun hp => hp.of_eq rfl rfl rfl rfl rfl rfl rfl⟩

theorem openMarking_keeps (label : Nat) (s : State) : Keeps s (openMarking label s) := by
  have hmark := (marking_keeps true s).trans (raise_keeps _ .breakEvent)
  unfold openMarking
  dsimp only
  split
  · exact hmark.trans (changeReason_keeps _ _ _)
  · exact hmark.trans (openInterval_keeps ..)

theorem renameAll_keeps (reason : BlindReason) (s : State) : Keeps s (renameAll reason s) := by
  unfold renameAll
  split
  · exact .refl s
  · exact changeReason_keeps _ _ s

theorem closeMarking_keeps (label : Nat) (s : State) : Keeps s (closeMarking label s) := by
  have hmark := ((marking_keeps false s).trans
    (mapNotes_keeps _ (g := fun m => { m with breakLabel := some label }) rfl rfl)).trans (raise_keeps _ .breakEvent)
  unfold closeMarking
  dsimp only
  split
  · exact hmark.trans (renameAll_keeps _ _)
  · exact hmark.trans (closeAll_keeps _ _)

theorem noteMapFullEnd_keeps (line : Nat) (s : State) : Keeps s (noteMapFullEnd line s) := by
  unfold noteMapFullEnd
  split
  · exact mapNotes_keeps s rfl rfl
  · exact .refl s

theorem mapFullEnd_keeps (s : State) : Keeps s (mapFullEnd s) := by
  unfold mapFullEnd
  split
  · exact .refl s
  split
  · dsimp only
    split
    · exact mapNotes_keeps s rfl rfl
    · exact (mapNotes_keeps s rfl rfl).trans (closeAll_keeps _ _)
  · exact .refl s

/-! ### The flaw map (Chapter 4) -/

theorem noteHigh_keeps (s : State) : Keeps s (noteHigh s) := by
  unfold noteHigh
  split
  · exact (mapNotes_keeps s rfl rfl).trans (raise_keeps _ _)
  · exact .refl s

theorem coverRefused_keeps (b : Nat) (s : State) : Keeps s (coverRefused b s) := by
  unfold coverRefused
  split
  · exact openInterval_keeps ..
  · rename_i o ho
    split
    · refine modMap_keeps s fun hm => ⟨hm.entries, ?_, hm.sorted, insertByKey_sorted _ _ _ (hm.blindSorted.sublist List.filter_sublist)⟩
      have hlt : (s.map.blind.filter fun q => q.id != o.id).length < s.map.blind.length :=
        List.length_filter_lt_length_iff_exists.2 ⟨o, List.mem_of_find?_eq_some ho, by simp⟩
      have := hm.blind
      simp only [insertByKey_length]
      omega
    · exact .refl s

theorem refuseFlaw_keeps (e : MapEntry) (s : State) : Keeps s (refuseFlaw e s) :=
  (mapNotes_keeps s rfl rfl).trans (coverRefused_keeps _ _)

theorem insertAlone_keeps (e : MapEntry) (s : State) : Keeps s (insertAlone e s) := by
  unfold insertAlone
  split
  · rename_i hroom
    have hlt : s.map.entries.length < 1024 := hroom
    exact (modMap_keeps s fun hm => ⟨by simp [placeEntry]; omega, hm.blind, insertByKey_sorted _ _ _ hm.sorted, hm.blindSorted⟩).trans
      (noteHigh_keeps _)
  · exact refuseFlaw_keeps e s

theorem mapInsert_keeps (set : DetectionSet) (i : LaneId) (e : MapEntry) (s : State) : Keeps s (mapInsert set i e s) := by
  unfold mapInsert
  split
  · exact insertAlone_keeps e s
  · rename_i c hc
    split
    · refine modMap_keeps s fun hm => ⟨?_, hm.blind, insertByKey_sorted _ _ _ (hm.sorted.sublist List.filter_sublist), hm.blindSorted⟩
      have hlt : (s.map.entries.filter fun q => q.id != c.id).length < s.map.entries.length :=
        List.length_filter_lt_length_iff_exists.2 ⟨c, List.mem_of_find?_eq_some hc, by simp⟩
      have := hm.entries
      simp only [placeEntry, insertByKey_length]
      omega
    · exact insertAlone_keeps _ s

/-! ### The Tracker (Chapter 3) -/

theorem recomputeK_keeps (s : State) : Keeps s (recomputeK s) := by
  obtain ⟨k, p, hk, he⟩ := recomputeK_spec s
  rw [he]
  exact { Kept.refl s with tracker := ⟨id, id⟩, frontier := fun _ => hk }

theorem closeFlaw_keeps (set : DetectionSet) (i : LaneId) (cause : CloseCause) (s : State) (f : OpenFlaw) :
    Keeps s (closeFlaw set i cause s f) := by
  unfold closeFlaw
  split
  · exact .refl s
  · exact (recomputeK_keeps _).after ((mapInsert_keeps ..).after
      (modTable_keeps s i fun h => ⟨(List.length_filter_le _ _).trans h.flaws, h.marks⟩))

theorem closeWhere_keeps (set : DetectionSet) (i : LaneId) (cause : CloseCause) (p : OpenFlaw → Bool) (s : State) :
    Keeps s (closeWhere set i cause p s) := keeps_foldl _ (closeFlaw_keeps set i cause) _ s

theorem dropMarks_keeps (i : LaneId) (p : Mark → Bool) (s : State) : Keeps s (dropMarks i p s) := by
  unfold dropMarks
  split
  · exact .refl s
  · exact modTable_keeps s i fun h => ⟨h.flaws, (List.length_filter_le _ _).trans h.marks⟩

theorem truncateLane_keeps (i : LaneId) (s : State) : Keeps s (truncateLane i s) := by
  unfold truncateLane
  split
  · exact .refl s
  · exact (closeWhere_keeps ..).trans (dropMarks_keeps ..)

theorem closeSuspects_keeps (n : Nat) (i : LaneId) (c : Nat) (s : State) : Keeps s (closeSuspects n i c s) := by
  unfold closeSuspects
  split
  · exact .refl s
  · exact (closeWhere_keeps ..).trans (dropMarks_keeps ..)

theorem joinTable_length (r : KeptRun) (low : Nat) (hits : List OpenFlaw) (pred : Option Nat) (flaws : List OpenFlaw) :
    (joinTable r low hits pred flaws).length ≤ flaws.length := by
  simpa [joinTable] using List.length_filter_le _ flaws

theorem handRun_keeps (set : DetectionSet) (i : LaneId) (r : KeptRun) (s : State) : Keeps s (handRun set i r s).1 := by
  unfold handRun
  dsimp only
  split
  · dsimp only
    exact modTable_keeps s i fun h => ⟨(joinTable_length ..).trans h.flaws, (List.length_filter_le _ _).trans h.marks⟩
  split
  · rename_i hroom
    have hlt : (s.table i).flaws.length < 32 := hroom.2
    dsimp only
    exact (modTracker_keeps _ ⟨id, id⟩ le_rfl).after
      (modTable_keeps s i fun h => ⟨by simp; omega, (List.length_filter_le _ _).trans h.marks⟩)
  · dsimp only
    exact modTable_keeps s i fun h => ⟨h.flaws, (List.length_filter_le _ _).trans h.marks⟩

theorem addMark_length (m : Mark) (marks : List Mark) (h : marks.length ≤ 32) : (addMark m marks).length ≤ 32 := by
  by_cases hfull : 32 ≤ marks.length <;> simp [addMark, Config.markCapacity, hfull] <;> omega

theorem continueFlaw_keeps (set : DetectionSet) (i : LaneId) (s : State) (f : OpenFlaw) : Keeps s (continueFlaw set i s f) := by
  unfold continueFlaw
  split
  · exact .refl s
  · exact (modTable_keeps _ i fun h => ⟨h.flaws, addMark_length _ _ h.marks⟩).after (closeFlaw_keeps ..)

theorem lengthCheck_keeps (set : DetectionSet) (i : LaneId) (s : State) : Keeps s (lengthCheck set i s) :=
  keeps_foldl _ (continueFlaw_keeps set i) _ s

/-- The Tracker's work for a line, before its completion may end a map-full condition. -/
def lineWork (set : DetectionSet) (n : Nat) (i : LaneId) (s : State) : State :=
  recomputeK (lengthCheck set i (dropMarks i (fun m => decide (m.lastLine + set.gap < n))
    (closeWhere set i .gap (fun f => decide (f.lastLine + set.gap < n)) s)))

theorem trackerWork_eq {set : DetectionSet} {n : Nat} {s : State} (h : s.setFor n = some set) (i : LaneId) :
    trackerWork n i s =
      if (lineWork set n i s).port.mode = .halted then lineWork set n i s else noteMapFullEnd n (lineWork set n i s) := by
  simp only [trackerWork, h]
  rfl

theorem lineWork_keeps (set : DetectionSet) (n : Nat) (i : LaneId) (s : State) : Keeps s (lineWork set n i s) :=
  (recomputeK_keeps _).after ((lengthCheck_keeps ..).after ((dropMarks_keeps ..).after (closeWhere_keeps ..)))

theorem trackerWork_keeps (n : Nat) (i : LaneId) (s : State) : Keeps s (trackerWork n i s) := by
  cases h : s.setFor n with
  | none =>
    simp only [trackerWork, h]
    exact .refl s
  | some set =>
    rw [trackerWork_eq h]
    split
    · exact lineWork_keeps ..
    · exact (noteMapFullEnd_keeps n _).after (lineWork_keeps ..)

theorem switchComplete_keeps (s : State) : Keeps s (switchComplete s) := by
  unfold switchComplete
  split
  · exact .refl s
  · exact modTracker_keeps s ⟨id, fun hs d hd => hs d (by
      rcases hd with hd | hd | hd | ⟨_, hd⟩
      · exact .inl hd
      · cases hd
      · exact .inr (.inr (.inl hd))
      · cases hd)⟩ le_rfl

theorem detectionSetOf_fits {f : DetectionFields} {d : DetectionSet} (h : detectionSetOf f = some d) : SetFits d := by
  by_cases hf : DetectionInRange f
  · rw [detectionSetOf_of_inRange hf, Option.some.injEq] at h
    subst h
    simpa [SetFits, detectionCoded] using hf.1
  · rw [detectionSetOf_of_not_inRange hf] at h
    cases h

theorem writeDetectionBody_leaves (f : DetectionFields) (s : State) : (writeDetectionBody f s).leaves 0 0 s := by
  unfold writeDetectionBody
  split
  · exact .refl s
  · rename_i set hset
    exact modTracker_keeps s ⟨id, fun hs d hd => by
      rcases hd with hd | hd | hd | hd
      · exact hs d (.inl hd)
      · exact hs d (.inr (.inl hd))
      · obtain rfl : set = d := by simpa using hd
        exact detectionSetOf_fits hset
      · exact hs d (.inr (.inr (.inr hd)))⟩ le_rfl

theorem applyDetectionBody_leaves (tag : Nat) (s : State) (hr : s.ctl.resetting = false) : (applyDetectionBody tag s).leaves 0 0 s := by
  unfold applyDetectionBody
  split
  · exact .refl s
  split
  · rename_i set _ hstaged
    split
    · exact modTracker_keeps s ⟨id, fun hs d hd => hs d (by
        rcases hd with hd | hd | hd | hd
        · obtain rfl : set = d := by simpa using hd
          exact .inr (.inr (.inl hstaged))
        · exact .inr (.inl hd)
        · exact .inr (.inr (.inl hd))
        · exact .inr (.inr (.inr hd)))⟩ le_rfl
    split
    · exact .refl s
    · rename_i hfull
      refine (modTracker_keeps s ⟨id, fun hs d hd => hs d ?_⟩ le_rfl).trans (addDelayed_keeps _ _ _ hr (Bool.eq_false_iff.2 hfull))
      rcases hd with hd | hd | hd | ⟨_, hd⟩
      · exact .inl hd
      · exact .inr (.inl hd)
      · exact .inr (.inr (.inl hd))
      · obtain ⟨rfl, -⟩ : set = d ∧ _ := by simpa using hd
        exact .inr (.inr (.inl hstaged))
  · exact .refl s

/-! ### Lane states (Chapter 2) -/

/-- A change of one lane that leaves its rings and its lists of columns. -/
theorem laneNotes_keeps (i : LaneId) (s : State) {g : Lane → Lane} (hm : (g (s.lane i)).staticMask = (s.lane i).staticMask)
    (hr : (g (s.lane i)).rings = (s.lane i).rings) (hd : (g (s.lane i)).dynColumns = (s.lane i).dynColumns) :
    Keeps s (s.modLane i g) :=
  modLane_keeps s i (by rw [hm]) fun h =>
    ⟨hm ▸ h.staticMask, hr ▸ h.bright, hr ▸ h.dark, hr ▸ h.oblique, hd ▸ h.dynColumns⟩

theorem fixOwnedSpans_keeps (s : State) : Keeps s (fixOwnedSpans s) :=
  keeps_foldl (fun s (p : LaneId × Span) => s.modLane p.1 fun l => { l with owned := some p.2 })
    (fun s p => laneNotes_keeps p.1 s rfl rfl rfl) _ s

theorem setLaneState_keeps (i : LaneId) (st : LaneState) (s : State) : Keeps s (setLaneState i st s) := by
  unfold setLaneState
  split
  · exact .refl s
  · exact (laneNotes_keeps i s rfl rfl rfl).trans (raise_keeps _ _)

theorem openLaneInterval_keeps (i : LaneId) (label : Nat) (s : State) : Keeps s (openLaneInterval i label s) := by
  unfold openLaneInterval
  split
  · exact .refl s
  · exact (laneNotes_keeps i s (by rfl) rfl rfl).trans (openInterval_keeps ..)

theorem renameLaneInterval_keeps (i : LaneId) (s : State) : Keeps s (renameLaneInterval i s) := by
  unfold renameLaneInterval
  split
  · exact .refl s
  · exact changeReason_keeps _ _ s

theorem noteFaulted_keeps (i : LaneId) (st : LaneState) (s : State) : Keeps s (noteFaulted i st s) := by
  unfold noteFaulted
  split
  · exact tally_keeps s _
  · exact .refl s

theorem forgetNarrow_keeps (i : LaneId) (s : State) : Keeps s (forgetNarrow i s) := laneNotes_keeps i s rfl rfl rfl

/-- The lane's new state, counted if it is FAULTED, with its persistence tracker emptied unless it goes on following flaws. -/
def enterState (i : LaneId) (st : LaneState) (s : State) : State :=
  if st.following then noteFaulted i st (setLaneState i st s) else forgetNarrow i (noteFaulted i st (setLaneState i st s))

/-- The interval of a lane that has entered a state from a state `old`. -/
def placeInterval (i : LaneId) (old : LaneState) (s : State) : State :=
  if old = .active then openLaneInterval i (s.horizon i) s else renameLaneInterval i s

theorem laneTo_eq (i : LaneId) (st : LaneState) (s : State) : laneTo i st s =
    if (s.lane i).state.following && !st.following then
      recomputeK (truncateLane i (placeInterval i (s.lane i).state (enterState i st s)))
    else placeInterval i (s.lane i).state (enterState i st s) := rfl

theorem enterState_keeps (i : LaneId) (st : LaneState) (s : State) : Keeps s (enterState i st s) := by
  have hstate : Keeps s (noteFaulted i st (setLaneState i st s)) := (noteFaulted_keeps i st _).after (setLaneState_keeps i st s)
  unfold enterState
  split
  · exact hstate
  · exact (forgetNarrow_keeps i _).after hstate

theorem placeInterval_keeps (i : LaneId) (old : LaneState) (s : State) : Keeps s (placeInterval i old s) := by
  unfold placeInterval
  split
  · exact openLaneInterval_keeps ..
  · exact renameLaneInterval_keeps ..

theorem laneTo_keeps (i : LaneId) (st : LaneState) (s : State) : Keeps s (laneTo i st s) := by
  have hplaced := (placeInterval_keeps i (s.lane i).state _).after (enterState_keeps i st s)
  rw [laneTo_eq]
  split
  · exact (recomputeK_keeps _).after ((truncateLane_keeps i _).after hplaced)
  · exact hplaced

theorem enterActive_keeps (i : LaneId) (n : Nat) (s : State) : Keeps s (enterActive i n s) := by
  unfold enterActive
  dsimp only
  refine Keeps.trans ?_ (recomputeK_keeps _)
  refine Keeps.trans (Keeps.trans ?_ (laneNotes_keeps i _ (by rfl) (by rfl) (by rfl))) (setLaneState_keeps i .active _)
  split
  · exact .refl s
  · exact closeInterval_keeps _ _ s

theorem faultLane_keeps (k : FaultKind) (i : LaneId) (line : Nat) (s : State) : Keeps s (faultLane k i line s) :=
  (report1_keeps _ _ s).trans (laneTo_keeps ..)

theorem laneDeadline_keeps (t : Nat) (i : LaneId) (s : State) : Keeps s (laneDeadline t i s) := by
  unfold laneDeadline
  dsimp only
  split
  · exact faultLane_keeps ..
  · exact .refl s

theorem digestDeadline_keeps (s : State) : Keeps s (digestDeadline s) := by
  unfold digestDeadline
  split
  · exact .refl s
  split
  · exact .refl s
  · exact forLanes_keepsAll _ (laneDeadline_keeps _) s

theorem LaneFits.keepRings {l : Lane} (h : LaneFits l) (d : DetectionSet) (v : Vector Nat 5) :
    LaneFits { l with rings := l.rings.keep d, limitRuns := v } := by
  refine ⟨h.staticMask, ?_, ?_, ?_, h.dynColumns⟩
  · simp only [Rings.keep]
    split
    · exact h.bright
    · simp
  · simp only [Rings.keep]
    split
    · exact h.dark
    · simp
  · simp only [Rings.keep]
    split
    · exact h.oblique
    · simp

theorem laneSwitch_keeps (d : DetectionSet) (i : LaneId) (s : State) : Keeps s (laneSwitch d i s) := by
  have hkeep : Keeps s (s.modLane i fun l => { l with rings := l.rings.keep d, limitRuns := Vector.replicate 5 0 }) :=
    modLane_keeps s i le_rfl fun h => h.keepRings d _
  unfold laneSwitch
  split
  · exact .refl s
  · dsimp only
    split
    · exact hkeep.trans (laneTo_keeps ..)
    · exact hkeep

theorem dueSwitch_waiting {s : State} {d : DetectionSet} {l : Nat} (h : s.dueSwitch = some (d, l)) :
    s.tracker.apply = .waiting d l ∧ s.port.mode.scanning = true ∧ s.triggered l = true := by
  unfold State.dueSwitch at h
  split at h
  · split at h
    · rename_i happly hdue
      simp only [Bool.and_eq_true] at hdue
      obtain ⟨rfl, rfl⟩ : _ = d ∧ _ = l := by simpa using h
      exact ⟨happly, hdue⟩
    · cases h
  · cases h
  · cases h

theorem detectionSwitch_keeps (s : State) : Keeps s (detectionSwitch s) := by
  unfold detectionSwitch
  split
  · exact .refl s
  split
  · exact .refl s
  · rename_i d l hdue
    have happly := (dueSwitch_waiting hdue).1
    refine ((modTracker_keeps s ⟨id, fun hs e he => hs e ?_⟩ le_rfl).trans (forLanes_keepsAll _ (laneSwitch_keeps d) _)).trans
      (answerDelayed_keeps ..)
    rcases he with he | he | he | ⟨_, he⟩
    · obtain rfl : d = e := by simpa using he
      exact .inr (.inr (.inr ⟨l, happly⟩))
    · exact .inl he
    · exact .inr (.inr (.inl he))
    · cases he

theorem followTrigger_keeps (s : State) : Keeps s (followTrigger s) :=
  ((detectionSwitch_keeps s).trans (digestDeadline_keeps _)).trans (switchComplete_keeps _)

theorem takeTriggerWork_keeps (s : State) : Keeps s (takeTriggerWork s) := (followTrigger_keeps s).trans (mapFullEnd_keeps _)

/-! ### A digest (Chapter 2) -/

theorem LaneFits.setRing {l : Lane} (h : LaneFits l) (k : ViewKind) (level : Nat) :
    LaneFits { l with rings := l.rings.set k (pushSample (l.rings.get k) level) } := by
  cases k
  · exact ⟨h.staticMask, pushBounded_length 8 _ _ h.bright (by omega), h.dark, h.oblique, h.dynColumns⟩
  · exact ⟨h.staticMask, h.bright, pushBounded_length 8 _ _ h.dark (by omega), h.oblique, h.dynColumns⟩
  · exact ⟨h.staticMask, h.bright, h.dark, pushBounded_length 8 _ _ h.oblique (by omega), h.dynColumns⟩

theorem setLimitRun_eq (l : Lane) (slot v : Nat) : ∃ runs, l.setLimitRun slot v = { l with limitRuns := runs } := by
  unfold Lane.setLimitRun
  split
  · exact ⟨_, rfl⟩
  · exact ⟨l.limitRuns, rfl⟩

theorem takeSample_keeps (i : LaneId) (slotNo : Nat) (slot : Slot) (level : Nat) (s : State) :
    Keeps s (takeSample i slotNo slot level s) := by
  unfold takeSample
  split
  · obtain ⟨runs, hruns⟩ := setLimitRun_eq (s.lane i) slotNo 0
    refine modLane_keeps s i (by simp [hruns]) fun h => ?_
    rw [hruns]
    split
    · have hring := h.setRing slot.kind level
      exact ⟨hring.staticMask, hring.bright, hring.dark, hring.oblique, hring.dynColumns⟩
    · exact ⟨h.staticMask, h.bright, h.dark, h.oblique, h.dynColumns⟩
  · obtain ⟨runs, hruns⟩ := setLimitRun_eq (s.lane i) slotNo (min Config.limitRun ((s.lane i).limitRun slotNo + 1))
    exact laneNotes_keeps i s (by simp [hruns]) (by simp [hruns]) (by simp [hruns])

theorem maskColumn_keeps (n : Nat) (i : LaneId) (s : State) (c : Nat) : Keeps s (maskColumn n i s c) := by
  unfold maskColumn
  split
  · exact .refl s
  · dsimp only
    split
    · rename_i hroom
      have hlt : (s.lane i).dynColumns.length < 8 := hroom.1
      exact ((raise_keeps s _).trans (modLane_keeps _ i le_rfl fun h =>
        ⟨h.staticMask, h.bright, h.dark, h.oblique, by
          change ((s.lane i).dynColumns ++ [c]).length ≤ 8
          simp
          omega⟩)).trans (closeSuspects_keeps ..)
    · exact raise_keeps s _

theorem followNarrow_keeps (n : Nat) (i : LaneId) (cols : List Nat) (s : State) : Keeps s (followNarrow n i cols s) := by
  unfold followNarrow
  split
  · exact .refl s
  · exact (laneNotes_keeps i s (by rfl) rfl rfl).trans (keeps_foldl _ (maskColumn_keeps n i) _ _)

theorem crowd_keeps (i : LaneId) (s : State) : Keeps s (crowd i s) := by
  unfold crowd
  split
  · exact laneTo_keeps ..
  · exact .refl s

theorem takeRun_keeps (set : DetectionSet) (i : LaneId) (r : KeptRun) (s : State) : Keeps s (takeRun set i r s) := by
  unfold takeRun
  dsimp only
  split
  · exact (handRun_keeps ..).trans (crowd_keeps ..)
  · exact handRun_keeps ..

theorem runStep_keeps (set : DetectionSet) (n : Nat) (slot : Slot) (i : LaneId) (acc : State × List Nat) (r : Run) :
    Keeps acc.1 (runStep set n slot i acc r).1 := by
  unfold runStep
  split
  · exact .refl _
  split
  · exact .refl _
  · exact takeRun_keeps ..

theorem runSteps_keeps (set : DetectionSet) (n : Nat) (slot : Slot) (i : LaneId) (runs : List Run) (acc : State × List Nat) :
    Keeps acc.1 (runs.foldl (runStep set n slot i) acc).1 := by
  induction runs generalizing acc with
  | nil => exact .refl _
  | cons r rs ih => exact (runStep_keeps set n slot i acc r).trans (ih _)

/-- R35: the overflow flag of an accepted line. -/
def takeOverflow (i : LaneId) (d : Digest) (s : State) : State := if d.overflow then crowd i s else s

theorem acceptRuns_eq (set : DetectionSet) (n : Nat) (slot : Slot) (i : LaneId) (d : Digest) (s : State) :
    acceptRuns set n slot i d s =
      if (takeOverflow i d s).keepsKind slot.kind then
        followNarrow n i (d.runs.foldl (runStep set n slot i) (takeOverflow i d s, [])).2
          (d.runs.foldl (runStep set n slot i) (takeOverflow i d s, [])).1
      else forgetNarrow i (takeOverflow i d s) := rfl

theorem takeOverflow_keeps (i : LaneId) (d : Digest) (s : State) : Keeps s (takeOverflow i d s) := by
  unfold takeOverflow
  split
  · exact crowd_keeps i s
  · exact .refl s

theorem acceptRuns_keeps (set : DetectionSet) (n : Nat) (slot : Slot) (i : LaneId) (d : Digest) (s : State) :
    Keeps s (acceptRuns set n slot i d s) := by
  have hover := takeOverflow_keeps i d s
  rw [acceptRuns_eq]
  split
  · exact (followNarrow_keeps ..).after ((runSteps_keeps set n slot i d.runs (_, [])).after hover)
  · exact (forgetNarrow_keeps ..).after hover

theorem useRuns_keeps (set : DetectionSet) (n : Nat) (slot : Slot) (i : LaneId) (d : Digest) (s : State) :
    Keeps s (useRuns set n slot i d s) := by
  unfold useRuns
  split
  · exact acceptRuns_keeps ..
  · exact forgetNarrow_keeps ..

theorem settle_keeps (set : DetectionSet) (n : Nat) (i : LaneId) (s : State) : Keeps s (settle set n i s) := by
  unfold settle
  dsimp only
  split
  · exact (forgetNarrow_keeps i s).trans (enterActive_keeps ..)
  · exact forgetNarrow_keeps i s

theorem finishLine_keeps (n : Nat) (i : LaneId) (s : State) : Keeps s (finishLine n i s) :=
  (laneNotes_keeps i s rfl rfl rfl).trans (trackerWork_keeps ..)

theorem tryUncrowd_keeps (n : Nat) (i : LaneId) (d : Digest) (s : State) : Keeps s (tryUncrowd n i d s) := by
  unfold tryUncrowd
  split
  · exact enterActive_keeps ..
  · exact .refl s

/-- Stage 3 of a digest. -/
def stageThree (set : DetectionSet) (n : Nat) (slot : Slot) (i : LaneId) (d : Digest) (s : State) : State :=
  if (s.lane i).state = .settling then settle set n i s else useRuns set n slot i d s

theorem processRuns_eq (set : DetectionSet) (n : Nat) (slot : Slot) (i : LaneId) (d : Digest) (s : State) :
    processRuns set n slot i d s =
      if (stageThree set n slot i d s).port.mode = .halted then stageThree set n slot i d s
      else tryUncrowd n i d (finishLine n i (stageThree set n slot i d s)) := rfl

theorem stageThree_keeps (set : DetectionSet) (n : Nat) (slot : Slot) (i : LaneId) (d : Digest) (s : State) :
    Keeps s (stageThree set n slot i d s) := by
  unfold stageThree
  split
  · exact settle_keeps ..
  · exact useRuns_keeps ..

theorem processRuns_keeps (set : DetectionSet) (n : Nat) (slot : Slot) (i : LaneId) (d : Digest) (s : State) :
    Keeps s (processRuns set n slot i d s) := by
  have hstage := stageThree_keeps set n slot i d s
  rw [processRuns_eq]
  split
  · exact hstage
  · exact (tryUncrowd_keeps ..).after ((finishLine_keeps ..).after hstage)

theorem processDigest_keeps (set : DetectionSet) (n : Nat) (i : LaneId) (d : Digest) (s : State) :
    Keeps s (processDigest set n i d s) := by
  unfold processDigest
  split
  · exact faultLane_keeps ..
  split
  · exact .refl s
  · dsimp only
    split
    · exact (takeSample_keeps ..).trans (faultLane_keeps ..)
    · exact (takeSample_keeps ..).trans (processRuns_keeps ..)

theorem examineDigest_keeps (i : LaneId) (d : Digest) (s : State) : Keeps s (examineDigest i d s) := by
  unfold examineDigest
  split
  · exact .refl s
  split
  · exact .refl s
  · dsimp only
    split
    · exact .refl s
    split
    · exact processDigest_keeps ..
    · exact faultLane_keeps ..

theorem gantryDigest_keeps (i : LaneId) (d : Digest) (s : State) : Keeps s (gantryDigest i d s) := by
  unfold gantryDigest
  split
  · exact .refl s
  · dsimp only
    split
    · exact (takeTriggerWork_keeps s).trans (examineDigest_keeps ..)
    · exact takeTriggerWork_keeps s

end Sys2Proof.Machine
end

section
/-!
What spills, plans, the ribbon and the modes keep, the invariant of every command, and the obligations it settles: O8, O56, O57, O58 and O59.
-/

namespace Sys2Proof.Machine

/-! ### Spills and retirement (Chapter 6) -/

theorem RecordsKept.of_update {g : PlateRecord → PlateRecord} (h : ∀ r, Descends r (g r)) (p : PlateRecord → Bool)
    (xs : List PlateRecord) : RecordsKept 0 xs (updateWhere p g xs) := by
  refine ⟨by simp, fun _ r hr => ?_⟩
  obtain ⟨q, hq, rfl⟩ := List.mem_map.1 hr
  refine ⟨q, hq, ?_⟩
  split
  · exact h q
  · exact .refl q

theorem modRecord_keeps (id : Nat) {g : PlateRecord → PlateRecord} (h : ∀ r, Descends r (g r)) (s : State) :
    Keeps s (modRecord id g s) := modPlanner_keeps s (.of_update h _ _)

theorem descends_setCut (st : CutState) (r : PlateRecord) : Descends r { r with cut := { r.cut with state := st } } :=
  ⟨rfl, rfl, rfl, rfl, rfl, rfl, rfl, rfl, rfl, rfl, .inl ⟨rfl, rfl⟩⟩

theorem descends_setState (st : RecordState) (r : PlateRecord) : Descends r { r with state := st } :=
  ⟨rfl, rfl, rfl, rfl, rfl, rfl, rfl, rfl, rfl, rfl, .inl ⟨rfl, rfl⟩⟩

theorem descends_absorbed (h : Option Nat) (r : PlateRecord) : Descends r { r with absorbedInto := h } :=
  ⟨rfl, rfl, rfl, rfl, rfl, rfl, rfl, rfl, rfl, rfl, .inl ⟨rfl, rfl⟩⟩

/-- R149: the one change of grades. -/
theorem descends_reject_forgo (r : PlateRecord) : Descends r r.reject.forgo :=
  ⟨rfl, rfl, rfl, rfl, rfl, rfl, rfl, rfl, rfl, rfl, .inr ⟨rfl, rfl⟩⟩

theorem setCut_keeps (id : Nat) (st : CutState) (s : State) : Keeps s (setCut id st s) :=
  modPlanner_keeps s (.of_update (descends_setCut st) _ _)

theorem releaseRecord_keeps (r : PlateRecord) (s : State) : Keeps s (releaseRecord r s) :=
  (stopCounting_keeps r _).after ((releaseReferences_keeps _ _ _).after (modRecord_keeps r.id descends_reject_forgo s))

theorem absorbRecord_keeps (head : Nat) (r : PlateRecord) (s : State) : Keeps s (absorbRecord head r s) :=
  (releaseRecord_keeps r _).after (modPlanner_keeps s (.of_update (descends_absorbed (some head)) _ _))

theorem spillRecord_keeps (id : Nat) (s : State) : Keeps s (spillRecord id s) := by
  unfold spillRecord
  split
  · exact .refl s
  · have hspill := (releaseRecord_keeps ‹_› _).after (modRecord_keeps id (descends_setState .spilled) s)
    dsimp only
    split
    · exact hspill
    · exact (absorbRecord_keeps ..).after hspill

theorem spillLeadIn_keeps (s : State) : Keeps s (spillLeadIn s) := by
  unfold spillLeadIn
  split
  · exact .refl s
  · exact absorbRecord_keeps ..

theorem leaveTable_keeps (gone : List PlateRecord) (cut : Cut) (s : State) : Keeps s (leaveTable gone cut s) :=
  (testRoom_keeps _).after (modPlanner_keeps s (.of_sublist List.filter_sublist))

theorem sendPlateResult_keeps (id : Nat) (kind : RecordKind) (length : Nat) (pieces : List ResultPiece) (s : State) :
    Keeps s (sendPlateResult id kind length pieces s) := (modCutter_keeps _ _).after (sendRecord_keeps s _)

theorem sendCut_keeps (id pos : Nat) (s : State) : Keeps s (sendCut id pos s) := (modCutter_keeps _ _).after (sendRecord_keeps s _)

theorem finishTest_keeps (s : State) (r : PlateRecord) : Keeps s (finishTest s r) := by
  unfold finishTest
  split
  · exact .refl s
  · exact testFinish_keeps _ s

theorem retireAlone_keeps (r : PlateRecord) (s : State) : Keeps s (retireAlone r s) :=
  (finishTest_keeps _ r).after ((leaveTable_keeps [r] r.cut _).after ((orderDelivered_keeps r _).after
    ((releaseReferences_keeps _ _ _).after ((tally_keeps _ _).after ((addJournal_keeps r none _).after (sendPlateResult_keeps ..))))))

theorem retireChain_keeps (rs : List PlateRecord) (s : State) : Keeps s (retireChain rs s) := by
  unfold retireChain
  split
  · exact (keeps_foldl finishTest finishTest_keeps rs _).after ((leaveTable_keeps rs _ _).after
      ((keeps_foldl _ (fun s r => addJournal_keeps r _ s) rs _).after ((tally_keeps _ _).after (sendPlateResult_keeps ..))))
  · exact .refl s

theorem drainChain_keeps (s : State) : Keeps s (drainChain s) := by
  unfold drainChain
  split
  · exact .refl s
  split
  · exact keeps_ite (retireChain_keeps ..) (.refl s)
  · exact .refl s

theorem failCut_keeps (f : CutFailure) (h : HeldCut) (s : State) : Keeps s (failCut f h s) := by
  unfold failCut
  refine (drainChain_keeps _).after ?_
  have hreported := (tally_keeps _ f.count).after ((report1_keeps f.kind
    { (setCut h.cut.id f.state s).here with plate := h.plate, cut := some h.cut.id, reason := f.reason } _).after
      (setCut_keeps h.cut.id f.state s))
  dsimp only
  split
  · exact (spillLeadIn_keeps _).after hreported
  · exact (spillRecord_keeps _ _).after hreported

/-! ### The Cut Planner (Chapter 6) -/

theorem takeRecordReferences_keeps (r : PlateRecord) (s : State) : Keeps s (takeRecordReferences r s) :=
  keeps_ite (.refl s) (takeReferences_keeps ..)

/-- R114: a commit adds one record. -/
theorem commitRecord_kept (order : Option Order) (length : Nat) (forced : Bool) (s : State) :
    Kept 1 0 s (commitRecord order length forced s) := by
  have hadd : Kept 1 0 s (s.modPlanner fun p => { p with
      table := p.table ++ [s.newRecord order length forced], nextPlate := nextId p.nextPlate, nextCut := nextId p.nextCut }) :=
    { Kept.refl s with records := ⟨by simp, fun h => absurd h (by omega)⟩ }
  have hrefs := (takeRecordReferences_keeps (s.newRecord order length forced) _).afterKept hadd
  unfold commitRecord
  dsimp only
  refine (sendCut_keeps _ _ _).afterKept ((modPlanner_keeps _ (.refl _)).afterKept ?_)
  split
  · exact hrefs
  · exact (orderCommitted_keeps _ _ _).afterKept hrefs

theorem planOrder_kept (o : Order) (s : State) : Kept 2 0 s (planOrder o s) := by
  unfold planOrder
  split
  · split
    · exact (commitRecord_kept ..).mono (by omega)
    · exact (commitRecord_kept none _ false s).trans (commitRecord_kept ..)
  split
  · exact (commitRecord_kept ..).mono (by omega)
  · exact (commitRecord_kept ..).mono (by omega)

theorem planFiller_kept (forced : Bool) (s : State) : Kept 1 0 s (planFiller forced s) :=
  (ordersExhausted_keeps s).thenKept (commitRecord_kept ..)

theorem planForced_kept (s : State) : Kept 1 0 s (planForced s) := by
  have hcount := (tally_keeps _ Shift.planForced).after (raise_keeps s .planForced)
  unfold planForced
  dsimp only
  split
  · exact hcount.thenKept (commitRecord_kept ..)
  · exact hcount.thenKept (planFiller_kept ..)

/-- A normal plan adds at most two records, and only with room for them. -/
theorem normalPlan_kept (s : State) :
    Keeps s (normalPlan s) ∨ Kept 2 0 s (normalPlan s) ∧ s.planner.table.length + 2 ≤ 128 := by
  unfold normalPlan
  split
  · exact .inl (.refl s)
  · rename_i h
    have hroom : s.planner.table.length + 2 ≤ 128 := by
      simp [State.normalDue, Config.tableCapacity] at h
      omega
    refine .inr ⟨(testRoom_keeps _).afterKept ?_, hroom⟩
    split
    · exact planOrder_kept _ s
    · exact (planFiller_kept false s).mono (by omega)

theorem forcedPlan_kept (s : State) :
    Keeps s (forcedPlan s) ∨ Kept 1 0 s (forcedPlan s) ∧ s.planner.table.length + 1 ≤ 128 := by
  unfold forcedPlan
  split
  · exact .inl (.refl s)
  · rename_i h
    have hroom : s.planner.table.length + 1 ≤ 128 := by
      simp [State.forcedDue, Config.tableCapacity] at h
      omega
    exact .inr ⟨(testRoom_keeps _).afterKept (planForced_kept s), hroom⟩

theorem planOverrun_keeps (late : Bool) (s : State) : Keeps s (planOverrun late s) :=
  keeps_ite (.refl s) (keeps_ite (report2_keeps ..) (.refl s))

theorem commitHead_keeps (pos : Nat) (s : State) : Keeps s (commitHead pos s) :=
  (sendCut_keeps _ _ _).after (modPlanner_keeps s (.refl _))

theorem protocolFault_keeps (id : Option Nat) (s : State) : Keeps s (protocolFault id s) := report1_keeps ..

theorem answerCut_keeps (id : Nat) (settle : HeldCut → State → State) (h : ∀ c s, Keeps s (settle c s)) (s : State) :
    Keeps s (answerCut id settle s) := by
  unfold answerCut
  split
  · exact .refl s
  split
  · exact protocolFault_keeps ..
  · exact keeps_ite (h _ s) (protocolFault_keeps ..)

theorem acceptCut_keeps (h : HeldCut) (s : State) : Keeps s (acceptCut h s) := by
  unfold acceptCut
  split
  · dsimp only
    split
    · exact setCut_keeps ..
    · refine (modRecord_keeps _ (fun r => ?_) _).after (setCut_keeps h.cut.id .accepted s)
      split
      · exact .refl r
      · exact descends_setState .accepted r
  · exact .refl s

theorem retireDone_keeps (id : Nat) (s : State) : Keeps s (retireDone id s) := by
  unfold retireDone
  split
  · exact .refl s
  · refine (drainChain_keeps _).after ((makePendingClose_keeps _).after ?_)
    split
    · exact retireAlone_keeps ..
    · exact retireChain_keeps ..

theorem doneCut_keeps (h : HeldCut) (s : State) : Keeps s (doneCut h s) := by
  have hsettled := (setCut_keeps h.cut.id .done _).after
    (keeps_foldl (fun s e => failCut .missed e s) (fun s e => failCut_keeps .missed e s) (s.liveBelow h.cut.pos) s)
  unfold doneCut
  dsimp only
  split
  · exact hsettled
  · exact (retireDone_keeps _ _).after ((modRecord_keeps _ (descends_setState .cut) _).after hsettled)

theorem cutOverdue_keeps (s : State) : Keeps s (cutOverdue s) :=
  keeps_ite (.refl s) (keeps_foldl _ (fun s h => failCut_keeps .overdue h s) _ s)

theorem drainComplete_keeps (s : State) : Keeps s (drainComplete s) := by
  unfold drainComplete
  split
  · exact .refl s
  · rename_i h
    have hdrain : s.port.mode = .draining := by
      simp [State.drainDone, State.mode] at h
      exact h.2.1.1
    have hplanner : Keeps s (s.modPlanner fun p => { p with head := none, planning := .off }) := modPlanner_keeps s (.refl _)
    have hmode := setMode_keeps (s.modPlanner fun p => { p with head := none, planning := .off }) (m := .inspect)
      (by simp [hdrain, Mode.scanning]) (by simp)
    exact (answerDelayed_keeps ..).after ((makePendingClose_keeps _).after (hmode.after hplanner))

theorem stopProductionBody_leaves (tag : Nat) (s : State) (hr : s.ctl.resetting = false) (hm : s.port.mode = .produce) :
    (stopProductionBody tag s).leaves 0 0 s := by
  unfold stopProductionBody
  split
  · exact .refl s
  · rename_i hfull
    have hdelay := addDelayed_keeps s .stopProduction tag hr (Bool.eq_false_iff.2 hfull)
    have hplanner : Keeps (addDelayed .stopProduction tag s)
        ((addDelayed .stopProduction tag s).modPlanner fun p => { p with planning := .draining }) := modPlanner_keeps _ (.refl _)
    have hmode := setMode_keeps ((addDelayed .stopProduction tag s).modPlanner fun p => { p with planning := .draining })
      (m := .draining) (by simp [addDelayed, hm, Mode.scanning]) (by simp)
    exact (drainChain_keeps _).after ((requeue_keeps _ _).after (hmode.after (hplanner.after hdelay)))

theorem setCutParametersBody_leaves (p : CutParameters) (s : State) : (setCutParametersBody p s).leaves 0 0 s := by
  unfold setCutParametersBody
  split
  · exact (reassess_keeps _).after (modPlanner_keeps s (.refl _))
  · exact .refl s

theorem takeCapability_keeps (c : Capability) (late : Bool) (s : State) : Keeps s (takeCapability c late s) := by
  unfold takeCapability
  have heval := (evaluate_keeps s.cutter.ready c _).after (setUnseenLoss_keeps false s)
  exact keeps_ite (.refl s) (keeps_ite (modCutter_keeps s _) (keeps_ite ((report2_keeps ..).after heval) heval))

theorem readyCleared_keeps (late : Bool) (s : State) : Keeps s (readyCleared late s) := by
  unfold readyCleared
  have hdrop := (dropAgreement_keeps _).after ((setUnseenLoss_keeps false _).after
    (modCutter_keeps s fun u => { u with ready := false, held := none }))
  exact keeps_ite (modCutter_keeps s _) (keeps_ite ((report2_keeps ..).after hdrop) hdrop)

/-! ### The ribbon (Chapter 1) -/

theorem positionNotes_keeps (s : State) {g : Position → Position} (hy : (g s.pos).y = s.pos.y) (hd : (g s.pos).debt = s.pos.debt)
    (hw : (g s.pos).windowCount = s.pos.windowCount) (hs : (g s.pos).speed = s.pos.speed) (hr : (g s.pos).rem = s.pos.rem)
    (hc : (g s.pos).configured = s.pos.configured) (hg : (g s.pos).geometry = s.pos.geometry) : Keeps s (s.modPos g) :=
  modPos_keeps s ⟨hy, fun hp => hp.of_eq hy hd hw hs hr hc hg⟩

theorem setPhase_keeps (a b : Bool) (s : State) : Keeps s (setPhase a b s) := positionNotes_keeps s rfl rfl rfl rfl rfl rfl rfl

theorem setBreak_keeps (level : Bool) (s : State) : Keeps s (setBreak level s) := positionNotes_keeps s rfl rfl rfl rfl rfl rfl rfl

/-- R9: the line is the last triggered one and its trigger word is sent. -/
def issueTrigger (n : Nat) (s : State) : State :=
  (s.modPos fun p => { p with lastLine := some n }).modOut
    fun o => { o with triggers := o.triggers ++ [⟨n % 65536, ((s.setFor n).map fun d => d.slotNumber n).getD 0⟩] }

/-- R58: a trigger raises K while no lane follows flaws. -/
def triggerFrontier (s : State) : State := if s.anyLane LaneState.following then s else recomputeK s

theorem trigger_eq (n : Nat) (s : State) : trigger n s =
    if (triggerFrontier (issueTrigger n s)).anyLane LaneState.examining then triggerFrontier (issueTrigger n s)
    else noteMapFullEnd n (triggerFrontier (issueTrigger n s)) := rfl

theorem issueTrigger_keeps (n : Nat) (s : State) : Keeps s (issueTrigger n s) := by
  have hline : Keeps s (s.modPos fun p => { p with lastLine := some n }) := positionNotes_keeps s rfl rfl rfl rfl rfl rfl rfl
  exact { hline with }

theorem trigger_keeps (n : Nat) (s : State) : Keeps s (trigger n s) := by
  have hk : Keeps s (triggerFrontier (issueTrigger n s)) :=
    Keeps.after (keeps_ite (.refl _) (recomputeK_keeps _)) (issueTrigger_keeps n s)
  rw [trigger_eq]
  exact keeps_ite hk ((noteMapFullEnd_keeps n _).after hk)

theorem ribbonMoves_keeps (s : State) : Keeps s (ribbonMoves s) := by
  have hmoves : Keeps s (s.modPos fun p => { p with stallRunning := true, ribbon := .moving }) :=
    positionNotes_keeps s rfl rfl rfl rfl rfl rfl rfl
  exact keeps_ite ((raise_keeps _ _).after hmoves) hmoves

theorem countInspected_keeps (s : State) : Keeps s (countInspected s) := keeps_ite (tally_keeps s _) (.refl s)

/-- R2: a Y increment adds 1 to Y. -/
theorem yIncrement_kept {s : State} (h : s.pos.y < Config.maxY) : Kept 0 1 s (yIncrement s) := by
  have hstep : Kept 0 1 s (s.modPos fun p => { p with y := p.y + 1, windowCount := satAdd Config.max16 p.windowCount 1 }) :=
    { Kept.refl s with
      pos := ⟨rfl, fun hp => ⟨Nat.lt_of_lt_of_le h (by decide), hp.debt, Nat.min_le_left .., hp.speed, hp.rem⟩⟩ }
  unfold yIncrement
  dsimp only
  have hcount := ((countInspected_keeps _).after (ribbonMoves_keeps _)).afterKept hstep
  split
  · refine (testRoom_keeps _).afterKept (Keeps.afterKept ?_ hcount)
    have hdue := mapNotes_keeps (countInspected (ribbonMoves (s.modPos fun p =>
      { p with y := p.y + 1, windowCount := satAdd Config.max16 p.windowCount 1 }))) (g := fun m => { m with testDue := true }) rfl rfl
    exact keeps_ite ((trigger_keeps _ _).after hdue) hdue
  · exact hcount

/-- R2: a forward pulse adds at most 1 to Y. -/
theorem forwardPulse_kept (s : State) : ∃ x ≤ 1, Kept 0 x s (forwardPulse s) := by
  unfold forwardPulse
  split
  · exact ⟨0, by omega, modPos_keeps s ⟨rfl, fun hp => ⟨hp.y, (Nat.sub_le _ _).trans hp.debt, hp.window, hp.speed, hp.rem⟩⟩⟩
  split
  · rename_i hrem
    exact ⟨0, by omega, modPos_keeps s ⟨rfl, fun hp => ⟨hp.y, hp.debt, hp.window, hp.speed, fun hc => ⟨(hp.rem hc).1, hrem⟩⟩⟩⟩
  split
  · exact ⟨0, by omega, modPos_keeps s ⟨rfl, fun hp => ⟨hp.y, hp.debt, hp.window, hp.speed, fun hc =>
      ⟨(hp.rem hc).1, by have := (hp.rem hc).1; dsimp only; omega⟩⟩⟩⟩
  · rename_i hy
    have hrem : Keeps s (s.modPos fun p => { p with rem := p.rem + Config.pulseUnit - p.geometry.ppm }) := by
      refine modPos_keeps s ⟨rfl, fun hp => ⟨hp.y, hp.debt, hp.window, hp.speed, fun hc => ?_⟩⟩
      obtain ⟨hppm, hlt⟩ := hp.rem hc
      have hunit : Config.pulseUnit = 10000 := rfl
      exact ⟨hppm, by dsimp only; omega⟩
    exact ⟨1, le_rfl, hrem.thenKept (yIncrement_kept (Nat.not_le.1 hy))⟩

theorem reversePulse_keeps (late : Bool) (s : State) : Keeps s (reversePulse late s) := by
  unfold reversePulse
  split
  · rename_i hdebt
    exact modPos_keeps s ⟨rfl, fun hp => ⟨hp.y, hdebt, hp.window, hp.speed, hp.rem⟩⟩
  · exact keeps_ite (report2_keeps ..) (.refl s)

theorem phaseError_keeps (late : Bool) (s : State) : Keeps s (phaseError late s) := keeps_ite (report2_keeps ..) (.refl s)

theorem takeMove_kept (m : PhaseMove) (late : Bool) (s : State) : ∃ x ≤ 1, Kept 0 x s (takeMove m late s) := by
  cases m with
  | same => exact ⟨0, by omega, .refl s⟩
  | forward => exact forwardPulse_kept s
  | reverse => exact ⟨0, by omega, reversePulse_keeps late s⟩
  | error => exact ⟨0, by omega, phaseError_keeps late s⟩

theorem encoderChange_kept (a b late : Bool) (s : State) : ∃ x ≤ 1, Kept 0 x s (encoderChange a b late s) := by
  unfold encoderChange
  dsimp only
  split
  · exact ⟨0, by omega, setPhase_keeps a b s⟩
  · obtain ⟨x, hx, hmove⟩ := takeMove_kept (classifyMove (s.pos.phaseA, s.pos.phaseB) (a, b)) late (setPhase a b (takeTriggerWork s))
    have hready := (setPhase_keeps a b _).after (takeTriggerWork_keeps s)
    exact ⟨x, hx, (followTrigger_keeps _).afterKept (hready.thenKept hmove)⟩

theorem judgeSpeed_keeps (s : State) : Keeps s (judgeSpeed s) := by
  have hmark (b : Bool) : Keeps s (s.modPos fun p => { p with overspeed := b }) := positionNotes_keeps s rfl rfl rfl rfl rfl rfl rfl
  unfold judgeSpeed
  split
  · exact keeps_ite (hmark false) (keeps_ite (.refl s) ((report1_keeps ..).after (hmark true)))
  · exact .refl s

theorem speedWindow_keeps (s : State) : Keeps s (speedWindow s) := by
  unfold speedWindow
  split
  · exact .refl s
  · exact (judgeSpeed_keeps _).after (modPos_keeps s ⟨rfl, fun hp => ⟨hp.y, hp.debt, Nat.zero_le _, hp.window, hp.rem⟩⟩)

theorem stall_keeps (s : State) : Keeps s (stall s) := by
  have hstop : Keeps s (s.modPos fun p => { p with stallRunning := false, ribbon := .stopped }) :=
    positionNotes_keeps s rfl rfl rfl rfl rfl rfl rfl
  exact keeps_ite (.refl s) (keeps_ite ((raise_keeps _ _).after hstop) hstop)

theorem breakAsserted_keeps (late : Bool) (s : State) : Keeps s (breakAsserted late s) := by
  unfold breakAsserted
  split
  · exact setBreak_keeps true s
  split
  · exact (report2_keeps ..).after (setBreak_keeps true s)
  · exact keeps_ite (setBreak_keeps true s) ((openMarking_keeps _ _).after (setBreak_keeps true s))

theorem breakCleared_keeps (s : State) : Keeps s (breakCleared s) :=
  keeps_ite (setBreak_keeps false s) ((closeMarking_keeps _ _).after (setBreak_keeps false s))

theorem lineGeometryOf_ppm {f : LineGeometryFields} {g : LineGeometry} (h : lineGeometryOf f = some g) : 10000 ≤ g.ppm := by
  unfold lineGeometryOf at h
  split at h
  · cases h
  split at h
  · rename_i hrange
    simp only [Bool.and_eq_true, within_iff] at hrange
    rw [Option.some.injEq] at h
    subst h
    change 10000 ≤ f.ppm
    omega
  · cases h

theorem setLineGeometryBody_leaves (f : LineGeometryFields) (s : State) : (setLineGeometryBody f s).leaves 0 0 s := by
  unfold setLineGeometryBody
  split
  · exact .refl s
  · rename_i g hg
    have hppm := lineGeometryOf_ppm hg
    have hwrite : Keeps s (s.modPos (Position.write g)) :=
      modPos_keeps s ⟨rfl, fun hp => ⟨hp.y, Nat.zero_le _, hp.window, hp.speed, fun _ => ⟨hppm, by simp [Position.write]; omega⟩⟩⟩
    exact (reassess_keeps _).after ((splitChecks_keeps _).after hwrite)

/-! ### Requests of the lanes (Chapter 2) -/

theorem withLane_leaves (n : Nat) (body : LaneId → State → Answer) (s : State) (h : ∀ i, (body i s).leaves 0 0 s) :
    (withLane n body s).leaves 0 0 s := by
  unfold withLane
  split
  · exact .refl s
  · exact h _

theorem setLaneGeometryBody_leaves (f : LaneGeometryFields) (s : State) : (setLaneGeometryBody f s).leaves 0 0 s := by
  unfold setLaneGeometryBody
  split
  · exact .refl s
  · exact modLane_keeps s _ (Nat.zero_le _) fun h => ⟨Nat.zero_le _, h.bright, h.dark, h.oblique, Nat.zero_le _⟩

theorem LaneFits.emptyRings {l : Lane} (h : LaneFits l) : LaneFits { l with rings := Rings.empty } :=
  ⟨h.staticMask, Nat.zero_le _, Nat.zero_le _, Nat.zero_le _, h.dynColumns⟩

theorem LaneFits.fresh {l : Lane} (h : LaneFits l) (e : Nat) : LaneFits (l.fresh e) :=
  ⟨h.staticMask, Nat.zero_le _, Nat.zero_le _, Nat.zero_le _, h.dynColumns⟩

theorem startLane_keeps (i : LaneId) (s : State) : Keeps s (startLane i s) :=
  (renameLaneInterval_keeps i _).after ((setLaneState_keeps i .settling _).after (modLane_keeps s i le_rfl fun h => h.fresh _))

theorem startLaneBody_leaves (i : LaneId) (s : State) : (startLaneBody i s).leaves 0 0 s := by
  unfold startLaneBody
  dsimp only
  split
  · exact .refl s
  split
  · exact .refl s
  · exact startLane_keeps i s

theorem stopLaneBody_leaves (i : LaneId) (s : State) : (stopLaneBody i s).leaves 0 0 s := by
  unfold stopLaneBody
  split
  · exact .refl s
  · exact laneTo_keeps ..

theorem setDark_keeps (v : Nat) (i : LaneId) (s : State) : Keeps s (setDark v i s) := by
  have hdark : Keeps s (s.modLane i fun l => { l with dark := v }) := laneNotes_keeps i s rfl rfl rfl
  have hempty (t : State) : Keeps t (t.modLane i fun l => { l with rings := Rings.empty }) :=
    modLane_keeps t i le_rfl fun h => h.emptyRings
  unfold setDark
  dsimp only
  split
  · exact (laneTo_keeps ..).after ((hempty _).after hdark)
  · exact (laneTo_keeps ..).after ((hempty _).after hdark)
  · exact (hempty _).after hdark
  · exact hdark
  · exact hdark

theorem setDarkBody_leaves (v : Nat) (i : LaneId) (s : State) : (setDarkBody v i s).leaves 0 0 s := by
  unfold setDarkBody
  split
  · exact .refl s
  split
  · exact .refl s
  · exact setDark_keeps ..

theorem maskCount_eq (s : State) : maskCount s.lanes = (allLanes.map fun j => (s.lane j).staticMask.length).sum := by
  rw [maskCount, ← allLanes_map_lane]

/-- Among the lanes one lane's share counts once. -/
theorem sum_allLanes_update (i : LaneId) (f g : LaneId → Nat) (h : ∀ j, j ≠ i → g j = f j) :
    (allLanes.map g).sum = ((allLanes.filter fun j => j ≠ i).map f).sum + g i := by
  have hsum : ∀ xs : List LaneId, xs.Nodup → i ∈ xs →
      (xs.map g).sum = ((xs.filter fun j => j ≠ i).map f).sum + g i := by
    intro xs hnd hi
    induction xs with
    | nil => cases hi
    | cons x xs ih =>
      obtain ⟨hx, hnd⟩ := List.nodup_cons.1 hnd
      by_cases hxi : x = i
      · subst hxi
        have hrest : xs.filter (fun j => decide (j ≠ x)) = xs :=
          List.filter_eq_self.2 fun j hj => by simpa using fun e : j = x => hx (e ▸ hj)
        have hsame : xs.map g = xs.map f := List.map_congr_left fun j hj => h j fun e => hx (e ▸ hj)
        rw [List.map_cons, List.sum_cons, hsame, List.filter_cons_of_neg (by simp), hrest, Nat.add_comm]
      · have hi' : i ∈ xs := (List.mem_cons.1 hi).resolve_left fun e => hxi e.symm
        simp [hxi, ih hnd hi', h x hxi, Nat.add_assoc]
  exact hsum allLanes (by decide) (mem_allLanes i)

theorem setMaskBody_leaves (cols : List Nat) (i : LaneId) (s : State) : (setMaskBody cols i s).leaves 0 0 s := by
  unfold setMaskBody
  dsimp only
  split
  · exact .refl s
  split
  · exact .refl s
  split
  · rename_i hok
    simp only [Bool.and_eq_true, decide_eq_true_eq, maskListOk] at hok
    obtain ⟨⟨⟨hcols, -⟩, -⟩, htotal⟩ := hok
    have hlen : (sortByKey id cols).length = cols.length := (sortByKey_perm id cols).length_eq
    set t := s.modLane i fun l => { l with staticMask := sortByKey id cols, dynColumns := [] } with ht
    have hmask : maskCount t.lanes ≤ 256 := by
      rw [maskCount_eq, sum_allLanes_update i (fun j => (s.lane j).staticMask.length) _ fun j hj => by
        rw [ht, lane_modLane_other i j _ s hj]]
      simpa [ht, State.otherMasks, hlen, Config.maskTotal] using htotal
    have hfits (h : ∀ j : LaneId, LaneFits s.lanes[j.val]) (j : LaneId) : LaneFits t.lanes[j.val] := by
      change LaneFits (t.lane j)
      by_cases hj : j = i
      · subst hj
        rw [ht, lane_modLane_same]
        have hl := h j
        exact ⟨hlen ▸ hcols, hl.bright, hl.dark, hl.oblique, Nat.zero_le _⟩
      · rw [ht, lane_modLane_other i j _ s hj]
        exact h j
    exact { Kept.refl s with lanes := ⟨fun _ => hmask, hfits⟩ }
  · exact .refl s

theorem setDynamicBody_leaves (option : Nat) (i : LaneId) (s : State) : (setDynamicBody option i s).leaves 0 0 s := by
  unfold setDynamicBody
  split
  · exact .refl s
  · exact laneNotes_keeps i s rfl rfl rfl

/-! ### The modes (Chapter 11) -/

theorem completeApply_keeps (s : State) : Keeps s (completeApply s) := by
  unfold completeApply
  split
  · rename_i set l happly
    refine (answerDelayed_keeps ..).after (modTracker_keeps s ⟨id, fun hs d hd => hs d ?_⟩ le_rfl)
    rcases hd with hd | hd | hd | ⟨_, hd⟩
    · obtain rfl : set = d := by simpa using hd
      exact .inr (.inr (.inr ⟨l, happly⟩))
    · exact .inr (.inl hd)
    · exact .inr (.inr (.inl hd))
    · cases hd
  · exact .refl s
  · exact .refl s

theorem lanesToIdle_fault (s : State) : (lanesToIdle s).fault = s.fault := by
  unfold lanesToIdle
  exact forLanes_keeps (fun t => t.fault = s.fault) _ s rfl fun i t h => by
    split <;> exact h

@[simp] theorem plannerToIdle_fault (s : State) : (plannerToIdle s).fault = s.fault := rfl
@[simp] theorem mapToIdle_fault (s : State) : (mapToIdle s).fault = s.fault := rfl
@[simp] theorem trackerToIdle_fault (s : State) : (trackerToIdle s).fault = s.fault := rfl
@[simp] theorem markingToIdle_fault (s : State) : (markingToIdle s).fault = s.fault := rfl

theorem returnToIdle_fault (s : State) : (returnToIdle s).fault = s.fault := by
  simp [returnToIdle, lanesToIdle_fault]

theorem answerDelayed_mode (k : Request) (r : Result) (b : ReplyBody) (s : State) :
    (answerDelayed k r b s).port.mode = s.port.mode := by
  obtain ⟨d, o, he, -⟩ := answerDelayed_frame k r b s
  rw [he]

theorem completeApply_mode (s : State) : (completeApply s).port.mode = s.port.mode := by
  unfold completeApply
  split
  · exact answerDelayed_mode ..
  · rfl
  · rfl

theorem stopInspect_keeps {s : State} (h : s.port.mode = .inspect) : Keeps s (stopInspect s) := by
  have happly := completeApply_keeps s
  refine ⟨happly.toSteady.trans (returnToIdle_steady _), fun hs => (haltLaw_iff _).2 ?_⟩
  have hlaw := (haltLaw_iff _).1 (happly.halt hs)
  rw [completeApply_mode, h] at hlaw
  simp only [stopInspect, returnToIdle_mode, returnToIdle_fault]
  simpa using hlaw

theorem startProductionBody_leaves {s : State} (h : s.port.mode = .inspect) : (startProductionBody s).leaves 0 0 s := by
  unfold startProductionBody
  split
  · exact .refl s
  split
  · exact .refl s
  · have hmode := setMode_keeps s (m := .produce) (by simp [h, Mode.scanning]) (by simp)
    exact (testRoom_keeps _).after ((activateNext_keeps _).after ((commitHead_keeps _ _).after ((setExhausted_keeps false _).after hmode)))

theorem writeGradeRowsBody_leaves (rows : List GradeRow) (s : State) : (writeGradeRowsBody rows s).leaves 0 0 s := by
  unfold writeGradeRowsBody
  split
  · exact modGrader_keeps s _
  · exact .refl s

theorem applyGradeTableBody_leaves (s : State) : (applyGradeTableBody s).leaves 0 0 s := by
  unfold applyGradeTableBody
  split
  · exact .refl s
  split
  · exact .refl s
  · exact modGrader_keeps s _

end Sys2Proof.Machine
end

section
/-!
The invariant of every command, and what it settles: O8, O56, O57, O58 and O59.
-/

namespace Sys2Proof.Machine

/-! ### Every command -/

theorem keeps_of_next {s t u : State} (he : (Host.Outcome.next u : Outcome) = .next t) (h : Keeps s u) : Keeps s t := by
  rw [Host.Outcome.next.injEq] at he
  exact he ▸ h

/-- The commands that add records, move Y, start the line or perform a full reset. -/
def Instr.special : Instr → Bool
  | .normalPlan | .forcedPlan | .encoderStateChange _ _ _ | .startInspect _ _ | .fullReset _ | .powerOn _ | .resetPin _ _ => true
  | _ => false

/-- Every other command keeps the invariants, leaves Y and adds no record. -/
theorem exec_keeps {c : Instr} {s t : State} (hc : Instr.special c = false) (he : exec c s = .next t) : Keeps s t := by
  cases c with
  | normalPlan | forcedPlan | encoderStateChange | startInspect | fullReset | powerOn | resetPin => simp [Instr.special] at hc
  | stall => exact keeps_of_next he (stall_keeps s)
  | speedWindow => exact keeps_of_next he (speedWindow_keeps s)
  | breakAsserted late => exact keeps_of_next he (breakAsserted_keeps late s)
  | breakCleared => exact keeps_of_next he (breakCleared_keeps s)
  | gantryDigest i d => exact keeps_of_next he (gantryDigest_keeps i d s)
  | digestDeadline => exact keeps_of_next he (digestDeadline_keeps s)
  | gantryFrameDiscarded | gantryByteTimeout => exact keeps_of_next he (.refl s)
  | detectionSwitch => exact keeps_of_next he (detectionSwitch_keeps s)
  | switchComplete => exact keeps_of_next he (switchComplete_keeps s)
  | mapFullEnd => exact keeps_of_next he (mapFullEnd_keeps s)
  | mapRetirement => exact keeps_of_next he (mapRetirement_keeps s)
  | planOverrun late => exact keeps_of_next he (planOverrun_keeps late s)
  | cutOverdue => exact keeps_of_next he (cutOverdue_keeps s)
  | cutAccept id => exact keeps_of_next he (answerCut_keeps id _ acceptCut_keeps s)
  | cutDone id => exact keeps_of_next he (answerCut_keeps id _ doneCut_keeps s)
  | cutReject id r => exact keeps_of_next he (answerCut_keeps id _ (failCut_keeps _) s)
  | cutMissed id => exact keeps_of_next he (answerCut_keeps id _ (failCut_keeps _) s)
  | capability cap late => exact keeps_of_next he (takeCapability_keeps cap late s)
  | malformedRecord cut => exact keeps_of_next he (keeps_ite (.refl s) (protocolFault_keeps cut s))
  | cutterFrameDiscarded => exact keeps_of_next he (keeps_ite (.refl s) (modCutter_keeps s _))
  | cutterReadyAsserted => exact keeps_of_next he (modCutter_keeps s _)
  | cutterReadyCleared late => exact keeps_of_next he (readyCleared_keeps late s)
  | drainComplete => exact keeps_of_next he (drainComplete_keeps s)
  | pendingClose => exact keeps_of_next he (pendingClose_keeps s)
  | frameDiscarded | frameTimeout => exact keeps_of_next he (discardFrame_keeps s)
  | unknownRequest kind tag => exact keeps_of_next he (unknownRequest_keeps kind tag s)
  | setLineGeometry tag c => exact keeps_of_next he (request_keeps _ _ _ _ s fun v _ _ _ => setLineGeometryBody_leaves v s)
  | setLaneGeometry tag c => exact keeps_of_next he (request_keeps _ _ _ _ s fun v _ _ _ => setLaneGeometryBody_leaves v s)
  | startLane tag c =>
    exact keeps_of_next he (request_keeps _ _ _ _ s fun v _ _ _ => withLane_leaves _ _ s fun i => startLaneBody_leaves i s)
  | stopLane tag c =>
    exact keeps_of_next he (request_keeps _ _ _ _ s fun v _ _ _ => withLane_leaves _ _ s fun i => stopLaneBody_leaves i s)
  | setDarkOffset tag c =>
    exact keeps_of_next he (request_keeps _ _ _ _ s fun v _ _ _ => withLane_leaves _ _ s fun i => setDarkBody_leaves _ i s)
  | setColumnMask tag c =>
    exact keeps_of_next he (request_keeps _ _ _ _ s fun v _ _ _ => withLane_leaves _ _ s fun i => setMaskBody_leaves _ i s)
  | setDynamicMasking tag c =>
    exact keeps_of_next he (request_keeps _ _ _ _ s fun v _ _ _ => withLane_leaves _ _ s fun i => setDynamicBody_leaves _ i s)
  | writeDetectionSet tag c => exact keeps_of_next he (request_keeps _ _ _ _ s fun v _ _ _ => writeDetectionBody_leaves v s)
  | applyDetection tag c => exact keeps_of_next he (request_keeps _ _ _ _ s fun v hr _ _ => applyDetectionBody_leaves tag s hr)
  | loadOrder tag c => exact keeps_of_next he (request_keeps _ _ _ _ s fun v _ _ _ => loadOrderBody_leaves v s)
  | withdrawOrder tag c => exact keeps_of_next he (request_keeps _ _ _ _ s fun v _ _ _ => withdrawOrderBody_leaves v s)
  | setCutParameters tag c => exact keeps_of_next he (request_keeps _ _ _ _ s fun v _ _ _ => setCutParametersBody_leaves v s)
  | stopProduction tag c =>
    exact keeps_of_next he (request_keeps _ _ _ _ s fun v hr _ hm => stopProductionBody_leaves tag s hr (by simpa [takenIn] using hm))
  | writeGradeRows tag c => exact keeps_of_next he (request_keeps _ _ _ _ s fun v _ _ _ => writeGradeRowsBody_leaves v s)
  | applyGradeTable tag c => exact keeps_of_next he (request_keeps _ _ _ _ s fun v _ _ _ => applyGradeTableBody_leaves s)
  | closeShift tag c => exact keeps_of_next he (request_keeps _ _ _ _ s fun v hr _ _ => closeShiftBody_leaves tag v s hr)
  | haltLine tag c => exact keeps_of_next he (request_keeps _ _ _ _ s fun v _ _ _ => report2_keeps _ _ s)
  | clearFault tag c => exact keeps_of_next he (request_keeps _ _ _ _ s fun v _ _ _ => clearFaultBody_leaves v s)
  | stopInspect tag c =>
    exact keeps_of_next he (request_keeps _ _ _ _ s fun v _ _ hm => stopInspect_keeps (by simpa [takenIn] using hm))
  | startProduction tag c =>
    exact keeps_of_next he (request_keeps _ _ _ _ s fun v _ _ hm => startProductionBody_leaves (by simpa [takenIn] using hm))
  | reset tag c =>
    exact keeps_of_next he (request_keeps _ _ _ _ s fun v _ _ _ => { Kept.refl s with silent := fun _ => ⟨rfl, rfl, rfl⟩ })
  | clearEvents tag c | setEventMask tag c =>
    exact keeps_of_next he (request_keeps _ _ _ _ s fun v _ _ _ => { Kept.refl s with })
  | readLineGeometry tag c | readPosition tag c | readDetectionSet tag c | readOrders tag c | readCutParameters tag c
  | readGradeTable tag c | readCutter tag c | readShift tag c | readJournal tag c | readFault tag c | readEvents tag c =>
    exact keeps_of_next he (read_keeps _ _ _ _ s fun v => .inr ⟨_, rfl⟩)
  | readLane tag c =>
    refine keeps_of_next he (read_keeps _ _ _ _ s fun v => ?_)
    cases h : laneOf v with
    | none => exact .inl ⟨_, by simp only [withLane, h]; rfl⟩
    | some i => exact .inr ⟨_, by simp only [withLane, h]; rfl⟩
  | readOpenFlaws tag c =>
    refine keeps_of_next he (read_keeps _ _ _ _ s fun v => ?_)
    cases laneOf v with
    | none => exact .inl ⟨_, rfl⟩
    | some i => exact .inr ⟨_, rfl⟩
  | readShiftReport tag c =>
    refine keeps_of_next he (read_keeps _ _ _ _ s fun v => ?_)
    cases findReport v s.report.store with
    | none => exact .inl ⟨_, rfl⟩
    | some r => exact .inr ⟨_, rfl⟩
  | readFlaws tag c =>
    refine keeps_of_next he (read_keeps _ _ _ _ s fun v => ?_)
    unfold readFlawsBody
    split
    · split
      · exact .inl ⟨_, rfl⟩
      · exact .inr ⟨_, rfl⟩
    · split
      · exact .inl ⟨_, rfl⟩
      · exact .inr ⟨_, rfl⟩
  | readBlind tag c =>
    refine keeps_of_next he (read_keeps _ _ _ _ s fun v => ?_)
    unfold readBlindBody
    split
    · split
      · exact .inl ⟨_, rfl⟩
      · exact .inr ⟨_, rfl⟩
    · split
      · exact .inl ⟨_, rfl⟩
      · exact .inr ⟨_, rfl⟩
  | readPlates tag c =>
    refine keeps_of_next he (read_keeps _ _ _ _ s fun v => ?_)
    unfold readPlatesBody
    split
    · split
      · exact .inl ⟨_, rfl⟩
      · exact .inr ⟨_, rfl⟩
    · split
      · exact .inl ⟨_, rfl⟩
      · exact .inr ⟨_, rfl⟩

/-! ### START INSPECT and the full reset -/

/-- The state at START INSPECT before the lanes take the start. -/
def restarted (s : State) : State :=
  (setMode .inspect ((s.modFault fun f => { f with before := none }).modPos Position.restart)).modTracker Tracker.restart

theorem restarted_table (s : State) : (restarted s).planner.table = s.planner.table := rfl

theorem answered_planner (s : State) (k : Request) (tag : Nat) (r : Result) (b : ReplyBody) :
    (s.answered k tag r b).planner = s.planner := rfl

theorem startNamed_keeps (set : BitVec 8) (i : LaneId) (s : State) : Keeps s (startNamed set i s) :=
  keeps_ite ((setLaneState_keeps i .settling _).after (modLane_keeps s i le_rfl fun h => ⟨h.staticMask, Nat.zero_le _, Nat.zero_le _,
    Nat.zero_le _, h.dynColumns⟩)) (.refl s)

theorem openAtStart_keeps (i : LaneId) (s : State) : Keeps s (openAtStart i s) := keeps_ite (openLaneInterval_keeps i 0 s) (.refl s)

/-- START INSPECT once the Position Unit and the Tracker have restarted. -/
theorem startInspect_keeps (set : BitVec 8) (s : State) : Keeps (restarted s) (startInspect set s) := by
  have hlanes : Keeps (restarted s) (forLanes openAtStart (forLanes (startNamed set) (fixOwnedSpans (restarted s)))) :=
    (forLanes_keepsAll _ openAtStart_keeps _).after ((forLanes_keepsAll _ (startNamed_keeps set) _).after (fixOwnedSpans_keeps _))
  have hmark (t : State) : Keeps t (markAtStart t) := keeps_ite (openMarking_keeps 0 t) (.refl t)
  have hhalt (t : State) : Keeps t (haltAtStart t) := keeps_ite (report2_keeps _ _ t) (.refl t)
  exact (hhalt _).after ((trigger_keeps 0 _).after ((hmark _).after hlanes))

/-- START INSPECT is refused or starts the line from IDLE. -/
theorem exec_startInspect_cases {tag : Nat} {c : Content (BitVec 8)} {s t : State} (he : exec (.startInspect tag c) s = .next t) :
    Keeps s t ∨ s.ctl.resetting = false ∧ s.ctl.held = false ∧ s.port.mode = .idle ∧
      ∃ set, t = (startInspect set s).answered .startInspect tag .ok .empty := by
  have he' : request .startInspect tag c startInspectBody s = t := Host.Outcome.next.inj he
  rcases request_cases .startInspect tag c startInspectBody s with hr | ⟨hd, hr⟩
  · rw [hr] at he'
    exact .inl (he' ▸ .refl s)
  obtain ⟨hheld, hreset⟩ : s.ctl.held = false ∧ s.ctl.resetting = false := by simpa [State.deaf] using hd
  have refused (r : Result) : Keeps s (s.answered .startInspect tag r .empty) := answered_kept _ tag r .empty hreset (.refl s)
  rcases hr with ⟨r, hr⟩ | ⟨set, -, hm, hr⟩
  · rw [hr] at he'
    exact .inl (he' ▸ refused r)
  rw [hr, startInspectBody] at he'
  split at he'
  · exact .inl (he' ▸ answer_refuse .. ▸ refused .notConfigured)
  split at he'
  · exact .inl (he' ▸ answer_refuse .. ▸ refused .badField)
  split at he'
  · exact .inl (he' ▸ answer_refuse .. ▸ refused .coverageGap)
  · exact .inr ⟨hreset, hheld, by simpa [takenIn] using hm, set, by rw [← he', answer_ok]⟩

/-- The three causes of a full reset change nothing, hold the part in reset, or perform it. -/
theorem exec_fullReset_iff {c : Instr} {s t : State} (hc : performsFullReset c = true) (he : exec c s = .next t) :
    t = s ∨ t = { s with ctl := { s.ctl with held := true } } ∨ ∃ p, t = s.afterReset p := by
  cases c with
  | powerOn p => exact .inr (.inr ⟨p, (Host.Outcome.next.inj he).symm⟩)
  | fullReset straps =>
    have he' : fullReset straps s = t := Host.Outcome.next.inj he
    unfold fullReset at he'
    split at he'
    · exact .inr (.inr ⟨_, he'.symm⟩)
    · exact .inl he'.symm
  | resetPin asserted straps =>
    have he' : resetPin asserted straps s = t := Host.Outcome.next.inj he
    unfold resetPin at he'
    split at he'
    · exact .inr (.inl he'.symm)
    split at he'
    · exact .inr (.inr ⟨_, he'.symm⟩)
    · exact .inl he'.symm
  | _ => simp [performsFullReset] at hc

/-! ### A step as a command -/

/-- A law that does not speak of the queue, kept by every command, is kept by every step. -/
theorem step_keeps_law {P : State → Prop} (hq : ∀ s q, P s → P { s with pending := q })
    (h : ∀ c s t, P s → exec c s = .next t → P t) {s t : State} (hs : P s) (he : step s = .next t) : P t := by
  unfold step at he
  split at he
  · exact h _ _ t (hq s _ hs) he
  split at he
  · exact h _ s t hs he
  · rw [Host.Outcome.next.injEq] at he
    exact he ▸ hs

/-- A law that every kind of command keeps. -/
theorem exec_keeps_law {P : State → Prop}
    (hkept : ∀ (m x : Nat) (s t : State), Kept m x s t → (m = 0 ∨ s.planner.table.length + m ≤ 128) → P s → P t)
    (hstart : ∀ s : State, s.port.mode = .idle → P s → P (restarted s))
    (hanswer : ∀ (s : State) k tag r b, P s → P (s.answered k tag r b))
    (hheld : ∀ s : State, P s → P { s with ctl := { s.ctl with held := true } })
    (hreset : ∀ (s : State) (p : Pins), P (s.afterReset p))
    (c : Instr) (s t : State) (hs : P s) (he : exec c s = .next t) : P t := by
  by_cases hfull : performsFullReset c = true
  · rcases exec_fullReset_iff hfull he with rfl | rfl | ⟨p, rfl⟩
    exacts [hs, hheld s hs, hreset s p]
  by_cases hc : Instr.special c = true
  · cases c with
    | normalPlan =>
      obtain rfl : normalPlan s = t := Host.Outcome.next.inj he
      rcases normalPlan_kept s with h | ⟨h, hroom⟩
      exacts [hkept _ _ _ _ h (.inl rfl) hs, hkept _ _ _ _ h (.inr hroom) hs]
    | forcedPlan =>
      obtain rfl : forcedPlan s = t := Host.Outcome.next.inj he
      rcases forcedPlan_kept s with h | ⟨h, hroom⟩
      exacts [hkept _ _ _ _ h (.inl rfl) hs, hkept _ _ _ _ h (.inr hroom) hs]
    | encoderStateChange a b late =>
      obtain rfl : encoderChange a b late s = t := Host.Outcome.next.inj he
      obtain ⟨x, -, h⟩ := encoderChange_kept a b late s
      exact hkept _ _ _ _ h (.inl rfl) hs
    | startInspect tag c =>
      rcases exec_startInspect_cases he with h | ⟨-, -, hidle, set, rfl⟩
      · exact hkept _ _ _ _ h (.inl rfl) hs
      · exact hanswer _ _ _ _ _ (hkept _ _ _ _ (startInspect_keeps set s) (.inl rfl) (hstart s hidle hs))
    | fullReset | powerOn | resetPin => exact absurd rfl hfull
    | _ => simp [Instr.special] at hc
  · exact hkept _ _ _ _ (exec_keeps (by simpa using hc) he) (.inl rfl) hs

/-! ### The twelfth law -/

/-- Settles O56. -/
theorem everyStepKeepsTheHaltLaw : Obligations.EveryStepKeepsTheHaltLaw := by
  intro s t hs he
  refine step_keeps_law (P := HaltLaw) (fun s q h => h) (fun c s t hs he => ?_) hs he
  refine exec_keeps_law (P := HaltLaw) (fun m x s t h _ hs => h.halt hs) (fun s hidle hs => (haltLaw_iff _).2 ?_)
    (fun s k tag r b h => h) (fun s h => h) (fun s p => ?_) c s t hs he
  · have hlaw := (haltLaw_iff s).1 hs
    rw [hidle] at hlaw
    have hslot : s.fault.slot.halting ≠ true := fun h => absurd (hlaw.2 h) (by simp)
    simpa [restarted] using hslot
  · simp [HaltLaw, State.afterReset, State.reset, Port.initial, FaultUnit.initial]

/-! ### Capacities and orders -/

/-- Every collection within its capacity and in its order. -/
structure Fits (s : State) : Prop where
  masks : maskCount s.lanes ≤ 256
  lanes : ∀ i : LaneId, LaneFits s.lanes[i.val]
  tables : ∀ i : LaneId, TableFits s.tracker.tables[i.val]
  sequences : ∀ d, s.tracker.holds d → SetFits d
  map : MapFits s.map
  orders : OrdersFit s.orders
  records : s.planner.table.length ≤ 128
  report : ReportFits s.report
  delayed : s.port.delayed.length ≤ 4

theorem fits_iff (s : State) : Fits s ↔ Capacities s ∧ OrderLaw s ∧ ListOrders s ∧
    ∀ i : LaneId, LaneCapacities s.lanes[i.val] s.tracker.tables[i.val] := by
  constructor
  · intro h
    exact ⟨⟨h.masks, h.sequences, h.map.entries, h.map.blind, h.orders.queue, h.orders.finished, h.records, h.report.store,
      h.report.journal, h.delayed⟩, ⟨h.orders.queue, h.orders.ids⟩, ⟨h.map.sorted, h.map.blindSorted⟩, fun i =>
      ⟨(h.lanes i).staticMask, (h.lanes i).bright, (h.lanes i).dark, (h.lanes i).oblique, (h.lanes i).dynColumns,
        (h.tables i).flaws, (h.tables i).marks⟩⟩
  · rintro ⟨hc, ⟨hqueue, hids⟩, ⟨hsorted, hblind⟩, hl⟩
    exact ⟨hc.masks, fun i => ⟨(hl i).staticMask, (hl i).bright, (hl i).dark, (hl i).oblique, (hl i).dynColumns⟩,
      fun i => ⟨(hl i).flaws, (hl i).marks⟩, hc.sequences, ⟨hc.map, hc.blind, hsorted, hblind⟩, ⟨hqueue, hids, hc.finished⟩,
      hc.table, ⟨hc.store, hc.journal⟩, hc.delayed⟩

theorem Kept.fits {m x : Nat} {s t : State} (h : Kept m x s t) (hroom : m = 0 ∨ s.planner.table.length + m ≤ 128) (hs : Fits s) :
    Fits t where
  masks := h.lanes.1 hs.masks
  lanes := h.lanes.2 hs.lanes
  tables := h.tracker.1 hs.tables
  sequences := h.tracker.2 hs.sequences
  map := h.map hs.map
  orders := h.orders hs.orders
  records := by
    have hlen := h.records.1
    have htable := hs.records
    omega
  report := h.report hs.report
  delayed := h.delayed hs.delayed

theorem restarted_fits {s : State} (h : Fits s) : Fits (restarted s) where
  masks := h.masks
  lanes := h.lanes
  tables := emptyTables_fit
  sequences := h.sequences
  map := h.map
  orders := h.orders
  records := h.records
  report := h.report
  delayed := h.delayed

theorem afterReset_fits (s : State) (p : Pins) : Fits (s.afterReset p) := by
  obtain ⟨-, hc, ho, hl, hlane, -⟩ := resetMeetsTheLaws
  have h : Fits State.reset := (fits_iff _).2 ⟨hc, ho, hl, hlane⟩
  exact ⟨h.masks, h.lanes, h.tables, h.sequences, h.map, h.orders, h.records, h.report, h.delayed⟩

/-- Settles O57. -/
theorem everyStepKeepsCapacitiesAndOrders : Obligations.EveryStepKeepsCapacitiesAndOrders := by
  intro s t hc ho hl hlane he
  refine (fits_iff t).1 (step_keeps_law (P := Fits) (fun s q h => ?_) (fun c s t hs he => ?_) ((fits_iff s).2 ⟨hc, ho, hl, hlane⟩) he)
  · exact ⟨h.masks, h.lanes, h.tables, h.sequences, h.map, h.orders, h.records, h.report, h.delayed⟩
  · refine exec_keeps_law (P := Fits) (fun m x s t h hroom hs => h.fits hroom hs) (fun s _ h => restarted_fits h)
      (fun s k tag r b h => ?_) (fun s h => ?_) afterReset_fits c s t hs he
    · exact ⟨h.masks, h.lanes, h.tables, h.sequences, h.map, h.orders, h.records, h.report, h.delayed⟩
    · exact ⟨h.masks, h.lanes, h.tables, h.sequences, h.map, h.orders, h.records, h.report, h.delayed⟩

/-! ### The ranges of the Position Unit and the first law -/

/-- Outside START INSPECT and the full reset Y moves by at most 1 and K does not fall while the mode is not IDLE. -/
theorem exec_moves {c : Instr} {s t : State} (hfull : performsFullReset c = false) (hstart : ∀ tag set, c ≠ .startInspect tag set)
    (he : exec c s = .next t) : ∃ m x, x ≤ 1 ∧ Kept m x s t := by
  by_cases hc : Instr.special c = true
  · cases c with
    | normalPlan =>
      obtain rfl : normalPlan s = t := Host.Outcome.next.inj he
      rcases normalPlan_kept s with h | ⟨h, -⟩
      exacts [⟨_, 0, by omega, h⟩, ⟨_, 0, by omega, h⟩]
    | forcedPlan =>
      obtain rfl : forcedPlan s = t := Host.Outcome.next.inj he
      rcases forcedPlan_kept s with h | ⟨h, -⟩
      exacts [⟨_, 0, by omega, h⟩, ⟨_, 0, by omega, h⟩]
    | encoderStateChange a b late =>
      obtain rfl : encoderChange a b late s = t := Host.Outcome.next.inj he
      obtain ⟨x, hx, h⟩ := encoderChange_kept a b late s
      exact ⟨0, x, hx, h⟩
    | startInspect tag c => exact absurd rfl (hstart tag c)
    | fullReset | powerOn | resetPin => simp [performsFullReset] at hfull
    | _ => simp [Instr.special] at hc
  · exact ⟨0, 0, by omega, exec_keeps (by simpa using hc) he⟩

/-- Settles O58. -/
theorem positionRangesAndFirstLaw : Obligations.PositionRangesAndFirstLaw := by
  refine ⟨fun s t hs he => ?_, fun c s t hfull hstart he => ?_⟩
  · refine step_keeps_law (P := fun s => RibbonRanges s.pos) (fun s q h => h) (fun c s t hs he => ?_) hs he
    refine exec_keeps_law (P := fun s => RibbonRanges s.pos) (fun m x s t h _ hs => h.pos.2 hs) (fun s _ h => ?_)
      (fun s k tag r b h => h) (fun s h => h) (fun s p => ?_) c s t hs he
    · exact ⟨Nat.zero_le _, Nat.zero_le _, h.window, h.speed, fun hc =>
        ⟨(h.rem hc).1, Nat.lt_of_lt_of_le (by decide : (0 : Nat) < 10000) (h.rem hc).1⟩⟩
    · exact ⟨Nat.zero_le _, Nat.zero_le _, Nat.zero_le _, Nat.zero_le _, fun hc => absurd hc (by
        simp [State.afterReset, Position.initial])⟩
  · obtain ⟨m, x, hx, h⟩ := exec_moves hfull hstart he
    have hy := h.pos.1
    exact ⟨by omega, by omega, h.frontier⟩

/-! ### The eighth law -/

theorem OrdersOnly.table {s t : State} (h : OrdersOnly s t) : t.planner.table = s.planner.table := by
  obtain ⟨u, p, v, x, rfl, -⟩ := h
  rfl

theorem orderCommitted_ordersOnly (id : Nat) (counted : Bool) (s : State) : OrdersOnly s (orderCommitted id counted s) := by
  have hcount := modOrder_ordersOnly id (fun o => { o with planned := satAdd Config.max32 o.planned 1 }) (fun _ => rfl) s
  unfold orderCommitted
  split
  · dsimp only
    split
    · exact hcount
    split
    · exact (hcount.trans (endOrder_ordersOnly _ _)).trans (activateNext_ordersOnly _)
    · exact hcount
  · exact .refl s

theorem takeRecordReferences_planner (r : PlateRecord) (s : State) : (takeRecordReferences r s).planner = s.planner := by
  unfold takeRecordReferences
  split <;> rfl

/-- R114: a commit adds its record after those that stand. -/
theorem commitRecord_table (order : Option Order) (length : Nat) (forced : Bool) (s : State) :
    (commitRecord order length forced s).planner.table = s.planner.table ++ [s.newRecord order length forced] := by
  have hrefs := takeRecordReferences_planner (s.newRecord order length forced) (s.modPlanner fun p => { p with
    table := p.table ++ [s.newRecord order length forced], nextPlate := nextId p.nextPlate, nextCut := nextId p.nextCut })
  have horder (o : Option Nat) (t : State) : (match o with
      | none => t
      | some id => orderCommitted id (s.newRecord order length forced).counted t).planner.table = t.planner.table := by
    cases o with
    | none => rfl
    | some id => exact (orderCommitted_ordersOnly ..).table
  exact (horder _ _).trans (congrArg Planner.table hrefs)

/-- A plan adds records after those that stand. -/
def AddsRecords (s t : State) : Prop := ∃ new, t.planner.table = s.planner.table ++ new

theorem AddsRecords.of_eq {s t : State} (h : t.planner.table = s.planner.table) : AddsRecords s t := ⟨[], by simp [h]⟩

theorem AddsRecords.trans {s t u : State} (h : AddsRecords s t) (g : AddsRecords t u) : AddsRecords s u := by
  obtain ⟨a, ha⟩ := h
  obtain ⟨b, hb⟩ := g
  exact ⟨a ++ b, by rw [hb, ha, List.append_assoc]⟩

theorem commitRecord_adds (order : Option Order) (length : Nat) (forced : Bool) (s : State) :
    AddsRecords s (commitRecord order length forced s) := ⟨_, commitRecord_table ..⟩

theorem ordersExhausted_planner (s : State) : (ordersExhausted s).planner = s.planner := by
  unfold ordersExhausted
  split <;> rfl

theorem planFiller_adds (forced : Bool) (s : State) : AddsRecords s (planFiller forced s) :=
  (AddsRecords.of_eq (congrArg Planner.table (ordersExhausted_planner s))).trans (commitRecord_adds ..)

theorem planOrder_adds (o : Order) (s : State) : AddsRecords s (planOrder o s) := by
  unfold planOrder
  split
  · split
    · exact commitRecord_adds ..
    · exact (commitRecord_adds none _ false s).trans (commitRecord_adds ..)
  split
  · exact commitRecord_adds ..
  · exact commitRecord_adds ..

theorem normalPlan_adds (s : State) : AddsRecords s (normalPlan s) := by
  unfold normalPlan
  split
  · exact .of_eq rfl
  · refine AddsRecords.trans ?_ (.of_eq (testRoom_ordersOnly _).table)
    split
    · exact planOrder_adds ..
    · exact planFiller_adds ..

theorem forcedPlan_adds (s : State) : AddsRecords s (forcedPlan s) := by
  unfold forcedPlan
  split
  · exact .of_eq rfl
  · refine AddsRecords.trans ?_ (.of_eq (testRoom_ordersOnly _).table)
    have hcount : AddsRecords s (tally Shift.planForced (raise .planForced s)) := .of_eq rfl
    unfold planForced
    dsimp only
    split
    · exact hcount.trans (commitRecord_adds ..)
    · exact hcount.trans (planFiller_adds ..)

/-- The records that a full reset, START INSPECT or any command but a plan leaves stem from those that stood. -/
theorem exec_descends {c : Instr} {s t : State} (hn : c ≠ .normalPlan) (hf : c ≠ .forcedPlan) (he : exec c s = .next t) :
    ∀ r ∈ t.planner.table, ∃ q ∈ s.planner.table, Descends q r := by
  by_cases hfull : performsFullReset c = true
  · rcases exec_fullReset_iff hfull he with rfl | rfl | ⟨p, rfl⟩
    · exact fun r hr => ⟨r, hr, .refl r⟩
    · exact fun r hr => ⟨r, hr, .refl r⟩
    · exact fun r hr => absurd hr (by simp [State.afterReset, State.reset, Planner.initial])
  by_cases hc : Instr.special c = true
  · cases c with
    | normalPlan => exact absurd rfl hn
    | forcedPlan => exact absurd rfl hf
    | encoderStateChange a b late =>
      obtain rfl : encoderChange a b late s = t := Host.Outcome.next.inj he
      obtain ⟨x, -, h⟩ := encoderChange_kept a b late s
      exact h.records.2 rfl
    | startInspect tag c =>
      rcases exec_startInspect_cases he with h | ⟨-, -, -, set, rfl⟩
      · exact h.records.2 rfl
      · intro r hr
        rw [answered_planner] at hr
        obtain ⟨q, hq, h⟩ := (startInspect_keeps set s).records.2 rfl r hr
        exact ⟨q, restarted_table s ▸ hq, h⟩
    | fullReset | powerOn | resetPin => exact absurd rfl hfull
    | _ => simp [Instr.special] at hc
  · exact (exec_keeps (by simpa using hc) he).records.2 rfl

/-- Settles O59. -/
theorem gradesChangeOnlyToX : Obligations.GradesChangeOnlyToX := by
  refine fun c s t he => ⟨?_, fun hn hf r hr => ?_⟩
  · rintro (rfl | rfl)
    · obtain rfl : normalPlan s = t := Host.Outcome.next.inj he
      exact normalPlan_adds s
    · obtain rfl : forcedPlan s = t := Host.Outcome.next.inj he
      exact forcedPlan_adds s
  · obtain ⟨q, hq, h⟩ := exec_descends hn hf he r hr
    exact ⟨q, hq, h.id, h.kind, h.order, h.yStart, h.yEnd, h.version, h.rejectDest, h.forced, h.cutId, h.cutPos, h.grades⟩

/-! ### RESET and a part held in reset -/

theorem exec_held_inputs {s : State} (h : s.ctl.held = true) :
    (∀ a b late, exec (.encoderStateChange a b late) s = .next { s with pos := { s.pos with phaseA := a, phaseB := b } }) ∧
    (∀ late, exec (.breakAsserted late) s = .next { s with pos := { s.pos with breakLevel := true } }) ∧
    exec .breakCleared s = .next { s with pos := { s.pos with breakLevel := false } } ∧
    exec .cutterReadyAsserted s = .next { s with cutter := { s.cutter with ready := true } } ∧
    ∀ late, exec (.cutterReadyCleared late) s = .next { s with cutter := { s.cutter with ready := false } } := by
  refine ⟨fun a b late => ?_, fun late => ?_, ?_, rfl, fun late => ?_⟩
  · change Host.Outcome.next (encoderChange a b late s) = _
    simp only [encoderChange, h, Bool.true_or, if_true]
    rfl
  · change Host.Outcome.next (breakAsserted late s) = _
    simp only [breakAsserted, h, Bool.true_or, if_true]
    rfl
  · change Host.Outcome.next (breakCleared s) = _
    simp only [breakCleared, h, Bool.true_or, if_true]
    rfl
  · change Host.Outcome.next (readyCleared late s) = _
    simp only [readyCleared, h, if_true]
    rfl

/-- R204: of a part held in reset only the input pins, power-on and the pin itself do anything. -/
theorem exec_held {c : Instr} {s : State} (h : s.ctl.held = true) (hc : followsInputs c = false) : exec c s = .next s := by
  cases hr : requestOf c with
  | some r => exact exec_request_deaf hr (by simp [State.deaf, h])
  | none =>
    cases c with
    | encoderStateChange | breakAsserted | breakCleared | cutterReadyAsserted | cutterReadyCleared | powerOn | resetPin =>
      simp [followsInputs] at hc
    | stall => exact congrArg _ (show stall s = s by simp [stall, h])
    | speedWindow => exact congrArg _ (show speedWindow s = s by simp [speedWindow, h])
    | gantryDigest i d => exact congrArg _ (show gantryDigest i d s = s by simp [gantryDigest, h])
    | digestDeadline => exact congrArg _ (show digestDeadline s = s by simp [digestDeadline, h])
    | gantryFrameDiscarded | gantryByteTimeout => rfl
    | detectionSwitch => exact congrArg _ (show detectionSwitch s = s by simp [detectionSwitch, h])
    | switchComplete => exact congrArg _ (show switchComplete s = s by simp [switchComplete, h])
    | mapFullEnd => exact congrArg _ (show mapFullEnd s = s by simp [mapFullEnd, h])
    | mapRetirement => exact congrArg _ (show mapRetirement s = s by simp [mapRetirement, h])
    | normalPlan => exact congrArg _ (show normalPlan s = s by simp [normalPlan, h])
    | forcedPlan => exact congrArg _ (show forcedPlan s = s by simp [forcedPlan, h])
    | planOverrun late => exact congrArg _ (show planOverrun late s = s by simp [planOverrun, h])
    | cutOverdue => exact congrArg _ (show cutOverdue s = s by simp [cutOverdue, h])
    | cutAccept id => exact congrArg _ (show answerCut id acceptCut s = s by simp [answerCut, h])
    | cutDone id => exact congrArg _ (show answerCut id doneCut s = s by simp [answerCut, h])
    | cutReject id r => exact congrArg _ (show answerCut id (failCut (.rejected r)) s = s by simp [answerCut, h])
    | cutMissed id => exact congrArg _ (show answerCut id (failCut .missed) s = s by simp [answerCut, h])
    | capability cap late => exact congrArg _ (show takeCapability cap late s = s by simp [takeCapability, h])
    | malformedRecord cut => exact congrArg _ (show (if s.ctl.held then s else protocolFault cut s) = s by simp [h])
    | cutterFrameDiscarded =>
      exact congrArg _ (show (if s.ctl.held then s else s.modCutter fun c =>
        { c with discarded := satAdd Config.max16 c.discarded 1 }) = s by simp [h])
    | drainComplete => exact congrArg _ (show drainComplete s = s by simp [drainComplete, h])
    | pendingClose => exact congrArg _ (show pendingClose s = s by simp [pendingClose, h])
    | frameDiscarded | frameTimeout => exact congrArg _ (show discardFrame s = s by simp [discardFrame, h])
    | unknownRequest kind tag => exact congrArg _ (show unknownRequest kind tag s = s by simp [unknownRequest, State.deaf, h])
    | fullReset straps => exact congrArg _ (show fullReset straps s = s by simp [fullReset, h])
    | _ => simp [requestOf] at hr

theorem exec_held_quiet {c : Instr} {s t : State} (h : s.ctl.held = true) (hc : performsFullReset c = false)
    (he : exec c s = .next t) : t.out.replies = s.out.replies ∧ t.ctl.held = true := by
  by_cases hf : followsInputs c = true
  · obtain ⟨h1, h2, h3, h4, h5⟩ := exec_held_inputs h
    cases c with
    | encoderStateChange a b late => rw [h1, Host.Outcome.next.injEq] at he; exact he ▸ ⟨rfl, h⟩
    | breakAsserted late => rw [h2, Host.Outcome.next.injEq] at he; exact he ▸ ⟨rfl, h⟩
    | breakCleared => rw [h3, Host.Outcome.next.injEq] at he; exact he ▸ ⟨rfl, h⟩
    | cutterReadyAsserted => rw [h4, Host.Outcome.next.injEq] at he; exact he ▸ ⟨rfl, h⟩
    | cutterReadyCleared late => rw [h5, Host.Outcome.next.injEq] at he; exact he ▸ ⟨rfl, h⟩
    | powerOn | resetPin => simp [performsFullReset] at hc
    | _ => simp [followsInputs] at hf
  · rw [exec_held h (by simpa using hf), Host.Outcome.next.injEq] at he
    exact he ▸ ⟨rfl, h⟩

/-- R198, R204: after RESET no reply goes out and no delayed request leaves the list. -/
theorem exec_resetting_quiet {c : Instr} {s t : State} (h : s.ctl.resetting = true) (hc : performsFullReset c = false)
    (he : exec c s = .next t) :
    t.out.replies = s.out.replies ∧ t.port.delayed = s.port.delayed ∧ t.ctl.resetting = true := by
  have quiet (hk : ∃ m x, Kept m x s t) : t.out.replies = s.out.replies ∧ t.port.delayed = s.port.delayed ∧ t.ctl.resetting = true := by
    obtain ⟨m, x, hk⟩ := hk
    obtain ⟨h1, h2, h3⟩ := hk.silent h
    exact ⟨h2, h3, h1⟩
  by_cases hstart : ∃ tag set, c = .startInspect tag set
  · obtain ⟨tag, set, rfl⟩ := hstart
    rcases exec_startInspect_cases he with hk | ⟨hr, -⟩
    · exact quiet ⟨_, _, hk⟩
    · simp [h] at hr
  · obtain ⟨m, x, -, hk⟩ := exec_moves hc (fun tag set e => hstart ⟨tag, set, e⟩) he
    exact quiet ⟨m, x, hk⟩

/-- Settles O8. -/
theorem resetRequestAndHold : Obligations.ResetRequestAndHold := by
  refine ⟨fun s => ⟨fun tag hl => ?_, fun straps hr => ?_, fun straps => rfl, fun straps hh => ?_,
    fun hr c t hc he => exec_resetting_quiet hr hc he, fun hh c t hc he => exec_held_quiet hh hc he⟩,
    fun s hh => ⟨by simp [State.attn, hh], fun c hc => exec_held hh hc, exec_held_inputs hh⟩⟩
  · rw [exec_taken hl rfl rfl, answer_ok]
    rfl
  · exact congrArg _ (show fullReset straps s = s by simp [fullReset, hr])
  · exact congrArg _ (show resetPin false straps s = s by simp [resetPin, hh])

end Sys2Proof.Machine
end

section
/-!
What the halt, the return to IDLE and the line reset do to each block, and what it settles: O10, O52, O53, O54 and O55.
-/

namespace Sys2Proof.Machine

/-! ### The halt -/

/-- A pending close keeps every latched event. -/
theorem makePendingClose_latched (e : Event) (s : State) (h : s.latched e = true) : (makePendingClose s).latched e = true := by
  unfold makePendingClose
  split
  · exact h
  · rename_i p _
    obtain ⟨d, o, he, -⟩ := answerDelayed_frame .closeShift .ok (.shiftSeq s.report.shift.seq)
      ((closeOpenShift p.label p.hostTime s).modReport fun r => { r with pendingClose := none })
    have hclose : (closeOpenShift p.label p.hostTime s).latched e = true := by
      rw [closeOpenShift, latched_raise]
      simpa [State.latched] using Or.inl h
    rw [he]
    exact hclose

/-- What a halt leaves of the state as it was. -/
structure Halted (s t : State) : Prop where
  mode : t.port.mode = .halted
  mask : t.port.mask = s.port.mask
  raised : t.latched .modeChanged = true
  latched : ∀ e, s.latched e = true → t.latched e = true
  pos : t.pos = { s.pos with overspeed := false }
  lanes : t.lanes = s.lanes
  tracker : t.tracker = s.tracker
  grader : t.grader = s.grader
  planner : t.planner = { s.planner with table := [], head := none, planning := .off }
  cutter : t.cutter = { s.cutter with sentHalt := min 4294967295 (s.cutter.sentHalt + 1) }
  noClose : t.report.pendingClose = none
  journal : t.report.journal = s.report.journal
  slot : t.fault.slot = s.fault.slot
  number : t.fault.nextNumber = s.fault.nextNumber
  records : t.out.cutter = s.out.cutter ++ [.cutterHalt]
  triggers : t.out.triggers = s.out.triggers
  ctl : t.ctl = s.ctl

theorem halt_halted (s : State) : Halted s (halt s) := by
  obtain ⟨m, q, h, hvoid, -⟩ := voidAll_frame (setMode .halted (s.modFault fun f => { f with before := some ⟨s.mode, s.overrunDue, false⟩ }))
  obtain ⟨r, v, d, o, hclose, hpending, hjournal, -⟩ := makePendingClose_frame
    (sendCutterHalt (voidAll (setMode .halted (s.modFault fun f => { f with before := some ⟨s.mode, s.overrunDue, false⟩ }))))
  have hlatched : ∀ e, (s.latched e || decide (e = .modeChanged)) = true → (halt s).latched e = true := by
    intro e he
    refine makePendingClose_latched e _ ?_
    rw [show ∀ t : State, (sendCutterHalt t).latched e = t.latched e from fun _ => rfl, hvoid]
    change (setMode .halted _).latched e = true
    rw [latched_setMode]
    exact he
  have hmode := halt_mode s
  have hslot := halt_slot s
  unfold halt at *
  rw [hvoid] at hjournal
  rw [hclose] at *
  rw [hvoid] at *
  exact {
    mode := hmode, mask := rfl, raised := hlatched _ (by simp), latched := fun e he => hlatched e (by simp [he])
    pos := by simp [Mode.cutting, sendCutterHalt], lanes := rfl, tracker := rfl, grader := rfl, planner := rfl, cutter := rfl
    noClose := hpending, journal := hjournal, slot := hslot, number := rfl, records := rfl, triggers := rfl, ctl := rfl }

theorem captureHalt_halted (k : FaultKind) (it : ReportItems) (s : State) :
    Halted (fillSlot (.haltHeld (s.record k it s.fault.slot.number)) s) (captureHalt k it s) := halt_halted _

/-- Settles O52. -/
theorem haltLineHaltsTheLine : Obligations.HaltLineHaltsTheLine := by
  refine fun s tag hl => ⟨fun hm => ?_, fun hm displaced hslot => ?_⟩
  · exact exec_wrongMode (k := .haltLine) rfl hl (by rcases hm with hm | hm <;> simp [State.mode, hm, takenIn, Mode.scanning])
  have hnot : ∀ r, s.fault.slot ≠ .haltHeld r := by
    rintro r hr
    rcases hslot with ⟨h, -⟩ | ⟨q, h, -⟩ <;> rw [hr] at h <;> cases h
  have hnumber : s.fault.slot.number = displaced := by
    rcases hslot with ⟨h, rfl⟩ | ⟨q, h, rfl⟩ <;> rw [h] <;> rfl
  refine ⟨report2 .operatorHalt s.here s, ?_, rfl, ?_⟩
  · rw [exec_taken hl rfl (by simpa [takenIn, State.mode] using hm), answer_ok]
  have h := captureHalt_halted .operatorHalt s.here s
  rw [report2_scanning _ _ _ hnot hm]
  have hcaptured : (captureHalt .operatorHalt s.here s).latched .faultCaptured = true := h.latched _ (by simp)
  refine ⟨h.mode, ?_, h.number, hcaptured, h.raised, h.records, h.triggers, h.cutter, h.planner, h.pos, h.lanes, h.tracker, h.grader,
    h.noClose, h.journal, h.ctl, h.mask⟩
  rw [h.slot, hnumber]
  rfl

/-! ### The voiding of the plate table (R128, R174, R96) -/

/-- The records among `rs` that count toward an order. -/
def countedIn (rs : List PlateRecord) (id : Nat) : Nat := (rs.filter fun r => r.counted && r.order == some id).length

/-- R96: the planned good of every order once records have stopped counting. -/
def uncounted (rs : List PlateRecord) (o : Order) : Order := { o with planned := o.planned - countedIn rs o.id }

theorem releaseReferences_orders (fs bs : List Nat) (s : State) : (releaseReferences fs bs s).orders = s.orders := by
  obtain ⟨_, _, _, _, _, h, -⟩ := releaseReferences_frame fs bs s
  rw [h]

theorem releaseReferences_voided (fs bs : List Nat) (s : State) :
    (releaseReferences fs bs s).report.shift.voidCount = s.report.shift.voidCount ∧
      (releaseReferences fs bs s).report.store = s.report.store ∧
      (releaseReferences fs bs s).report.pendingClose = s.report.pendingClose := by
  obtain ⟨_, _, _, _, _, h, -⟩ := releaseReferences_frame fs bs s
  rw [h]
  exact ⟨rfl, rfl, rfl⟩

theorem stopCounting_orders (r : PlateRecord) (s : State) :
    (stopCounting r s).orders = { s.orders with queue := s.orders.queue.map (uncounted [r]) } := by
  have hnone (hr : ∀ o : Order, (r.counted && r.order == some o.id) = false) : s.orders.queue.map (uncounted [r]) = s.orders.queue := by
    refine (List.map_congr_left fun o _ => ?_).trans (List.map_id _)
    simp [uncounted, countedIn, hr o]
  unfold stopCounting
  split
  · rename_i hr
    rw [hnone fun o => by simp [hr]]
  rename_i id hr
  split
  · rename_i hcount
    simp only [modOrder, State.modOrders_orders, updateWhere]
    congr 1
    refine List.map_congr_left fun o _ => ?_
    by_cases ho : o.id = id
    · simp [uncounted, countedIn, hcount, hr, ho]
    · simp [uncounted, countedIn, hcount, hr, ho, Ne.symm ho]
  · rename_i hcount
    rw [hnone fun o => by simp [hcount]]

theorem stopCounting_report (r : PlateRecord) (s : State) : (stopCounting r s).report = s.report := by
  obtain ⟨q, h, -⟩ := stopCounting_frame r s
  rw [h]

theorem voidRecord_orders (r : PlateRecord) (s : State) :
    (voidRecord r s).orders = { s.orders with queue := s.orders.queue.map (uncounted [r]) } := by
  rw [voidRecord, tally_orders, stopCounting_orders, releaseReferences_orders]
  rfl

theorem voidRecord_report (r : PlateRecord) (s : State) :
    (voidRecord r s).report.shift.voidCount = bump s.report.shift.voidCount ∧ (voidRecord r s).report.store = s.report.store ∧
      (voidRecord r s).report.pendingClose = s.report.pendingClose := by
  obtain ⟨h1, h2, h3⟩ := releaseReferences_voided r.flawRefs r.blindRefs
    (s.modPlanner fun p => { p with table := p.table.filter fun q => q.id != r.id })
  rw [voidRecord, tally_report, stopCounting_report]
  exact ⟨congrArg bump h1, h2, h3⟩

theorem uncounted_comp (r : PlateRecord) (rs : List PlateRecord) : uncounted rs ∘ uncounted [r] = uncounted (r :: rs) := by
  funext o
  have hsum : countedIn (r :: rs) o.id = countedIn [r] o.id + countedIn rs o.id := by
    simp only [countedIn, List.filter_cons, List.filter_nil]
    split <;> simp [Nat.add_comm]
  simp [uncounted, hsum, Nat.sub_sub]

theorem voidRecords_orders (rs : List PlateRecord) (s : State) :
    (rs.foldl (fun s r => voidRecord r s) s).orders = { s.orders with queue := s.orders.queue.map (uncounted rs) } := by
  induction rs generalizing s with
  | nil =>
    have h : uncounted [] = id := by
      funext o
      simp [uncounted, countedIn]
    simp [h]
  | cons r rs ih => rw [List.foldl_cons, ih, voidRecord_orders, List.map_map, uncounted_comp]

theorem voidRecords_report (rs : List PlateRecord) (s : State) (h : s.report.shift.voidCount ≤ 4294967295) :
    (rs.foldl (fun s r => voidRecord r s) s).report.shift.voidCount = min 4294967295 (s.report.shift.voidCount + rs.length) ∧
      (rs.foldl (fun s r => voidRecord r s) s).report.store = s.report.store := by
  induction rs generalizing s with
  | nil => exact ⟨by simp [h], rfl⟩
  | cons r rs ih =>
    obtain ⟨hvoid, hstore, -⟩ := voidRecord_report r s
    have hbump : (voidRecord r s).report.shift.voidCount = min 4294967295 (s.report.shift.voidCount + 1) := hvoid
    obtain ⟨h1, h2⟩ := ih (voidRecord r s) (by omega)
    rw [List.foldl_cons, h1, h2, hstore, hbump, List.length_cons]
    exact ⟨by omega, rfl⟩

theorem voidRecords_pendingClose (rs : List PlateRecord) (s : State) :
    (rs.foldl (fun s r => voidRecord r s) s).report.pendingClose = s.report.pendingClose := by
  induction rs generalizing s with
  | nil => rfl
  | cons r rs ih => rw [List.foldl_cons, ih, (voidRecord_report r s).2.2]

/-- A pending close opens the next shift with its label and every count 0. -/
theorem makePendingClose_some {s : State} {p : PendingClose} (h : s.report.pendingClose = some p) :
    (makePendingClose s).report =
      { (closeOpenShift p.label p.hostTime s).report with pendingClose := none } := by
  simp only [makePendingClose, h]
  obtain ⟨d, o, he, -⟩ := answerDelayed_frame .closeShift .ok (.shiftSeq s.report.shift.seq)
    ((closeOpenShift p.label p.hostTime s).modReport fun r => { r with pendingClose := none })
  rw [he]
  rfl

theorem makePendingClose_none {s : State} (h : s.report.pendingClose = none) : makePendingClose s = s := by
  simp only [makePendingClose, h]

theorem makePendingClose_orders (s : State) : (makePendingClose s).orders = s.orders := by
  obtain ⟨r, v, d, o, he, -⟩ := makePendingClose_frame s
  rw [he]

/-- The state in which the halt of `s` voids the records. -/
def beforeVoid (s : State) : State := setMode .halted (s.modFault fun f => { f with before := some ⟨s.mode, s.overrunDue, false⟩ })

/-- What a halt does to the orders and to the shift accounts. -/
theorem halt_accounts (s : State) :
    (halt s).orders = { s.orders with queue := s.orders.queue.map (uncounted s.planner.table) } ∧
    (s.report.pendingClose = none → s.report.shift.voidCount ≤ 4294967295 →
      (halt s).report.shift.voidCount = min 4294967295 (s.report.shift.voidCount + s.planner.table.length) ∧
        (halt s).report.store = s.report.store) ∧
    ∀ p, s.report.pendingClose = some p →
      (halt s).report.shift.voidCount = 0 ∧ (halt s).report.shift.label = p.label ∧ (halt s).report.pendingClose = none := by
  have horders := voidRecords_orders s.planner.table (beforeVoid s)
  have hclose : (sendCutterHalt (voidAll (beforeVoid s))).report.pendingClose = s.report.pendingClose :=
    voidRecords_pendingClose s.planner.table (beforeVoid s)
  have hhalt : halt s = makePendingClose (sendCutterHalt (voidAll (beforeVoid s))) := rfl
  rw [hhalt]
  refine ⟨?_, fun h hcount => ?_, fun p h => ?_⟩
  · rw [makePendingClose_orders]
    exact horders
  · rw [makePendingClose_none (hclose.trans h)]
    exact voidRecords_report s.planner.table (beforeVoid s) hcount
  · rw [makePendingClose_some (hclose.trans h)]
    exact ⟨rfl, rfl, rfl⟩

/-! ### The return to IDLE -/

/-- The lanes as a return to IDLE leaves them: R24, R46, with LANE CHANGED if one was in another state (R21). -/
theorem lanesToIdle_frame (s : State) : ∃ v e, lanesToIdle s = { s with lanes := v, port := { s.port with events := e } } ∧
    (∀ i : LaneId, v[i.val] = (s.lane i).toIdle) ∧
    ∀ f : Event, e.getLsbD f.bit = true ↔ s.latched f = true ∨ f = .laneChanged ∧ ∃ i : LaneId, (s.lane i).state ≠ .off := by
  have key (xs : List LaneId) (s : State) : ∃ v e,
      xs.foldl (fun s i => if (s.lane i).state = .off then s.modLane i Lane.toIdle else raise .laneChanged (s.modLane i Lane.toIdle)) s =
        { s with lanes := v, port := { s.port with events := e } } ∧
      (∀ i : LaneId, v[i.val] = if i ∈ xs then (s.lane i).toIdle else s.lane i) ∧
      ∀ f : Event, e.getLsbD f.bit = true ↔ s.latched f = true ∨ f = .laneChanged ∧ ∃ i ∈ xs, (s.lane i).state ≠ .off := by
    induction xs generalizing s with
    | nil => exact ⟨s.lanes, s.port.events, rfl, by simp [State.lane], by simp [State.latched]⟩
    | cons j xs ih =>
      have hlane (i : LaneId) : (s.modLane j Lane.toIdle).lane i = if i = j then (s.lane i).toIdle else s.lane i := by
        by_cases hi : i = j
        · rw [hi, lane_modLane_same, if_pos rfl]
        · rw [lane_modLane_other j i _ _ hi, if_neg hi]
      have hstep : ∃ b : Bool, (if (s.lane j).state = .off then s.modLane j Lane.toIdle else raise .laneChanged (s.modLane j Lane.toIdle)) =
          (if b then raise .laneChanged (s.modLane j Lane.toIdle) else s.modLane j Lane.toIdle) ∧ (b = true ↔ (s.lane j).state ≠ .off) := by
        by_cases hj : (s.lane j).state = .off
        · exact ⟨false, by simp [hj], by simp [hj]⟩
        · exact ⟨true, by simp [hj], by simp [hj]⟩
      obtain ⟨b, hb, hoff⟩ := hstep
      obtain ⟨v, e, he, hv, hevents⟩ := ih (if b then raise .laneChanged (s.modLane j Lane.toIdle) else s.modLane j Lane.toIdle)
      have hlane' (i : LaneId) : (if b then raise .laneChanged (s.modLane j Lane.toIdle) else s.modLane j Lane.toIdle).lane i =
          if i = j then (s.lane i).toIdle else s.lane i := by
        rw [← hlane i]
        cases b <;> rfl
      refine ⟨v, e, ?_, fun i => ?_, fun f => ?_⟩
      · rw [List.foldl_cons, hb, he]
        cases b <;> rfl
      · rw [hv i, hlane' i]
        by_cases hi : i = j
        · simp [hi, Lane.toIdle]
        · simp [hi]
      · have hlatched : (if b then raise .laneChanged (s.modLane j Lane.toIdle) else s.modLane j Lane.toIdle).latched f = true ↔
            s.latched f = true ∨ b = true ∧ f = .laneChanged := by
          cases b
          · simp [State.latched]
          · simp [State.latched]
        have htoIdle : ∀ l : Lane, l.toIdle.state = .off := fun _ => rfl
        have hrest : (∃ i ∈ xs, ((if b then raise .laneChanged (s.modLane j Lane.toIdle) else s.modLane j Lane.toIdle).lane i).state ≠ .off) ↔
            ∃ i ∈ xs, i ≠ j ∧ (s.lane i).state ≠ .off := by
          refine exists_congr fun i => and_congr_right fun _ => ?_
          rw [hlane' i]
          by_cases hi : i = j <;> simp [hi, htoIdle]
        rw [hevents, hlatched, hrest, hoff]
        constructor
        · rintro ((h | ⟨hj, hf⟩) | ⟨hf, i, hi, -, h⟩)
          exacts [.inl h, .inr ⟨hf, j, List.mem_cons_self, hj⟩, .inr ⟨hf, i, List.mem_cons_of_mem _ hi, h⟩]
        · rintro (h | ⟨hf, i, hi, h⟩)
          · exact .inl (.inl h)
          by_cases hij : i = j
          · exact .inl (.inr ⟨hij ▸ h, hf⟩)
          · exact .inr ⟨hf, i, (List.mem_cons.1 hi).resolve_left hij, hij, h⟩
  obtain ⟨v, e, he, hv, hevents⟩ := key allLanes s
  refine ⟨v, e, he, fun i => ?_, fun f => ?_⟩
  · rw [hv i, if_pos (mem_allLanes i)]
  · rw [hevents f]
    simp [mem_allLanes]

/-- The two returns to IDLE, block by block (R8, R24, R46, R54, R86, R131). -/
theorem returnToIdle_frame (s : State) : ∃ v e, returnToIdle s = { s with
      pos := { s.pos with breakMarking := false, overspeed := false }, lanes := v,
      tracker := { s.tracker with tables := Vector.replicate 8 FlawTable.empty, frontier := 0, outgoing := none, apply := .none },
      map := { MapUnit.initial with nextId := s.map.nextId }, planner := { s.planner with yPrev := 0, lastCut := none },
      port := { s.port with mode := .idle, events := e } } ∧
    (∀ i : LaneId, v[i.val] = (s.lane i).toIdle) ∧
    ∀ f : Event, e.getLsbD f.bit = true ↔
      (s.latched f = true ∨ f = .modeChanged) ∨ f = .laneChanged ∧ ∃ i : LaneId, (s.lane i).state ≠ .off := by
  obtain ⟨v, e, he, hv, hevents⟩ := lanesToIdle_frame (markingToIdle (setMode .idle s))
  refine ⟨v, e, ?_, hv, fun f => ?_⟩
  · rw [returnToIdle, he]
    simp [plannerToIdle, mapToIdle, trackerToIdle, markingToIdle, State.modPos, State.modPlanner, State.modMap, State.modTracker, setMode,
      raise, State.modPort, Mode.cutting]
  · rw [hevents f]
    have h : (markingToIdle (setMode .idle s)).latched f = (setMode .idle s).latched f := rfl
    have hlanes (i : LaneId) : (markingToIdle (setMode .idle s)).lane i = s.lane i := rfl
    simp only [h, hlanes, latched_setMode, Bool.or_eq_true, decide_eq_true_eq]

/-- R64: STOP INSPECT with a pending switch. -/
theorem completeApply_waiting {s : State} {d : DetectionSet} {l n : Nat} (hr : s.ctl.resetting = false)
    (h : s.tracker.apply = .waiting d l)
    (hd : s.port.delayed.find? (fun e => e.kind == .applyDetection) = some ⟨.applyDetection, n⟩) :
    completeApply s = { s with
      tracker := { s.tracker with active := some d, apply := .none },
      port := { s.port with delayed := s.port.delayed.filter fun e => e.kind != .applyDetection },
      out := { s.out with replies := s.out.replies ++ [⟨32801, n, .ok, .switchLine l⟩] } } := by
  simp only [completeApply, h]
  exact answerDelayed_some (s := s.modTracker fun t => { t with active := some d, apply := .none }) hr hd

/-- STOP INSPECT leaves all but the active set, the switch, the delayed list and the replies to the return to IDLE. -/
theorem completeApply_frame (s : State) : ∃ a x d o, completeApply s = { s with
      tracker := { s.tracker with active := a, apply := x }, port := { s.port with delayed := d }, out := { s.out with replies := o } } ∧
    ((∀ d l, s.tracker.apply ≠ .waiting d l) → a = s.tracker.active ∧ d = s.port.delayed ∧ o = s.out.replies) := by
  unfold completeApply
  split
  · rename_i set l h
    obtain ⟨d, o, he, -⟩ := answerDelayed_frame .applyDetection .ok (.switchLine l)
      (s.modTracker fun t => { t with active := some set, apply := .none })
    exact ⟨some set, .none, d, o, he, fun hn => absurd h (hn _ _)⟩
  · exact ⟨_, _, _, _, rfl, fun _ => ⟨rfl, rfl, rfl⟩⟩
  · exact ⟨_, _, _, _, rfl, fun _ => ⟨rfl, rfl, rfl⟩⟩

theorem emptyTables_get (i : LaneId) : (Vector.replicate 8 FlawTable.empty)[i.val] = ⟨[], []⟩ := Vector.getElem_replicate ..

/-- Settles O10. -/
theorem stopInspectReturnsToIdle : Obligations.StopInspectReturnsToIdle := by
  intro s tag hl hm
  obtain ⟨a, x, d, o, happly, hnone⟩ := completeApply_frame s
  obtain ⟨v, e, hidle, hv, hevents⟩ := returnToIdle_frame (completeApply s)
  have hstop : stopInspect s = _ := hidle
  refine ⟨(stopInspect s).answered .stopInspect tag .ok .empty, ?_, ?_⟩
  · rw [exec_taken hl rfl (by simp [takenIn, State.mode, hm]), answer_ok]
  rw [hstop]
  have hraised (f : Event) : (s.latched f = true ∨ f = .modeChanged) ∨ f = .laneChanged ∧ (∃ i : LaneId, (s.lane i).state ≠ .off) →
      e.getLsbD f.bit = true := by
    intro h
    rw [hevents f, happly]
    exact h
  rw [happly] at hv
  refine ⟨rfl, hraised _ (.inl (.inr rfl)), ?_, hv, fun h => hraised _ (.inr ⟨rfl, h⟩), emptyTables_get, rfl, rfl, rfl, ?_⟩
  · rw [happly]
    rfl
  refine ⟨?_, ?_, ?_, ?_, ?_, ?_, ?_, ?_, ?_, ?_, fun hn => ?_, fun d l n h hd => ?_⟩
  any_goals
    rw [happly]
    rfl
  · obtain ⟨rfl, rfl, rfl⟩ := hnone hn
    rw [happly]
    exact ⟨rfl, rfl, rfl⟩
  · rw [completeApply_waiting hl.2.1 h hd]
    exact ⟨rfl, rfl, by simp [State.answered, Request.code]⟩

/-! ### The line reset -/

/-- R193: the line reset before a held capability is evaluated. -/
def lineCleared (s : State) : State := clearAgreement (cancelDelayed (ordersReset (returnToIdle (cancelApply s))))

theorem lineReset_eq (s : State) : lineReset s = evaluateHeld (lineCleared s) := rfl

theorem cancelApply_frame (s : State) : ∃ x f, cancelApply s = { s with tracker := { s.tracker with apply := x, stagedFlag := f } } ∧
    (f = true ↔ s.tracker.stagedFlag = true ∨ ∃ d l, s.tracker.apply = .waiting d l) := by
  unfold cancelApply
  split
  · rename_i d l h
    exact ⟨.none, true, rfl, by simp [h]⟩
  · rename_i h
    exact ⟨_, _, rfl, by simp [h]⟩
  · rename_i h
    exact ⟨_, _, rfl, by simp [h]⟩

theorem dropAgreement_frame (s : State) : ∃ e, dropAgreement s =
      { s with cutter := { s.cutter with agreement := none }, port := { s.port with events := e } } ∧
    ∀ f : Event, e.getLsbD f.bit = true ↔ s.latched f = true ∨ f = .agreementChanged ∧ s.cutter.agreement ≠ none := by
  unfold dropAgreement
  split
  · rename_i h
    refine ⟨s.port.events, ?_, by simp [h, State.latched]⟩
    rw [← h]
  · rename_i h
    exact ⟨_, rfl, by simp [h, State.latched]⟩

theorem cancelDelayed_frame (s : State) : ∃ d o, cancelDelayed s =
      { s with port := { s.port with delayed := d }, out := { s.out with replies := o } } ∧
    (s.ctl.resetting = false → d = s.port.delayed.filter (fun d => !d.cancels) ∧
      o = s.out.replies ++ (s.port.delayed.filter Delayed.cancels).map Delayed.cancelledReply) := by
  by_cases h : s.ctl.resetting = true
  · exact ⟨_, _, cancelDelayed_resetting h, fun hr => by simp [h] at hr⟩
  · exact ⟨_, _, cancelDelayed_eq (by simpa using h), fun _ => ⟨rfl, rfl⟩⟩

/-- The orders after a line reset (R102). -/
def OrderUnit.restarted (u : OrderUnit) : OrderUnit :=
  { u with
    queue := (u.queue.filter fun o => o.state != .queued).map (fun o => { o with state := .queued }) ++
      u.queue.filter fun o => !(o.state != .queued)
    exhausted := false }

theorem clearAgreement_frame (s : State) : ∃ e, clearAgreement s = { s with
      cutter := { s.cutter with agreement := none }, port := { s.port with events := e },
      fault := { s.fault with before := s.fault.before.map fun b =>
        { b with unseenLoss := s.cutter.agreement.isSome && s.cutter.held.isNone } } } ∧
    ∀ f : Event, e.getLsbD f.bit = true ↔ s.latched f = true ∨ f = .agreementChanged ∧ s.cutter.agreement ≠ none := by
  obtain ⟨e, he, hf⟩ := dropAgreement_frame (setUnseenLoss (s.cutter.agreement.isSome && s.cutter.held.isNone) s)
  exact ⟨e, he, hf⟩

/-- Table 10-5, but for a held capability: the line reset block by block. -/
theorem lineCleared_frame (s : State) : ∃ v e f b d o, lineCleared s = { s with
      pos := { s.pos with breakMarking := false, overspeed := false }, lanes := v,
      tracker := { s.tracker with
        tables := Vector.replicate 8 FlawTable.empty, frontier := 0, outgoing := none, apply := .none, stagedFlag := f },
      map := { MapUnit.initial with nextId := s.map.nextId }, orders := s.orders.restarted,
      planner := { s.planner with yPrev := 0, lastCut := none }, cutter := { s.cutter with agreement := none },
      fault := { s.fault with before := b }, port := { s.port with mode := .idle, events := e, delayed := d },
      out := { s.out with replies := o } } ∧
    (∀ i : LaneId, v[i.val] = (s.lane i).toIdle) ∧
    (∀ g : Event, e.getLsbD g.bit = true ↔ s.latched g = true ∨ g = .modeChanged ∨
      (g = .laneChanged ∧ ∃ i : LaneId, (s.lane i).state ≠ .off) ∨ (g = .agreementChanged ∧ s.cutter.agreement ≠ none)) ∧
    (f = true ↔ s.tracker.stagedFlag = true ∨ ∃ d l, s.tracker.apply = .waiting d l) ∧
    b = s.fault.before.map (fun b => { b with unseenLoss := s.cutter.agreement.isSome && s.cutter.held.isNone }) ∧
    (s.ctl.resetting = false → d = s.port.delayed.filter (fun d => !d.cancels) ∧
      o = s.out.replies ++ (s.port.delayed.filter Delayed.cancels).map Delayed.cancelledReply) := by
  obtain ⟨x, f, happly, hf⟩ := cancelApply_frame s
  obtain ⟨v, e, hidle, hv, hevents⟩ := returnToIdle_frame (cancelApply s)
  obtain ⟨d, o, hcancel, hd⟩ := cancelDelayed_frame (ordersReset (returnToIdle (cancelApply s)))
  obtain ⟨e', hclear, he'⟩ := clearAgreement_frame (cancelDelayed (ordersReset (returnToIdle (cancelApply s))))
  have hcutter : (cancelDelayed (ordersReset (returnToIdle (cancelApply s)))).cutter = s.cutter := by
    rw [hcancel, hidle, happly]
    rfl
  have hlatched (g : Event) : (cancelDelayed (ordersReset (returnToIdle (cancelApply s)))).latched g = e.getLsbD g.bit := by
    rw [hcancel, hidle]
    rfl
  have hlane (i : LaneId) : (cancelApply s).lane i = s.lane i := by
    rw [happly]
    rfl
  have hbefore (g : Event) : (cancelApply s).latched g = s.latched g := by
    rw [happly]
    rfl
  refine ⟨v, e', f, _, d, o, ?_, fun i => (hv i).trans (by rw [hlane i]), fun g => ?_, hf, rfl, fun hr => ?_⟩
  · rw [lineCleared, hclear, hcutter, hcancel, hidle, happly]
    rfl
  · rw [he' g, hlatched, hcutter, hevents g, hbefore]
    simp only [hlane, or_assoc]
  · have h := hd (by rw [hidle, happly]; exact hr)
    rw [hidle, happly] at h
    exact h

/-! ### The evaluation of a capability apart from the Fault Unit, the event set and the replies -/

/-- A change of the Fault Unit, more events and more replies. -/
def touched (g : FaultUnit → FaultUnit) (w : BitVec 16) (rs : List Reply) (s : State) : State :=
  { s with fault := g s.fault, port := { s.port with events := s.port.events ||| w }, out := { s.out with replies := s.out.replies ++ rs } }

section
variable (g : FaultUnit → FaultUnit) (w : BitVec 16) (rs : List Reply) (s : State)

theorem raise_touched (e : Event) : raise e (touched g w rs s) = touched g w rs (raise e s) := by
  have h : s.port.events ||| w ||| e.single = s.port.events ||| e.single ||| w := by
    rw [BitVec.or_assoc, BitVec.or_comm w, BitVec.or_assoc]
  simp only [raise, touched, State.modPort, h]

theorem testRoom_touched : testRoom (touched g w rs s) = touched g w rs (testRoom s) := by
  unfold testRoom
  change (if s.planner.planning.testing then _ else _) = _
  split <;> rfl

theorem finishOrder_touched (o : Order) (c : OrderOutcome) :
    finishOrder o c (touched g w rs s) = touched g w rs (finishOrder o c s) := by
  unfold finishOrder
  rw [← raise_touched]
  rfl

theorem testFinish_touched (id : Nat) : testFinish id (touched g w rs s) = touched g w rs (testFinish id s) := by
  have hfind : (touched g w rs s).findOrder id = s.findOrder id := rfl
  have hcount : (touched g w rs s).recordsOf id = s.recordsOf id := rfl
  unfold testFinish
  rw [hfind, hcount]
  split
  · rfl
  split
  · exact finishOrder_touched ..
  · rfl

theorem endOrder_touched (id : Nat) : endOrder id (touched g w rs s) = touched g w rs (endOrder id s) := by
  have h : modOrder id (fun o => { o with state := .ending }) (touched g w rs s) =
    touched g w rs (modOrder id (fun o => { o with state := .ending }) s) := rfl
  rw [endOrder, h, testFinish_touched, testRoom_touched, endOrder]

theorem failQueued_touched (o : Order) : failQueued o (touched g w rs s) = touched g w rs (failQueued o s) := by
  unfold failQueued
  change (if s.recordsOf o.id = 0 then _ else _) = _
  split
  · exact finishOrder_touched ..
  · exact raise_touched g w rs (modOrder o.id (fun q => { q with state := .ending }) s) .orderWithdrawn

theorem makeActive_touched (o : Order) : makeActive o (touched g w rs s) = touched g w rs (makeActive o s) := by
  unfold makeActive
  rw [← testRoom_touched, ← raise_touched]
  rfl

theorem activateUpTo_touched (n : Nat) : activateUpTo n (touched g w rs s) = touched g w rs (activateUpTo n s) := by
  induction n generalizing s with
  | zero => rfl
  | succ n ih =>
    have hactive : (touched g w rs s).activeOrder = s.activeOrder := rfl
    have holdest : (touched g w rs s).oldestQueued = s.oldestQueued := rfl
    have hfit (o : Order) : (touched g w rs s).fitCheck o = s.fitCheck o := rfl
    have hmode : (touched g w rs s).mode = s.mode := rfl
    unfold activateUpTo
    simp only [hactive, holdest, hfit, hmode]
    split
    · rfl
    split
    · rfl
    split
    · rw [failQueued_touched, ih]
    split
    · rw [makeActive_touched, endOrder_touched, ih]
    · exact makeActive_touched ..

theorem activateNext_touched : activateNext (touched g w rs s) = touched g w rs (activateNext s) := activateUpTo_touched ..

theorem fitOrder_touched (id : Nat) : fitOrder (touched g w rs s) id = touched g w rs (fitOrder s id) := by
  have hfind : (touched g w rs s).findOrder id = s.findOrder id := rfl
  have hfit (o : Order) : (touched g w rs s).fitCheck o = s.fitCheck o := rfl
  unfold fitOrder
  simp only [hfind, hfit]
  split
  · rfl
  split
  · rfl
  split
  · exact failQueued_touched ..
  · rw [raise_touched, endOrder_touched, activateNext_touched]
  · rfl

theorem fitChecks_touched : fitChecks (touched g w rs s) = touched g w rs (fitChecks s) := by
  unfold fitChecks
  change (s.orders.queue.map Order.id).foldl fitOrder (touched g w rs s) = _
  generalize s.orders.queue.map Order.id = ids
  induction ids generalizing s with
  | nil => rfl
  | cons id ids ih => rw [List.foldl_cons, List.foldl_cons, fitOrder_touched, ih]

theorem dropAgreement_touched : dropAgreement (touched g w rs s) = touched g w rs (dropAgreement s) := by
  unfold dropAgreement
  change (match s.cutter.agreement with | none => _ | some _ => _) = _
  cases s.cutter.agreement with
  | none => rfl
  | some a => exact raise_touched g w rs (s.modCutter fun u => { u with agreement := none }) .agreementChanged

theorem agree_touched (c : Capability) : agree c (touched g w rs s) = touched g w rs (agree c s) := by
  unfold agree
  rw [← testRoom_touched, ← fitChecks_touched, ← raise_touched]
  rfl

theorem decline_touched (r : DeclineReason) (c : Capability) : decline r c (touched g w rs s) = touched g w rs (decline r c s) := by
  unfold decline
  rw [← dropAgreement_touched]
  cases r <;> rfl

/-- R154: an evaluation neither reads nor writes what `touched` changes. -/
theorem evaluate_touched (ready : Bool) (c : Capability) :
    evaluate ready c (touched g w rs s) = touched g w rs (evaluate ready c s) := by
  have h : (touched g w rs s).declineReason ready c = s.declineReason ready c := rfl
  unfold evaluate
  rw [h]
  split
  · exact agree_touched ..
  · exact decline_touched ..

end

/-- What commutes with the raising of events keeps every latched event. -/
theorem latched_of_touched {f : State → State} (hf : ∀ (w : BitVec 16) (s : State), f (touched id w [] s) = touched id w [] (f s))
    {s : State} {e : Event} (h : s.latched e = true) : (f s).latched e = true := by
  have hor : s.port.events ||| e.single = s.port.events := by
    ext i hi
    rw [BitVec.getElem_or]
    by_cases hb : i = e.bit
    · subst hb
      have : s.port.events[e.bit] = true := by simpa [State.latched, BitVec.getLsbD_eq_getElem hi] using h
      simp [this]
    · have : e.single[i] = false := by
        simp only [Event.single, BitVec.getElem_shiftLeft]
        by_cases hlt : i < e.bit
        · simp [hlt]
        · have : i - e.bit ≠ 0 := by omega
          simp [hlt, this]
      simp [this]
  have htouch : touched id e.single [] s = s := by simp [touched, hor]
  rw [← htouch, hf]
  simp [touched, State.latched]

/-- An evaluation keeps every latched event. -/
theorem evaluate_latched (ready : Bool) (c : Capability) (s : State) (e : Event) (h : s.latched e = true) :
    (evaluate ready c s).latched e = true :=
  latched_of_touched (f := evaluate ready c) (fun w s => evaluate_touched id w [] s ready c) h

/-- R156: the DECLINE of a capability. -/
def State.declineRecord (s : State) (r : DeclineReason) (c : Capability) : CutterRecord :=
  match r with
  | .notReady | .range => .decline r 0 0 0
  | .minCull | .travel | .destinations => .decline r (s.terms c).speed (s.terms c).cMin (s.terms c).lead

theorem decline_eq (r : DeclineReason) (c : Capability) (s : State) :
    decline r c s = dropAgreement (sendRecord (s.declineRecord r c) (s.modCutter fun u => { u with lastDecline := some r })) := by
  cases r <;> rfl

/-- What an evaluation leaves. -/
theorem evaluate_frame (ready : Bool) (c : Capability) (s : State) : ∃ u p x a d e o, evaluate ready c s = { s with
    orders := u, planner := { s.planner with planning := p }, report := { s.report with shift := x },
    cutter := { s.cutter with agreement := a, lastDecline := d }, port := { s.port with events := e },
    out := { s.out with cutter := o } } := by
  unfold evaluate
  split
  · obtain ⟨u, p, v, x, h, -⟩ := (fitChecks_ordersOnly (raise .agreementChanged
      (sendRecord (.agree (s.terms c).speed (s.terms c).cMin (s.terms c).lead c.across c.destinations)
        (s.modCutter fun u => { u with agreement := some (s.terms c), lastDecline := none })))).trans (testRoom_ordersOnly _)
    exact ⟨u, p, x, some (s.terms c), none, v, _, h⟩
  · rename_i r _
    obtain ⟨e, h, -⟩ := dropAgreement_frame
      (sendRecord (s.declineRecord r c) (s.modCutter fun u => { u with lastDecline := some r }))
    rw [decline_eq]
    exact ⟨s.orders, s.planner.planning, s.report.shift, none, some r, e, _, h⟩

/-! ### The line reset with and without a held capability -/

theorem lineReset_noneHeld {s : State} (h : s.cutter.held = none) : lineReset s = lineCleared s := by
  obtain ⟨v, e, f, b, d, o, he, -⟩ := lineCleared_frame s
  have hheld : (lineCleared s).cutter.held = none := by
    rw [he]
    exact h
  rw [lineReset_eq, evaluateHeld, hheld]

/-- The state without its held capability. -/
def State.unheld (s : State) : State := { s with cutter := { s.cutter with held := none } }

theorem State.unheld_latched (s : State) (e : Event) : s.unheld.latched e = s.latched e := rfl

theorem lineReset_held {s : State} {c : Capability} (h : s.cutter.held = some c) :
    lineReset s = evaluate s.cutter.ready c (lineCleared s).unheld := by
  obtain ⟨v, e, f, b, d, o, he, -⟩ := lineCleared_frame s
  have hheld : (lineCleared s).cutter.held = some c := by
    rw [he]
    exact h
  have hready : (lineCleared s).cutter.ready = s.cutter.ready := by rw [he]
  rw [lineReset_eq, evaluateHeld, hheld]
  dsimp only
  rw [hready]
  rfl

theorem cancelApply_unheld (s : State) : cancelApply s.unheld = (cancelApply s).unheld := by
  unfold cancelApply
  change (match s.tracker.apply with | .waiting _ _ => _ | .none => _ | .switched _ => _) = _
  cases s.tracker.apply <;> rfl

/-- R24: one lane on the return to IDLE. -/
def laneIdled (i : LaneId) (s : State) : State :=
  if (s.lane i).state = .off then s.modLane i Lane.toIdle else raise .laneChanged (s.modLane i Lane.toIdle)

theorem lanesToIdle_eq (s : State) : lanesToIdle s = allLanes.foldl (fun s i => laneIdled i s) s := rfl

theorem laneIdled_unheld (i : LaneId) (s : State) : laneIdled i s.unheld = (laneIdled i s).unheld := by
  unfold laneIdled
  change (if (s.lane i).state = .off then _ else _) = _
  split <;> rfl

theorem lanesToIdle_unheld (s : State) : lanesToIdle s.unheld = (lanesToIdle s).unheld := by
  rw [lanesToIdle_eq, lanesToIdle_eq]
  generalize allLanes = xs
  induction xs generalizing s with
  | nil => rfl
  | cons i xs ih => rw [List.foldl_cons, List.foldl_cons, laneIdled_unheld, ih]

theorem returnToIdle_unheld (s : State) : returnToIdle s.unheld = (returnToIdle s).unheld := by
  have h : markingToIdle (setMode .idle s.unheld) = (markingToIdle (setMode .idle s)).unheld := rfl
  rw [returnToIdle, returnToIdle, h, lanesToIdle_unheld]
  generalize lanesToIdle _ = t
  rfl

theorem cancelDelayed_unheld (s : State) : cancelDelayed s.unheld = (cancelDelayed s).unheld := by
  by_cases h : s.ctl.resetting = true
  · rw [cancelDelayed_resetting h, cancelDelayed_resetting (s := s.unheld) h]
  · have h' : s.ctl.resetting = false := by simpa using h
    rw [cancelDelayed_eq h', cancelDelayed_eq (s := s.unheld) h']
    rfl

theorem ordersReset_unheld (s : State) : ordersReset s.unheld = (ordersReset s).unheld := rfl

/-- A held capability matters to the rest of a line reset only for what a late unit sees (log 7). -/
theorem lineCleared_unheld (s : State) : setUnseenLoss false (lineCleared s.unheld) = setUnseenLoss false (lineCleared s).unheld := by
  have h (t : State) : clearAgreement t = dropAgreement (setUnseenLoss (t.cutter.agreement.isSome && t.cutter.held.isNone) t) := rfl
  have hpre : cancelDelayed (ordersReset (returnToIdle (cancelApply s.unheld))) =
      (cancelDelayed (ordersReset (returnToIdle (cancelApply s)))).unheld := by
    rw [cancelApply_unheld, returnToIdle_unheld, ordersReset_unheld, cancelDelayed_unheld]
  rw [lineCleared, lineCleared, hpre]
  generalize cancelDelayed (ordersReset (returnToIdle (cancelApply s))) = t
  rw [h, h]
  unfold dropAgreement
  cases ha : t.cutter.agreement <;> simp [State.unheld, setUnseenLoss, ha, State.modFault, State.modCutter, raise, State.modPort, Function.comp_def]

/-- What a line reset leaves, a held capability or not. -/
structure LineResetOf (s t : State) : Prop where
  mode : t.port.mode = .idle
  raised : t.latched .modeChanged = true
  latched : ∀ e, s.latched e = true → t.latched e = true
  slot : t.fault.slot = s.fault.slot
  number : t.fault.nextNumber = s.fault.nextNumber
  tracker : t.tracker.frontier = 0
  noSwitch : t.tracker.apply = .none
  map : t.map = { MapUnit.initial with nextId := s.map.nextId }
  held : t.cutter.held = none
  ctl : t.ctl = s.ctl
  delayed : s.ctl.resetting = false → t.port.delayed = s.port.delayed.filter (fun d => !d.cancels) ∧
    t.out.replies = s.out.replies ++ (s.port.delayed.filter Delayed.cancels).map Delayed.cancelledReply

theorem lineReset_lineResetOf (s : State) : LineResetOf s (lineReset s) := by
  obtain ⟨v, e, f, b, d, o, he, -, hevents, -, -, hd⟩ := lineCleared_frame s
  have hlatched (g : Event) (hg : s.latched g = true ∨ g = .modeChanged) : (lineCleared s).latched g = true := by
    rw [he]
    exact (hevents g).2 (hg.elim .inl fun hg => .inr (.inl hg))
  cases hheld : s.cutter.held with
  | none =>
    rw [lineReset_noneHeld hheld]
    refine ⟨?_, hlatched _ (.inr rfl), fun g hg => hlatched g (.inl hg), ?_, ?_, ?_, ?_, ?_, ?_, ?_, fun hr => ?_⟩ <;> rw [he]
    exacts [hheld, hd hr]
  | some c =>
    rw [lineReset_held hheld]
    obtain ⟨u, p, x, a, k, e', o', heval⟩ := evaluate_frame s.cutter.ready c (lineCleared s).unheld
    have hlatched' (g : Event) (hg : s.latched g = true ∨ g = .modeChanged) :
        (evaluate s.cutter.ready c (lineCleared s).unheld).latched g = true := by
      refine evaluate_latched _ _ _ _ ?_
      rw [State.unheld_latched]
      exact hlatched g hg
    refine ⟨?_, hlatched' _ (.inr rfl), fun g hg => hlatched' g (.inl hg), ?_, ?_, ?_, ?_, ?_, ?_, ?_, fun hr => ?_⟩ <;>
      rw [heval, he]
    exacts [rfl, rfl, rfl, rfl, rfl, rfl, rfl, rfl, hd hr]

/-- Settles O54. -/
theorem clearFaultByTheSlot : Obligations.ClearFaultByTheSlot := by
  intro s tag n hl
  have hfilter : (fun d : Delayed => decide (d.kind ≠ .stopProduction ∧ d.kind ≠ .applyDetection)) = fun d => !d.cancels := by
    funext d
    simp [Delayed.cancels, beq_eq_decide]
  have hcancels : (fun d : Delayed => decide (d.kind = .stopProduction ∨ d.kind = .applyDetection)) = Delayed.cancels := by
    funext d
    simp [Delayed.cancels, beq_eq_decide]
  refine ⟨fun h => exec_refused hl rfl rfl ?_, fun r hr hn => ?_, fun r hr hn => ?_⟩
  · rcases h with h | ⟨r, h | h, hn⟩
    · simp [clearFaultBody, h]
    · simp [clearFaultBody, h, hn]
    · simp [clearFaultBody, h, hn]
  · rw [exec_taken hl rfl rfl, clearFaultBody, hr]
    dsimp only
    rw [if_pos hn, answer_ok]
    rfl
  · have h := lineReset_lineResetOf s
    obtain ⟨hdelayed, hreplies⟩ := h.delayed hl.2.1
    have hexec : exec (.clearFault tag (.fields n)) s = .next ((emptySlot (lineReset s)).answered .clearFault tag .ok .empty) := by
      rw [exec_taken hl rfl rfl, clearFaultBody, hr]
      dsimp only
      rw [if_pos hn, answer_ok]
    generalize lineReset s = t at h hexec hdelayed hreplies
    refine ⟨_, hexec, h.mode, rfl, h.number, h.raised, ?_, ?_⟩
    · rw [hfilter]
      exact hdelayed
    · rw [hcancels]
      exact congrArg (· ++ [_]) hreplies

/-! ### A held capability at the line reset (R159) -/

theorem takeCapability_idle {s : State} (h : s.ctl.held = false) (hm : s.port.mode = .idle) (c : Capability) :
    takeCapability c false s = evaluate s.cutter.ready c (setUnseenLoss false s) := by
  have hseen : seenMode false s = .idle := by simp [seenMode, State.mode, hm]
  unfold takeCapability
  simp only [h, hseen, Mode.cutting, Bool.and_false, Bool.false_eq_true, if_false, reduceCtorEq]

/-- A capability held at a line reset is evaluated as one that arrives in IDLE right after it. -/
theorem takeCapability_lineReset {s : State} {c : Capability} (hheld : s.cutter.held = some c) (hctl : s.ctl.held = false)
    (slot : FaultSlot) (rs : List Reply) :
    takeCapability c false (touched (fun f => { f with slot := slot }) 0#16 rs (lineReset s.unheld)) =
      touched (fun f => { f with slot := slot }) 0#16 rs (lineReset s) := by
  have hunseen : setUnseenLoss false (lineCleared s).unheld = (lineCleared s).unheld := by
    obtain ⟨v, e, f, b, d, o, he, -, -, -, hb, -⟩ := lineCleared_frame s
    rw [he, hb, hheld]
    cases s.fault.before <;> simp [setUnseenLoss, State.unheld, State.modFault]
  have hunheld : s.unheld.cutter.held = none := rfl
  have hfacts : (lineCleared s.unheld).ctl.held = false ∧ (lineCleared s.unheld).port.mode = .idle ∧
      (lineCleared s.unheld).cutter.ready = s.cutter.ready := by
    obtain ⟨v, e, f, b, d, o, he, -⟩ := lineCleared_frame s.unheld
    rw [he]
    exact ⟨hctl, rfl, rfl⟩
  obtain ⟨hheld', hmode, hready⟩ := hfacts
  rw [lineReset_noneHeld hunheld, lineReset_held hheld, ← evaluate_touched, ← hunseen, ← lineCleared_unheld]
  generalize lineCleared s.unheld = t at hheld' hmode hready
  rw [takeCapability_idle (s := touched (fun f => { f with slot := slot }) 0#16 rs t) hheld' hmode, ← hready]
  rfl

theorem evaluate_agreement (ready : Bool) (c : Capability) (s : State) :
    ((evaluate ready c s).cutter.agreement = none ∨ (evaluate ready c s).cutter.agreement = some (s.terms c)) ∧
    (ready = false → (evaluate ready c s).cutter.agreement = none ∧ (evaluate ready c s).cutter.lastDecline = some .notReady) := by
  have hdecline (r : DeclineReason) : (decline r c s).cutter.agreement = none ∧ (decline r c s).cutter.lastDecline = some r := by
    rw [decline_eq]
    obtain ⟨e, h, -⟩ := dropAgreement_frame (sendRecord (s.declineRecord r c) (s.modCutter fun u => { u with lastDecline := some r }))
    rw [h]
    exact ⟨rfl, rfl⟩
  cases hr : s.declineReason ready c with
  | none =>
    have hnot : ready ≠ false := by
      rintro rfl
      simp [State.declineReason] at hr
    refine ⟨.inr ?_, fun h => absurd h hnot⟩
    simp only [evaluate, hr]
    obtain ⟨u, p, v, x, h, -⟩ := (fitChecks_ordersOnly (raise .agreementChanged
      (sendRecord (.agree (s.terms c).speed (s.terms c).cMin (s.terms c).lead c.across c.destinations)
        (s.modCutter fun u => { u with agreement := some (s.terms c), lastDecline := none })))).trans (testRoom_ordersOnly _)
    exact congrArg (fun t : State => t.cutter.agreement) h
  | some r =>
    simp only [evaluate, hr]
    refine ⟨.inl (hdecline r).1, ?_⟩
    rintro rfl
    obtain rfl : r = .notReady := by simpa [State.declineReason] using hr.symm
    exact hdecline .notReady

/-- CLEAR FAULT with the number of a HALT HELD record. -/
theorem exec_clearFault_haltHeld {s : State} {tag : Nat} {r : FaultRecord} (hl : Listens s tag) (hr : s.fault.slot = .haltHeld r) :
    exec (.clearFault tag (.fields r.number)) s = .next ((emptySlot (lineReset s)).answered .clearFault tag .ok .empty) := by
  rw [exec_taken hl rfl rfl, clearFaultBody, hr]
  dsimp only
  rw [if_pos rfl, answer_ok]

theorem emptySlot_answered (s : State) (tag : Nat) : (emptySlot s).answered .clearFault tag .ok .empty =
    touched (fun f => { f with slot := .empty }) 0#16 [⟨32914, tag, .ok, .empty⟩] s := by
  simp [emptySlot, State.modFault, State.answered, touched, Request.code]

/-- Settles O55. -/
theorem lineResetClearsTable10_5 : Obligations.LineResetClearsTable10_5 := by
  refine ⟨fun s tag r hl hr hheld => ?_, fun s tag r c hl hr hheld => ?_⟩
  · obtain ⟨v, e, f, b, d, o, he, hv, hevents, hflag, -, -⟩ := lineCleared_frame s
    refine ⟨_, exec_clearFault_haltHeld hl hr, ?_⟩
    rw [lineReset_noneHeld hheld, he]
    refine ⟨rfl, hv, emptyTables_get, rfl, rfl, rfl, rfl, rfl, rfl, hflag, rfl, ?_, rfl, rfl, ?_, rfl, rfl, rfl, rfl, rfl,
      fun g hg => (hevents g).2 (.inl hg)⟩
    · have hne : (fun o : Order => decide (o.state ≠ .queued)) = fun o => o.state != .queued := by
        funext o
        simp [bne, beq_eq_decide]
      have heq : (fun o : Order => decide (o.state = .queued)) = fun o => !(o.state != .queued) := by
        funext o
        simp [bne, beq_eq_decide]
      rw [hne, heq]
      rfl
    · refine (hevents .agreementChanged).trans ?_
      simp
  · have hu : exec (.clearFault tag (.fields r.number)) s.unheld =
        .next (touched (fun f => { f with slot := .empty }) 0#16 [⟨32914, tag, .ok, .empty⟩] (lineReset s.unheld)) := by
      rw [exec_clearFault_haltHeld (s := s.unheld) hl hr, emptySlot_answered]
    have ht : exec (.clearFault tag (.fields r.number)) s =
        .next (touched (fun f => { f with slot := .empty }) 0#16 [⟨32914, tag, .ok, .empty⟩] (lineReset s)) := by
      rw [exec_clearFault_haltHeld hl hr, emptySlot_answered]
    have hcap := takeCapability_lineReset hheld hl.1 .empty [⟨32914, tag, .ok, .empty⟩]
    have hmode := lineReset_mode s.unheld
    have hreset := lineReset_lineResetOf s
    have hnone : (lineReset s.unheld).cutter.agreement = none := by
      obtain ⟨v, e, f, b, d, o, he, -⟩ := lineCleared_frame s.unheld
      rw [lineReset_noneHeld rfl, he]
    have hagree := evaluate_agreement s.cutter.ready c (lineCleared s).unheld
    rw [← lineReset_held hheld] at hagree
    have hterms : ((lineCleared s).unheld.terms c).cap = c := rfl
    generalize (lineCleared s).unheld.terms c = a at hagree hterms
    generalize lineReset s.unheld = u at *
    generalize lineReset s = t at *
    refine ⟨_, _, hu, hmode, hnone, congrArg Host.Outcome.next hcap, ht, hreset.mode, hreset.held, hagree.2, fun b hb => ?_⟩
    rcases hagree.1 with h | h
    · exact absurd (h.symm.trans hb) (by simp)
    · obtain rfl : a = b := Option.some.inj (h.symm.trans hb)
      exact hterms

/-! ### A class 2 report -/

theorem escalate_touched (k : FaultKind) (r : FaultRecord) (s : State) :
    escalate k r s = touched (fun f => { f with slot := .held { r with second := some k } }) 0#16 [] (lineReset (raise .faultCaptured s)) := by
  simp [escalate, touched, State.modFault]

/-- Settles O53. -/
theorem class2ReportByTheSlot : Obligations.Class2ReportByTheSlot := by
  refine ⟨fun k items s hm hnot => ?_, fun k items s => ⟨fun r hr => ?_, fun hm hr => ?_, fun hm r hr => ?_, fun b hh hb hm hbreak hact => ?_⟩⟩
  · rw [report2_scanning k items s hnot hm]
    have h := captureHalt_halted k items s
    obtain ⟨horders, hnone, hsome⟩ := halt_accounts (fillSlot (.haltHeld (s.record k items s.fault.slot.number)) s)
    exact ⟨congrArg Planner.table h.planner, h.mode, horders, hnone, hsome⟩
  · rw [report2_haltHeld k items s r hr]
    have h := lineReset_lineResetOf (raise .faultCaptured s)
    have hcaptured := h.latched .faultCaptured (by simp)
    have hcap (c : Capability) (hctl : s.ctl.held = false) (hc : s.cutter.held = some c) :
        takeCapability c false (report2 k items s.unheld) = escalate k r s := by
      rw [report2_haltHeld k items s.unheld r hr, escalate_touched, escalate_touched]
      exact takeCapability_lineReset (s := raise .faultCaptured s) hc hctl _ []
    rw [escalate_touched] at hcap ⊢
    have hunheld : ({ s with cutter := { s.cutter with held := none } } : State) = s.unheld := rfl
    rw [hunheld]
    generalize report2 k items s.unheld = u at hcap
    generalize lineReset (raise .faultCaptured s) = t at h hcap hcaptured
    refine ⟨h.mode, rfl, h.number, ?_, h.tracker, ?_, ?_, h.held, fun c hctl hc => congrArg Host.Outcome.next (hcap c hctl hc)⟩
    · simpa [touched, State.latched] using hcaptured
    · exact congrArg MapUnit.entries h.map
    · exact congrArg MapUnit.blind h.map
  · rw [report2_idle k items s (by simp [hr]) (by rw [hm]; rfl), reportIdle, hr]
    have hrecord : s.record k items none = ⟨s.fault.nextNumber, k, items, .idle, 0, none, none⟩ := by
      simp [State.record, State.mode, hm]
    rw [hrecord]
    rfl
  · rw [report2_idle k items s (by simp [hr]) (by rw [hm]; rfl), reportIdle, hr]
    simp only [State.modFault, hr]
    rfl
  · have hseen : seenMode true s = b.mode := by simp [seenMode, hb]
    refine congrArg Host.Outcome.next ?_
    simp only [breakAsserted, hh, hbreak, hseen, hm, Bool.or_self, Bool.not_true, Bool.false_eq_true, if_false, State.geo, hact]
    rfl

end Sys2Proof.Machine
end

section
/-!
BREAK, the requests about lanes and detection sets, the runs a lane keeps and the known frontier: O17, O19, O20, O21, O26, O28 and O32.
-/

namespace Sys2Proof.Machine

/-! ### BREAK (R13 to R15) -/

theorem openAll_none {s : State} (h : ∀ b ∈ s.map.blind, b.lane = none → b.yEnd ≠ none) : s.openAll = none := by
  unfold State.openAll
  rw [List.find?_eq_none]
  intro b hb hp
  simp only [Bool.and_eq_true, Option.isNone_iff_eq_none] at hp
  exact h b hb hp.1 hp.2

theorem nextLineLabel_some {s : State} {n : Nat} (h : s.pos.lastLine = some n) : s.nextLineLabel = (n + 1) * s.pos.geometry.pitch := by
  simp only [State.nextLineLabel, h]
  rfl

theorem changeReason_eq (id : Nat) (reason : BlindReason) (s : State) : changeReason id reason s =
    { s with map := { s.map with blind := s.map.blind.map fun b => if b.id = id then { b with reason := reason } else b } } := by
  simp only [changeReason, modInterval_eq, beq_iff_eq]

theorem closeInterval_eq (id y : Nat) (s : State) : closeInterval id y s =
    { s with map := { s.map with blind := s.map.blind.map fun b => if b.id = id then { b with yEnd := some y } else b } } := by
  simp only [closeInterval, modInterval_eq, beq_iff_eq]

/-- R14: the break marking opens, BREAK raised. -/
def marked (s : State) : State := raise .breakEvent (s.modPos fun p => { p with breakMarking := true })

theorem openMarking_open (label : Nat) {s : State} {o : Interval} (h : s.openAll = some o) :
    openMarking label s = changeReason o.id .breakReason (marked s) := by
  have h' : (marked s).openAll = some o := h
  unfold openMarking
  dsimp only
  split
  · rename_i b hb
    obtain rfl : b = o := Option.some.inj (hb.symm.trans h')
    rfl
  · rename_i hb
    exact absurd (hb.symm.trans h') (by simp)

theorem openMarking_none (label : Nat) {s : State} (h : s.openAll = none) :
    openMarking label s = openInterval .breakReason none s.geo.xL s.geo.xR label (marked s) := by
  have h' : (marked s).openAll = none := h
  unfold openMarking
  dsimp only
  split
  · rename_i hb
    exact absurd (hb.symm.trans h') (by simp)
  · rfl

theorem exec_breakAsserted_seen {s : State} (h : s.port.mode.scanning = false ∨ s.pos.breakLevel = true) :
    exec (.breakAsserted false) s = .next (setBreak true s) := by
  refine congrArg Host.Outcome.next ?_
  have hseen : seenMode false s = s.port.mode := by simp [seenMode, State.mode]
  have hcond : (s.ctl.held || s.pos.breakLevel || !(seenMode false s).scanning) = true := by
    rcases h with h | h <;> simp [hseen, h]
  exact if_pos hcond

/-- BREAK asserted while the line is inspecting. -/
theorem exec_breakAsserted_scanning {s : State} (hh : s.ctl.held = false) (hm : s.port.mode.scanning = true)
    (hb : s.pos.breakLevel = false) :
    (s.pos.geometry.breakAction = .halt → exec (.breakAsserted false) s = .next (report2 .ribbonBreak s.here (setBreak true s))) ∧
    (s.pos.geometry.breakAction = .mark →
      exec (.breakAsserted false) s = .next (openMarking s.nextLineLabel (setBreak true s))) := by
  have hseen : seenMode false s = s.port.mode := by simp [seenMode, State.mode]
  have hidle : s.mode ≠ .idle := by
    intro h
    rw [State.mode] at h
    simp [h, Mode.scanning] at hm
  have hexec : exec (.breakAsserted false) s = .next (breakAsserted false s) := rfl
  constructor <;> intro hact <;> rw [hexec] <;>
    simp only [breakAsserted, hh, hb, hseen, hm, Bool.or_self, Bool.not_true, Bool.false_eq_true, if_false, State.geo, hact, hidle]

theorem breakCleared_marking {s : State} (hh : s.ctl.held = false) (hm : s.pos.breakMarking = true) :
    breakCleared s = closeMarking s.nextLineLabel (setBreak false s) := by
  simp [breakCleared, hh, hm]

/-- R15: the break marking closes, its label recorded, BREAK raised. -/
def unmarked (label : Nat) (s : State) : State :=
  raise .breakEvent ((s.modPos fun p => { p with breakMarking := false }).modMap fun m => { m with breakLabel := some label })

theorem closeMarking_clear (label : Nat) {s : State} (h : s.map.full = none) :
    closeMarking label s = closeAll (maxLabel label s.map.fullLabel) (unmarked label s) := by
  exact if_neg (by simp [h])

theorem closeMarking_full (label : Nat) {s : State} (h : s.map.full ≠ none) :
    closeMarking label s = renameAll .mapFull (unmarked label s) :=
  if_pos (by simpa [unmarked, Option.isSome_iff_ne_none] using h)

/-- Settles O17. -/
theorem breakMarksOrHalts : Obligations.BreakMarksOrHalts := by
  refine ⟨fun s hh => ?_, fun s hh => ?_⟩
  · intro seen mark items
    refine ⟨exec_breakAsserted_seen, fun hm hb => ?_⟩
    obtain ⟨hhalt, hmark⟩ := exec_breakAsserted_scanning hh hm hb
    refine ⟨hhalt, fun hact => ⟨fun o ho => ?_, fun hnone => ⟨fun hfull => ?_, fun hroom n hn => ?_⟩⟩⟩
    · rw [hmark hact, openMarking_open (s := setBreak true s) _ ho, changeReason_eq]
      rfl
    · rw [hmark hact, openMarking_none (s := setBreak true s) _ (openAll_none hnone), openInterval_full _ _ _ _ _ (marked (setBreak true s)) hfull]
      rfl
    · rw [hmark hact, openMarking_none (s := setBreak true s) _ (openAll_none hnone), openInterval_room _ _ _ _ _ (marked (setBreak true s)) hroom,
        nextLineLabel_some hn]
      rfl
  · intro seen closed
    have hexec : exec .breakCleared s = .next (breakCleared s) := rfl
    refine ⟨fun hm => ?_, fun hm n hn => ⟨fun hclear => ⟨fun hnone => ?_, fun o ho => ?_⟩, fun hfull => ?_⟩⟩
    · rw [hexec]
      exact congrArg _ (if_pos (by simp [hm]))
    · rw [hexec, breakCleared_marking hh hm, closeMarking_clear (s := setBreak false s) _ hclear, closeAll_none, nextLineLabel_some hn]
      · rfl
      · exact openAll_none (s := s) hnone
    · rw [hexec, breakCleared_marking hh hm, closeMarking_clear (s := setBreak false s) _ hclear, closeAll_open (s := unmarked s.nextLineLabel (setBreak false s)) (b := o) _ ho,
        nextLineLabel_some hn]
      simp only [beq_iff_eq]
      rfl
    · rw [hexec, breakCleared_marking hh hm, closeMarking_full (s := setBreak false s) _ hfull, nextLineLabel_some hn]
      cases ho : s.map.blind.find? (fun b => b.lane.isNone && b.yEnd.isNone) with
      | none =>
        rw [renameAll_none _ (show (unmarked _ (setBreak false s)).openAll = none from ho)]
        rfl
      | some o =>
        rw [renameAll_open _ (show (unmarked _ (setBreak false s)).openAll = some o from ho)]
        simp only [beq_iff_eq]
        rfl

/-! ### Requests that name a lane -/

theorem withLane_some (i : LaneId) (body : LaneId → State → Answer) (s : State) : withLane i.val body s = body i s := by
  simp only [withLane, laneOf_some]

theorem withLane_none {n : Nat} (h : 8 ≤ n) (body : LaneId → State → Answer) (s : State) : withLane n body s = .refuse .badField := by
  simp only [withLane, laneOf_none n h]

theorem examining_iff (st : LaneState) : st.examining = true ↔ st ∈ [LaneState.settling, .active, .crowded] := by
  cases st <;> simp [LaneState.examining]

theorem not_examining_iff (st : LaneState) : st.examining = false ↔ st ∈ [LaneState.off, .faulted] := by
  cases st <;> simp [LaneState.examining]

theorem reported_eq (x p c b : Nat) : (⟨x, p, c, b⟩ : LaneGeometry).reported = if b = 1 then c else (c + 1) / 2 := rfl

/-- Table 2-2: the check of a lane geometry. -/
theorem laneGeometryOf_eq {f : LaneGeometryFields} {i : LaneId} (h : i.val = f.lane) : laneGeometryOf f =
    if f.x0 ≤ 60000 ∧ (1 ≤ f.pitch ∧ f.pitch ≤ 4) ∧ (1 ≤ f.columns ∧ f.columns ≤ 4096) ∧ (1 ≤ f.binning ∧ f.binning ≤ 2) ∧
        f.x0 + (if f.binning = 1 then f.columns else (f.columns + 1) / 2) * f.pitch * f.binning ≤ 60000
      then some (i, ⟨f.x0, f.pitch, f.columns, f.binning⟩) else none := by
  simp only [laneGeometryOf, ← h, laneOf_some, Bool.and_eq_true, within_iff, decide_eq_true_eq, Nat.zero_le, true_and, and_assoc]
  rfl

theorem laneGeometryOf_none {f : LaneGeometryFields} (h : 8 ≤ f.lane) : laneGeometryOf f = none := by
  simp only [laneGeometryOf, laneOf_none _ h]

/-- R39: the checks of a mask list. -/
theorem maskListOk_iff (reported : Nat) (cols : List Nat) :
    maskListOk reported cols = true ↔ cols.length ≤ 64 ∧ cols.Nodup ∧ ∀ c ∈ cols, c < reported := by
  simp only [maskListOk, Bool.and_eq_true, decide_eq_true_eq, distinct_eq_self, List.all_eq_true, and_assoc]
  rfl

theorem sortByKey_strict {cols : List Nat} (h : cols.Nodup) : (sortByKey id cols).Pairwise fun x y => x < y :=
  ((sortByKey_sorted id cols).and ((sortByKey_perm id cols).nodup_iff.2 h)).imp fun ⟨hle, hne⟩ => Nat.lt_of_le_of_ne hle hne

/-- Settles O19. -/
theorem laneSettings : Obligations.LaneSettings := by
  refine ⟨fun s tag f hl hm => ?_, fun s tag hl hm => ⟨fun n cols v hn => ⟨?_, ?_⟩, fun i => ⟨fun cols hc => ?_, fun cols hc hst => ?_,
    fun cols hc hst => ?_, fun v hv => ?_, ?_, ?_⟩⟩⟩
  · intro columns inRange
    have htaken : takenIn .setLaneGeometry s.mode = true := by simp [takenIn, State.mode, hm]
    refine ⟨fun hnot => exec_refused hl rfl htaken ?_, fun i hi hin => ?_⟩
    · by_cases hlane : f.lane ≤ 7
      · rw [setLaneGeometryBody, laneGeometryOf_eq (i := ⟨f.lane, by omega⟩) rfl, if_neg fun h => hnot ⟨hlane, h⟩]
      · rw [setLaneGeometryBody, laneGeometryOf_none (by omega)]
    · rw [exec_taken hl rfl htaken, setLaneGeometryBody, laneGeometryOf_eq hi, if_pos hin.2]
      exact congrArg Host.Outcome.next (answer_ok ..)
  · exact exec_refused hl rfl (by simpa [takenIn, State.mode] using hm) (withLane_none hn _ _)
  · exact exec_refused hl rfl (by simpa [takenIn, State.mode] using hm) (withLane_none hn _ _)
  · refine exec_refused hl rfl (by simpa [takenIn, State.mode] using hm) ((withLane_some i _ s).trans ?_)
    simp [setMaskBody, State.lane, hc]
  · refine exec_refused hl rfl (by simpa [takenIn, State.mode] using hm) ((withLane_some i _ s).trans ?_)
    simp [setMaskBody, State.lane, hc, (examining_iff _).2 hst]
  · intro fits
    have hbody : setMaskBody cols i s = if fits then
        .ok (s.modLane i fun l => { l with staticMask := sortByKey id cols, dynColumns := [] }) .empty else .refuse .badField := by
      have hfits : fits ↔ (maskListOk (s.lane i).geometry.reported cols && decide (s.otherMasks i + cols.length ≤ 256)) = true := by
        rw [Bool.and_eq_true, maskListOk_iff, decide_eq_true_eq, and_assoc, and_assoc]
        rfl
      simp only [setMaskBody, (not_examining_iff _).2 hst, State.lane, hc, Bool.not_true, Bool.false_eq_true, if_false, hfits]
      rfl
    refine ⟨fun hnot => exec_refused hl rfl (by simpa [takenIn, State.mode] using hm) ((withLane_some i _ s).trans ?_), fun hfits => ?_⟩
    · rw [hbody, if_neg hnot]
    · refine ⟨sortByKey id cols, sortByKey_perm id cols, sortByKey_strict hfits.2.1, ?_⟩
      rw [exec_taken hl rfl (by simpa [takenIn, State.mode] using hm), withLane_some, hbody, if_pos hfits]
      exact congrArg Host.Outcome.next (answer_ok ..)
  · refine exec_refused hl rfl (by simpa [takenIn, State.mode] using hm) ((withLane_some i _ s).trans ?_)
    match v, hv with
    | _ + 2, _ => rfl
  · rw [exec_taken hl rfl (by simpa [takenIn, State.mode] using hm), withLane_some]
    exact congrArg Host.Outcome.next (answer_ok ..)
  · rw [exec_taken hl rfl (by simpa [takenIn, State.mode] using hm), withLane_some]
    exact congrArg Host.Outcome.next (answer_ok ..)

/-! ### The state of a lane -/

theorem modLane_modLane (i : LaneId) (f g : Lane → Lane) (s : State) : (s.modLane i f).modLane i g = s.modLane i fun l => g (f l) := by
  simp [State.modLane, State.modLanes]

theorem setLaneState_of_ne {i : LaneId} {st : LaneState} {s : State} (h : (s.lane i).state ≠ st) :
    setLaneState i st s = raise .laneChanged (s.modLane i fun l => { l with state := st }) := if_neg h

/-- R21, R37, R175: a lane that enters another state. -/
theorem enterState_eq {i : LaneId} {st : LaneState} {s : State} (h : (s.lane i).state ≠ st) :
    enterState i st s = noteFaulted i st (raise .laneChanged
      (s.modLane i fun l => { l with state := st, persistence := if st.following then l.persistence else [] })) := by
  have hforget (t : State) : forgetNarrow i (noteFaulted i st (raise .laneChanged t)) =
      noteFaulted i st (raise .laneChanged (t.modLane i fun l => { l with persistence := [] })) := by
    unfold noteFaulted
    split <;> rfl
  rw [enterState, setLaneState_of_ne h]
  split
  · rfl
  · rw [hforget, modLane_modLane]

/-- R43: the blind list once a lane's open interval has taken a reason. -/
def renamedTo (reason : BlindReason) (interval : Option Nat) (blind : List Interval) : List Interval :=
  match interval with
  | none => blind
  | some id => blind.map fun b => if b.id = id then { b with reason := reason } else b

theorem renameLaneInterval_eq (i : LaneId) (s : State) : renameLaneInterval i s =
    { s with map := { s.map with blind := renamedTo (s.lane i).state.reason (s.lane i).interval s.map.blind } } := by
  unfold renameLaneInterval renamedTo
  cases (s.lane i).interval with
  | none => rfl
  | some id => exact changeReason_eq ..

/-- R22. -/
theorem startLane_eq {i : LaneId} {s : State} {n : Nat} (h : (s.lane i).state ∈ [LaneState.off, .faulted])
    (hn : s.pos.lastLine = some n) : startLane i s = { s with
      lanes := s.lanes.set i.val { s.lanes[i.val] with
        state := .settling, rings := ⟨[], [], []⟩, limitRuns := Vector.replicate 5 0, persistence := [], expected := n + 1 },
      map := { s.map with blind := renamedTo .settling s.lanes[i.val].interval s.map.blind },
      port := { s.port with events := s.port.events ||| Event.laneChanged.single } } := by
  have hne : ((s.modLane i (Lane.fresh (n + 1))).lane i).state ≠ .settling := by
    rw [lane_modLane_same]
    rintro he
    have he' : (s.lane i).state = .settling := he
    simp [he'] at h
  have hstart : startLane i s = renameLaneInterval i (setLaneState i .settling (s.modLane i (Lane.fresh (n + 1)))) := by
    simp only [startLane, hn]
  have hlane : ∀ t : State, (raise .laneChanged t).lane i = t.lane i := fun _ => rfl
  rw [hstart, setLaneState_of_ne hne, modLane_modLane, renameLaneInterval_eq, hlane, lane_modLane_same]
  rfl

/-- R23, R43: a lane that neither follows nor is OFF goes to a state in which it follows no flaws either. -/
theorem laneTo_off_eq {i : LaneId} {s : State} (h : (s.lane i).state ∈ [LaneState.settling, .faulted]) : laneTo i .off s = { s with
      lanes := s.lanes.set i.val { s.lanes[i.val] with state := .off, persistence := [] },
      map := { s.map with blind := renamedTo .off s.lanes[i.val].interval s.map.blind },
      port := { s.port with events := s.port.events ||| Event.laneChanged.single } } := by
  have hstates : (s.lane i).state ≠ .off ∧ (s.lane i).state ≠ .active ∧ (s.lane i).state.following = false := by
    rcases List.mem_cons.1 h with h | h
    · simp [h, LaneState.following]
    · simp [List.mem_singleton.1 h, LaneState.following]
  obtain ⟨hoff, hactive, hfollow⟩ := hstates
  have hlane : ∀ t : State, (noteFaulted i .off (raise .laneChanged t)).lane i = t.lane i := fun _ => rfl
  rw [laneTo_eq, if_neg (by simp [hfollow]), placeInterval, if_neg hactive, enterState_eq hoff, renameLaneInterval_eq, hlane,
    lane_modLane_same]
  rfl

/-- Settles O20. -/
theorem startAndStopLane : Obligations.StartAndStopLane := by
  intro s tag i hl renamed
  have hbusy (hst : s.lanes[i.val].state ∈ [LaneState.off, .faulted]) : (s.lane i).state.examining = false := (not_examining_iff _).2 hst
  refine ⟨fun hm => ?_, fun hm => ?_⟩
  · have htaken : takenIn .startLane s.mode = true := hm
    refine ⟨fun n hn => exec_refused hl rfl htaken (withLane_none hn _ _), fun hc => ?_, fun hc hst => ?_, fun hc hst n hn => ?_⟩
    · refine exec_refused hl rfl htaken ((withLane_some i _ s).trans ?_)
      simp [startLaneBody, State.lane, hc]
    · refine exec_refused hl rfl htaken ((withLane_some i _ s).trans ?_)
      simp [startLaneBody, State.lane, hc, (examining_iff _).2 hst]
    · have hbody : startLaneBody i s = .ok (startLane i s) .empty := by
        have hc' : (s.lane i).configured = true := hc
        simp only [startLaneBody, hc', hbusy hst, Bool.not_true, Bool.false_eq_true, if_false]
      rw [exec_taken hl rfl htaken, withLane_some, hbody, startLane_eq hst hn, answer_ok]
      rfl
  · have htaken : takenIn .stopLane s.mode = true := by simpa [takenIn, State.mode] using hm
    have hstop (hne : s.lanes[i.val].state ≠ .off) : exec (.stopLane tag (.fields i.val)) s =
        .next ((laneTo i .off s).answered .stopLane tag .ok .empty) := by
      rw [exec_taken hl rfl htaken, withLane_some, stopLaneBody, if_neg (show (s.lane i).state ≠ .off from hne), answer_ok]
    refine ⟨fun n hn => exec_refused hl rfl htaken (withLane_none hn _ _), fun hst => ?_, fun hst => ?_, fun hst => hstop ?_⟩
    · rw [exec_taken hl rfl htaken, withLane_some, stopLaneBody, if_pos (show (s.lane i).state = .off from hst), answer_ok]
    · rw [hstop (by rintro he; simp [he] at hst), laneTo_off_eq hst]
      rfl
    · rintro he
      simp [he] at hst

/-! ### SET DARK OFFSET (R40) -/

theorem setDark_eq (v : Nat) (i : LaneId) (s : State) :
    (s.lanes[i.val].state ∈ [LaneState.off, .faulted] →
      setDark v i s = { s with lanes := s.lanes.set i.val { s.lanes[i.val] with dark := v } }) ∧
    (s.lanes[i.val].state = .settling →
      setDark v i s = { s with lanes := s.lanes.set i.val { s.lanes[i.val] with dark := v, rings := ⟨[], [], []⟩ } }) ∧
    (s.lanes[i.val].state ∈ [LaneState.active, .crowded] → setDark v i s =
      laneTo i .settling { s with lanes := s.lanes.set i.val { s.lanes[i.val] with dark := v, rings := ⟨[], [], []⟩ } }) := by
  have hstate : ((s.modLane i fun l => { l with dark := v }).lane i).state = s.lanes[i.val].state := by
    rw [lane_modLane_same]
    rfl
  have hrings : (s.modLane i fun l => { l with dark := v }).modLane i (fun l => { l with rings := Rings.empty }) =
      { s with lanes := s.lanes.set i.val { s.lanes[i.val] with dark := v, rings := ⟨[], [], []⟩ } } := modLane_modLane ..
  have hdef : setDark v i s = match s.lanes[i.val].state with
      | .active | .crowded => laneTo i .settling ((s.modLane i fun l => { l with dark := v }).modLane i fun l => { l with rings := Rings.empty })
      | .settling => (s.modLane i fun l => { l with dark := v }).modLane i fun l => { l with rings := Rings.empty }
      | .off | .faulted => s.modLane i fun l => { l with dark := v } := by
    rw [← hstate]
    rfl
  rw [hdef, hrings]
  refine ⟨fun h => ?_, fun h => ?_, fun h => ?_⟩
  · rcases List.mem_cons.1 h with h | h
    · rw [h]
      rfl
    · rw [List.mem_singleton.1 h]
      rfl
  · rw [h]
  · rcases List.mem_cons.1 h with h | h
    · rw [h]
    · rw [List.mem_singleton.1 h]

/-- Settles O21. -/
theorem darkOffsetByLaneState : Obligations.DarkOffsetByLaneState := by
  intro s tag v i hl hm
  have htaken : takenIn .setDarkOffset s.mode = true := by simpa [takenIn, State.mode] using hm
  refine ⟨fun n hn => exec_refused hl rfl htaken (withLane_none hn _ _), fun hc => ?_, fun hc hv => ?_, fun hc hv => ?_⟩
  · refine exec_refused hl rfl htaken ((withLane_some i _ s).trans ?_)
    simp [setDarkBody, State.lane, hc]
  · refine exec_refused hl rfl htaken ((withLane_some i _ s).trans ?_)
    simp [setDarkBody, State.lane, hc, hv]
  · have hexec : exec (.setDarkOffset tag (.fields (i.val, v))) s = .next ((setDark v i s).answered .setDarkOffset tag .ok .empty) := by
      have hbody : setDarkBody v i s = .ok (setDark v i s) .empty := by
        have hc' : (s.lane i).configured = true := hc
        simp only [setDarkBody, hc', Nat.not_lt.2 hv, Bool.not_true, Bool.false_eq_true, if_false]
      rw [exec_taken hl rfl htaken, withLane_some, hbody, answer_ok]
    obtain ⟨hoff, hsettling, hactive⟩ := setDark_eq v i s
    rw [hexec]
    exact ⟨fun h => by rw [hoff h], fun h => by rw [hsettling h], fun h => by rw [hactive h]⟩

/-! ### The runs a lane keeps (R32 to R34) -/

theorem clipRun_none {k : Nat} {r : Run} (h : r.last < r.first ∨ k ≤ r.first) : clipRun k r = none := if_pos h

theorem clipRun_some {k : Nat} {r : Run} (h1 : r.first ≤ r.last) (h2 : r.first < k) :
    clipRun k r = some { r with last := min r.last (k - 1) } := if_neg (by omega)

/-- R33. -/
theorem allMasked_iff (l : Lane) (r : Run) (h : r.first ≤ r.last) :
    l.allMasked r = true ↔ ∀ c, r.first ≤ c → c ≤ r.last → c ∈ l.staticMask ∨ c ∈ l.dynColumns := by
  simp only [Lane.allMasked, List.all_eq_true, List.mem_range, Lane.masked, Bool.or_eq_true, List.contains_iff_mem]
  constructor
  · intro hm c h1 h2
    have := hm (c - r.first) (by omega)
    rwa [Nat.add_sub_cancel' h1] at this
  · exact fun hm k hk => hm _ (by omega) (by omega)

/-- R34. -/
theorem contrastOf_eq (dark peak : Nat) (ring : List Nat) : contrastOf dark ring peak =
    let b := max 16 (ring.sum / 8 - dark)
    let p := peak - dark
    if peak = 4095 then 999 else min 999 ((if p < b then b - p else p - b) * 1000 / b) := by
  have hdiff (p b : Nat) : max p b - min p b = if p < b then b - p else p - b := by
    split <;> omega
  simp only [contrastOf, hdiff]
  rfl

/-- Settles O26. -/
theorem runsKeptByTheirContrast : Obligations.RunsKeptByTheirContrast := by
  intro l n slot r ring hring hlen
  refine ⟨fun h => by simp only [Lane.keep, clipRun_none h], fun h1 h2 => ?_⟩
  intro last b p contrast
  have hcontrast : contrastOf l.dark (l.rings.get slot.kind) r.peak = contrast := by rw [hring, contrastOf_eq]
  have hmasked := allMasked_iff l { r with last := last } (show r.first ≤ last by omega)
  have hkeep : l.keep n slot r = if l.allMasked { r with last := last } = true ∨ contrast < slot.threshold then none
      else some ⟨n, r.first, last, contrast, r.polarity, slot.kind, decide (r.peak = 4095)⟩ := by
    simp only [Lane.keep, clipRun_some h1 h2, hcontrast]
    rfl
  rw [hkeep]
  refine ⟨fun h => if_pos (h.imp_left hmasked.2), fun ⟨c, hfirst, hlast, hs, hd⟩ ht => if_neg ?_⟩
  rintro (h | h)
  · exact (hmasked.1 h c hfirst hlast).elim hs hd
  · omega

/-! ### APPLY DETECTION (R61, R199) -/

theorem switchLine_spec {length : Nat} (h : 0 < length) (last : Nat) :
    switchLine length last % length = 0 ∧ last < switchLine length last ∧ switchLine length last ≤ last + length := by
  have hdiv := Nat.div_add_mod last length
  have hmod := Nat.mod_lt last h
  have hline : switchLine length last = last / length * length + length := by rw [switchLine, Nat.succ_mul]
  rw [Nat.mul_comm] at hdiv
  exact ⟨Nat.mul_mod_left _ _, by omega, by omega⟩

/-- R61: the line at which a set applied now would be switched to. -/
def State.nextSwitchLine (s : State) : Nat := switchLine ((s.tracker.active.map fun d => d.slots.length).getD 1) (s.pos.lastLine.getD 0)

theorem applyDetectionBody_staged (tag : Nat) {s : State} {d : DetectionSet} (h : s.tracker.apply = .none)
    (hf : s.tracker.stagedFlag = true) (hd : s.tracker.staged = some d) : applyDetectionBody tag s =
      if s.mode = .idle then .ok (s.modTracker fun t => { t with active := some d, stagedFlag := false }) .empty
      else if s.delayFull then .refuse .delayListFull
      else .delay (addDelayed .applyDetection tag
        (s.modTracker fun t => { t with stagedFlag := false, apply := .waiting d s.nextSwitchLine })) := by
  simp only [applyDetectionBody, h, hf, hd, ne_eq, not_true_eq_false, if_false]
  rfl

/-- Settles O28. -/
theorem applyDetectionByMode : Obligations.ApplyDetectionByMode := by
  intro s tag hl hm
  have htaken : takenIn .applyDetection s.mode = true := by simpa [takenIn, State.mode] using hm
  refine ⟨fun h => exec_refused hl rfl htaken (if_pos h), fun h hf => exec_refused hl rfl htaken ?_, fun d h hf hd => ?_⟩
  · simp only [applyDetectionBody, h, hf, ne_eq, not_true_eq_false, if_false]
  have hbody := applyDetectionBody_staged tag h hf hd
  refine ⟨fun hi => ?_, fun hi hfull => ?_, fun a n hi hroom ha hlen hn => ?_⟩
  · rw [exec_taken hl rfl htaken, hbody, if_pos (show s.mode = .idle from hi), answer_ok]
    rfl
  · refine exec_refused hl rfl htaken ?_
    rw [hbody, if_neg (show s.mode ≠ .idle from hi), if_pos (show s.delayFull = true from decide_eq_true hfull)]
  · obtain ⟨h1, h2, h3⟩ := switchLine_spec hlen n
    refine ⟨switchLine a.slots.length n, h1, h2, h3, ?_⟩
    have hnot : s.delayFull = false := decide_eq_false (Nat.not_le.2 hroom)
    rw [exec_taken hl rfl htaken, hbody, if_neg (show s.mode ≠ .idle from hi), hnot, if_neg (by simp), State.nextSwitchLine, ha, hn, answer_delay]
    rfl

/-! ### The known frontier (R58) -/

theorem recomputeK_idle {s : State} (h : s.port.mode.scanning = false) : recomputeK s = s := if_neg (by simp [State.mode, h])

theorem recomputeK_frontier {s : State} (h : s.port.mode.scanning = true) :
    (recomputeK s).tracker.frontier = max s.tracker.frontier s.computedFrontier := by
  have htest (t : State) : (testRoom t).tracker = t.tracker := by
    obtain ⟨p, hp, -⟩ := testRoom_spec t
    rw [hp]
  unfold recomputeK
  split
  · rename_i hlt
    simp only [Bool.and_eq_true, decide_eq_true_eq] at hlt
    rw [htest, State.modTracker_tracker]
    dsimp only
    omega
  · rename_i hlt
    simp only [State.mode, h, Bool.true_and, decide_eq_true_eq] at hlt
    omega

theorem following_iff (st : LaneState) : st.following = true ↔ st = .active ∨ st = .crowded := by
  cases st <;> simp [LaneState.following]

/-- R58: the terms of the minimum, while every following lane has processed a line. -/
theorem mem_frontierTerms {s : State}
    (h : ∀ i : LaneId, s.lanes[i.val].state = .active ∨ s.lanes[i.val].state = .crowded → s.lanes[i.val].lastProcessed ≠ none) (v : Nat) :
    v ∈ s.frontierTerms ↔
      (∃ i : LaneId, ∃ h, (s.lanes[i.val].state = .active ∨ s.lanes[i.val].state = .crowded) ∧
        s.lanes[i.val].lastProcessed = some h ∧ v = (h + 1) * s.pos.geometry.pitch) ∨
      ∃ i : LaneId, ∃ f ∈ s.tracker.tables[i.val].flaws, v = f.firstLine * s.pos.geometry.pitch := by
  simp only [State.frontierTerms, List.mem_append, List.mem_map, List.mem_filter, List.mem_flatMap, mem_allLanes, true_and,
    following_iff]
  refine or_congr (exists_congr fun i => ?_) (exists_congr fun i => exists_congr fun f => and_congr_right fun _ => eq_comm)
  constructor
  · rintro ⟨hst, hv⟩
    obtain ⟨n, hn⟩ := Option.ne_none_iff_exists'.1 (h i hst)
    have hn' : (s.lane i).lastProcessed = some n := hn
    rw [hn'] at hv
    exact ⟨n, hst, hn, hv.symm⟩
  · rintro ⟨n, hst, hn, hv⟩
    have hn' : (s.lane i).lastProcessed = some n := hn
    refine ⟨hst, ?_⟩
    rw [hn']
    exact hv.symm

/-- Settles O32. -/
theorem frontierIsTheLeastTerm : Obligations.FrontierIsTheLeastTerm := by
  intro s isTerm
  refine ⟨fun h => recomputeK_idle (by rcases h with h | h <;> rw [h] <;> rfl), fun hm hproc => ?_⟩
  have hterms : ∀ v, v ∈ s.frontierTerms ↔ isTerm v := mem_frontierTerms hproc
  obtain ⟨k, p, -, hk⟩ := recomputeK_spec s
  refine ⟨fun v hv hmin => ?_, fun hnone t ht => ?_, by rw [hk], by rw [hk]⟩
  · have hleast : least s.frontierTerms = some v :=
      (least_eq_some _ _).2 ⟨(hterms v).2 hv, fun w hw => hmin w ((hterms w).1 hw)⟩
    rw [recomputeK_frontier hm, State.computedFrontier, hleast]
    rfl
  · have hempty : least s.frontierTerms = none :=
      (least_eq_none _).2 (List.eq_nil_iff_forall_not_mem.2 fun v hv => hnone v ((hterms v).1 hv))
    rw [recomputeK_frontier hm, State.computedFrontier, hempty, Option.getD_none, nextLineLabel_some ht]

end Sys2Proof.Machine
end

section
/-!
Map retirement, candidate lengths, answers of the cutter and the closing of shifts: O35, O41, O43 and O50.
-/

namespace Sys2Proof.Machine

/-! ### MAP RETIREMENT (R83) -/

theorem PerClass.get_modify {α : Type} (g : α → α) (p : PerClass α) (k c : FlawClass) :
    (p.modify g k).get c = if k = c then g (p.get c) else p.get c := by
  cases k <;> cases c <;> rfl

/-- R175: retired flaws are counted by their class. -/
theorem flawRetired_count (gone : List MapEntry) (c : FlawClass) (s : State) (h : s.report.shift.flaws.get c ≤ 4294967295) :
    (gone.foldl (fun s e => tally (Shift.flawRetired e.cls) s) s).report.shift.flaws.get c =
      min 4294967295 (s.report.shift.flaws.get c + (gone.filter fun e => e.cls == c).length) := by
  induction gone generalizing s with
  | nil => simpa using h
  | cons e es ih =>
    have hcount : (tally (Shift.flawRetired e.cls) s).report.shift.flaws.get c =
        if e.cls = c then min 4294967295 (s.report.shift.flaws.get c + 1) else s.report.shift.flaws.get c := PerClass.get_modify ..
    rw [List.foldl_cons, ih _ (by rw [hcount]; split <;> omega), hcount, List.filter_cons]
    by_cases he : e.cls = c
    · simp only [he, if_true, beq_self_eq_true, List.length_cons]
      omega
    · simp [he]

theorem entryRetires_iff (s : State) (e : MapEntry) : s.entryRetires e = true ↔
    e.refs = 0 ∧ e.yLast + s.pos.geometry.dgc ≤ s.pos.y ∧ (s.port.mode = .produce → e.yLast < s.planner.yPrev) := by
  simp only [State.entryRetires, Bool.and_eq_true, Bool.or_eq_true, decide_eq_true_eq, bne_iff_ne, and_assoc, State.mode]
  refine and_congr_right fun _ => and_congr_right fun _ => ?_
  exact ⟨fun h hp => h.resolve_left (fun hn => hn hp), fun h => (Decidable.em (s.port.mode = .produce)).elim (fun hp => .inr (h hp)) .inl⟩

theorem intervalRetires_iff (s : State) (b : Interval) : s.intervalRetires b = true ↔
    b.refs = 0 ∧ ∃ y, b.yEnd = some y ∧ y + s.pos.geometry.dgc ≤ s.pos.y ∧ (s.port.mode = .produce → y ≤ s.planner.yPrev) := by
  unfold State.intervalRetires
  cases b.yEnd with
  | none => simp
  | some y =>
    simp only [Bool.and_eq_true, Bool.or_eq_true, decide_eq_true_eq, bne_iff_ne, and_assoc, State.mode, Option.some.injEq,
      exists_eq_left']
    refine and_congr_right fun _ => and_congr_right fun _ => ?_
    exact ⟨fun h hp => h.resolve_left (fun hn => hn hp), fun h => (Decidable.em (s.port.mode = .produce)).elim (fun hp => .inr (h hp)) .inl⟩

/-- What a retirement over the whole map leaves. -/
theorem retireAll_eq {s : State} (h : s.port.mode ≠ .idle) : ∃ f, retireWhere (fun _ => true) (fun _ => true) s =
      { s with
        map := { s.map with
          entries := s.map.entries.filter fun e => !s.entryRetires e, blind := s.map.blind.filter fun b => !s.intervalRetires b,
          highRaised := s.map.highRaised && decide (896 ≤ (s.map.entries.filter fun e => !s.entryRetires e).length),
          room := s.map.hasRoom (s.map.entries.filter fun e => !s.entryRetires e).length },
        report := { s.report with shift := { s.report.shift with flaws := f } } } ∧
    ∀ c, s.report.shift.flaws.get c ≤ 4294967295 → f.get c =
      min 4294967295 (s.report.shift.flaws.get c + ((s.map.entries.filter s.entryRetires).filter fun e => e.cls == c).length) := by
  have hdef : retireWhere (fun _ => true) (fun _ => true) s =
      (s.map.entries.filter s.entryRetires).foldl (fun s e => tally (Shift.flawRetired e.cls) s) (s.modMap fun m =>
        { m with
          entries := s.map.entries.filter fun e => !s.entryRetires e, blind := m.blind.filter fun b => !s.intervalRetires b,
          highRaised := m.highRaised && decide (896 ≤ (s.map.entries.filter fun e => !s.entryRetires e).length),
          room := m.hasRoom (s.map.entries.filter fun e => !s.entryRetires e).length }) := by
    rw [retireWhere, if_neg (show s.mode ≠ .idle from h)]
    rfl
  rw [hdef]
  obtain ⟨f, hf⟩ := flawRetired_fold (s.map.entries.filter s.entryRetires) (s.modMap fun m =>
    { m with
      entries := s.map.entries.filter fun e => !s.entryRetires e, blind := m.blind.filter fun b => !s.intervalRetires b,
      highRaised := m.highRaised && decide (896 ≤ (s.map.entries.filter fun e => !s.entryRetires e).length),
      room := m.hasRoom (s.map.entries.filter fun e => !s.entryRetires e).length })
  refine ⟨f, hf, fun c hc => ?_⟩
  have hcount := flawRetired_count (s.map.entries.filter s.entryRetires) c (s.modMap fun m =>
    { m with
      entries := s.map.entries.filter fun e => !s.entryRetires e, blind := m.blind.filter fun b => !s.intervalRetires b,
      highRaised := m.highRaised && decide (896 ≤ (s.map.entries.filter fun e => !s.entryRetires e).length),
      room := m.hasRoom (s.map.entries.filter fun e => !s.entryRetires e).length }) hc
  rw [hf] at hcount
  exact hcount

theorem filter_split_length {α : Type} (p q : α → Bool) (xs : List α) :
    ((xs.filter p).filter q).length = (xs.filter q).length - ((xs.filter fun x => !p x).filter q).length := by
  have hsum := List.length_eq_length_filter_add (l := xs.filter q) p
  rw [List.filter_comm p q, List.filter_comm (fun x => !p x) q] at hsum
  omega

/-- R76. -/
theorem hasRoom_iff (m : MapUnit) (n : Nat) : m.hasRoom n = true ↔ m.room = true ∨ m.full ≠ none ∧ m.fullEnd = none ∧ n ≤ 896 := by
  simp only [MapUnit.hasRoom, Bool.or_eq_true, Bool.and_eq_true, decide_eq_true_eq, Option.isSome_iff_ne_none,
    Option.isNone_iff_eq_none, and_assoc]
  rfl

/-- Settles O35. -/
theorem mapRetirementPastTheCutter : Obligations.MapRetirementPastTheCutter := by
  intro s hh
  refine ⟨fun hd => congrArg _ (if_pos (by simp [hd])), fun hd hm => ?_, fun hd hm => ?_⟩
  · have hid : retireWhere (fun _ => true) (fun _ => true) s = s := if_pos hm
    refine congrArg Host.Outcome.next (show mapRetirement s = _ from ?_)
    rw [mapRetirement, if_neg (by simp [hh, hd]), hid]
    rfl
  · intro gone closedPast
    obtain ⟨f, he, hf⟩ := retireAll_eq hm
    have hexec : exec .mapRetirement s = .next ((retireWhere (fun _ => true) (fun _ => true) s).modMap fun m => { m with testDue := false }) :=
      congrArg Host.Outcome.next (if_neg (by simp [hh, hd]))
    have hgone (e : MapEntry) : (!s.entryRetires e) = true ↔ ¬ gone e := by
      rw [Bool.not_eq_true', ← Bool.not_eq_true, entryRetires_iff]
    have hpast (b : Interval) : (!s.intervalRetires b) = true ↔ ¬ closedPast b := by
      rw [Bool.not_eq_true', ← Bool.not_eq_true, intervalRetires_iff]
    rw [he] at hexec
    refine ⟨_, hexec, fun e => ?_, fun b => ?_, List.filter_sublist, List.filter_sublist, rfl, hasRoom_iff _ _, ?_, fun c hc => ?_,
      rfl, rfl, rfl, rfl, rfl, rfl, rfl, rfl⟩
    · exact List.mem_filter.trans (and_congr_right fun _ => hgone e)
    · exact List.mem_filter.trans (and_congr_right fun _ => hpast b)
    · exact (Bool.and_eq_true_iff).trans (and_congr_right fun _ => decide_eq_true_iff)
    · exact (hf c hc).trans (congrArg (fun n => min 4294967295 (s.report.shift.flaws.get c + n)) (filter_split_length ..))

/-! ### Candidate lengths (R110) -/

theorem chooseLengths_spec (lo hi : Nat) (values : List Nat) :
    (chooseLengths lo hi values).Pairwise (fun x y => x < y) ∧ (chooseLengths lo hi values).length ≤ 16 ∧
    (∀ c ∈ chooseLengths lo hi values, c = 0 ∨ c ∈ values ∧ lo ≤ c ∧ c ≤ hi) ∧
    ∀ c, c = 0 ∨ c ∈ values ∧ lo ≤ c ∧ c ≤ hi → c ∈ chooseLengths lo hi values ∨
      (chooseLengths lo hi values).length = 16 ∧ ∀ d ∈ chooseLengths lo hi values, d < c := by
  have hmem (c : Nat) : c ∈ sortByKey id (distinct (0 :: values.filter fun c => within lo hi c)) ↔
      c = 0 ∨ c ∈ values ∧ lo ≤ c ∧ c ≤ hi := by
    rw [(sortByKey_perm ..).mem_iff, mem_distinct, List.mem_cons, List.mem_filter, within_iff]
  have hstrict : (sortByKey id (distinct (0 :: values.filter fun c => within lo hi c))).Pairwise fun x y => x < y :=
    sortByKey_strict (distinct_nodup _)
  unfold chooseLengths
  generalize sortByKey id (distinct (0 :: values.filter fun c => within lo hi c)) = xs at hmem hstrict
  have hsplit : xs = xs.take 16 ++ xs.drop 16 := (List.take_append_drop 16 xs).symm
  refine ⟨hstrict.sublist (List.take_sublist ..), List.length_take_le .., fun c hc => (hmem c).1 (List.mem_of_mem_take hc), fun c hc => ?_⟩
  have hin := (hmem c).2 hc
  rw [hsplit, List.mem_append] at hin
  refine hin.imp_right fun hdrop => ⟨?_, fun d hd => ?_⟩
  · have hlen : 16 < xs.length := by
      by_contra hle
      rw [List.drop_eq_nil_of_le (by omega)] at hdrop
      exact List.not_mem_nil hdrop
    exact List.length_take_of_le hlen.le
  · rw [hsplit, List.pairwise_append] at hstrict
    exact hstrict.2.2 d hd c hdrop

/-- Settles O41. -/
theorem candidateLengths : Obligations.CandidateLengths := by
  intro s a ha inWindow value
  have hmin : s.cMin = a.cMin := by rw [State.cMin, ha]; rfl
  have hwindow (e : MapEntry) : s.windowFlaw e = true ↔ inWindow e := by
    simp only [State.windowFlaw, Bool.and_eq_true, decide_eq_true_eq, and_assoc]
    rfl
  have hvalue (c : Nat) : (c = 0 ∨ c ∈ (s.cMin :: (s.map.entries.filter s.windowFlaw).map fun e =>
      e.yLast + 1 + s.planner.params.clearance - s.planner.yPrev) ∧ s.cMin ≤ c ∧ c ≤ s.planner.params.maxCull) ↔ value c := by
    rw [hmin, List.mem_cons, List.mem_map]
    refine or_congr_right ?_
    constructor
    · rintro ⟨hc, h1, h2⟩
      refine ⟨h1, h2, hc.imp_right ?_⟩
      rintro ⟨e, he, hv⟩
      obtain ⟨he, hw⟩ := List.mem_filter.1 he
      have hw' := (hwindow e).1 hw
      have hlast : s.planner.yPrev ≤ e.yLast := hw'.2.1
      exact ⟨e, he, hw', by omega⟩
    · rintro ⟨h1, h2, hc⟩
      refine ⟨hc.imp_right ?_, h1, h2⟩
      rintro ⟨e, he, hw, hv⟩
      exact ⟨e, List.mem_filter.2 ⟨he, (hwindow e).2 hw⟩, by omega⟩
  obtain ⟨h1, h2, h3, h4⟩ := chooseLengths_spec s.cMin s.planner.params.maxCull
    (s.cMin :: (s.map.entries.filter s.windowFlaw).map fun e => e.yLast + 1 + s.planner.params.clearance - s.planner.yPrev)
  exact ⟨h1, h2, fun c hc => (hvalue c).1 (h3 c hc), fun c hc => h4 c ((hvalue c).2 hc)⟩

/-! ### Lists with distinct keys -/

section
variable {α : Type} {key : α → Nat} {pre post : List α} {r : α}

theorem distinct_keys (h : ((pre ++ r :: post).map key).Nodup) : ∀ x, x ∈ pre ∨ x ∈ post → key x ≠ key r := by
  rw [List.map_append, List.map_cons, List.nodup_append, List.nodup_cons] at h
  obtain ⟨-, ⟨hpost, -⟩, hpre⟩ := h
  rintro x (hx | hx) he
  · exact hpre _ (List.mem_map_of_mem hx) _ List.mem_cons_self he
  · exact hpost (he ▸ List.mem_map_of_mem hx)

theorem updateWhere_unique (g : α → α) (h : ((pre ++ r :: post).map key).Nodup) :
    updateWhere (fun x => key x == key r) g (pre ++ r :: post) = pre ++ g r :: post := by
  have hne := distinct_keys h
  have hsame (xs : List α) (hx : ∀ x ∈ xs, key x ≠ key r) : xs.map (fun x => if key x == key r then g x else x) = xs :=
    (List.map_congr_left fun x hm => by simp [hx x hm]).trans (List.map_id' _)
  simp only [updateWhere, List.map_append, List.map_cons, beq_self_eq_true, if_true]
  rw [hsame pre fun x hx => hne x (.inl hx), hsame post fun x hx => hne x (.inr hx)]

theorem find_unique (h : ((pre ++ r :: post).map key).Nodup) : (pre ++ r :: post).find? (fun x => key x == key r) = some r := by
  have hnone : pre.find? (fun x => key x == key r) = none :=
    List.find?_eq_none.2 fun x hx => by simpa using distinct_keys h x (.inl hx)
  rw [List.find?_append, hnone]
  simp

theorem filter_unique (h : ((pre ++ r :: post).map key).Nodup) : (pre ++ r :: post).filter (fun x => key x != key r) = pre ++ post := by
  have hne := distinct_keys h
  have hsame (xs : List α) (hx : ∀ x ∈ xs, key x ≠ key r) : xs.filter (fun x => key x != key r) = xs :=
    List.filter_eq_self.2 fun x hm => by simpa using hx x hm
  rw [List.filter_append, List.filter_cons, hsame pre fun x hx => hne x (.inl hx), hsame post fun x hx => hne x (.inr hx)]
  simp

end

theorem updateWhere_none {α : Type} {p : α → Bool} (g : α → α) {xs : List α} (h : ∀ x ∈ xs, p x = false) : updateWhere p g xs = xs :=
  (List.map_congr_left fun x hm => by simp [h x hm]).trans (List.map_id' _)

/-! ### Answers of the cutter (R116, R117, R121) -/

theorem answerCut_settled (id : Nat) (settle : HeldCut → State → State) {s : State} (hh : s.ctl.held = false)
    (h : ∀ k ∈ s.planner.cuts, k.cut.id = id → k.cut.state.live = false) : answerCut id settle s = protocolFault (some id) s := by
  unfold answerCut
  rw [if_neg (by simp [hh])]
  cases hf : s.findCut id with
  | none => rfl
  | some k =>
    have hid : k.cut.id = id := by simpa using List.find?_some hf
    exact if_neg (by simp [h k (List.mem_of_find?_eq_some hf) hid])

theorem answerCut_live {id : Nat} (settle : HeldCut → State → State) {s : State} {k : HeldCut} (hh : s.ctl.held = false)
    (hf : s.findCut id = some k) (hlive : k.cut.state.live = true) : answerCut id settle s = settle k s := by
  unfold answerCut
  rw [if_neg (by simp [hh]), hf]
  exact if_pos hlive

theorem mem_cuts {p : Planner} {k : HeldCut} : k ∈ p.cuts ↔
    (∃ h, p.head = some h ∧ k = ⟨h.cut, none⟩) ∨ ∃ r ∈ p.table, k = ⟨r.cut, some r.id⟩ := by
  cases hh : p.head <;> simp [Planner.cuts, hh, eq_comm]

/-- The distinct cut ids of a head cut and the records after it. -/
theorem cuts_head {p : Planner} {h : HeadCut} (hh : p.head = some h) :
    p.cuts = ⟨h.cut, none⟩ :: p.table.map fun r => ⟨r.cut, some r.id⟩ := by
  simp [Planner.cuts, hh]

theorem findCut_head {s : State} {h : HeadCut} (hh : s.planner.head = some h) : s.findCut h.cut.id = some ⟨h.cut, none⟩ := by
  rw [State.findCut, cuts_head hh]
  simp

theorem head_cut_distinct {p : Planner} {h : HeadCut} (hh : p.head = some h) (hn : (p.cuts.map fun k => k.cut.id).Nodup) :
    ∀ r ∈ p.table, r.cut.id ≠ h.cut.id := by
  rw [cuts_head hh, List.map_cons, List.nodup_cons, List.map_map] at hn
  exact fun r hr he => hn.1 (he ▸ List.mem_map_of_mem (f := (fun k => k.cut.id) ∘ fun r : PlateRecord => (⟨r.cut, some r.id⟩ : HeldCut)) hr)

theorem table_cuts_nodup {p : Planner} (hn : (p.cuts.map fun k => k.cut.id).Nodup) : (p.table.map fun r => r.cut.id).Nodup := by
  rw [Planner.cuts, List.map_append, List.map_map] at hn
  exact (List.nodup_append.1 hn).2.1

theorem findCut_record {s : State} {pre post : List PlateRecord} {r : PlateRecord} (ht : s.planner.table = pre ++ r :: post)
    (hn : (s.planner.cuts.map fun k => k.cut.id).Nodup) : s.findCut r.cut.id = some ⟨r.cut, some r.id⟩ := by
  have hcuts : s.planner.cuts = ((s.planner.head.map fun h => (⟨h.cut, none⟩ : HeldCut)).toList ++
      pre.map fun r => ⟨r.cut, some r.id⟩) ++ ⟨r.cut, some r.id⟩ :: post.map fun r => ⟨r.cut, some r.id⟩ := by
    simp [Planner.cuts, ht]
  rw [hcuts] at hn
  rw [State.findCut, hcuts]
  exact find_unique (key := fun k : HeldCut => k.cut.id) hn

/-- A cut of the table that takes a new state. -/
theorem setCut_record {s : State} {pre post : List PlateRecord} {r : PlateRecord} (st : CutState)
    (ht : s.planner.table = pre ++ r :: post) (hn : (s.planner.cuts.map fun k => k.cut.id).Nodup) : setCut r.cut.id st s =
      { s with planner := { s.planner with table := pre ++ { r with cut := { r.cut with state := st } } :: post } } := by
  have hhead : (s.planner.head.map fun h => if h.cut.id = r.cut.id then { h with cut := { h.cut with state := st } } else h) =
      s.planner.head := by
    cases hh : s.planner.head with
    | none => rfl
    | some h =>
      have hne := head_cut_distinct hh hn r (by rw [ht]; exact List.mem_append_right _ List.mem_cons_self)
      exact congrArg some (if_neg (Ne.symm hne))
  have htable := table_cuts_nodup hn
  rw [ht] at htable
  have hup := updateWhere_unique (key := fun q : PlateRecord => q.cut.id) (fun q => { q with cut := { q.cut with state := st } }) htable
  simp only [setCut, State.modPlanner, ht, hhead]
  rw [hup]

theorem setCut_head {s : State} {h : HeadCut} (st : CutState) (hh : s.planner.head = some h)
    (hn : (s.planner.cuts.map fun k => k.cut.id).Nodup) : setCut h.cut.id st s =
      { s with planner := { s.planner with head := some { h with cut := { h.cut with state := st } } } } := by
  have hup : updateWhere (fun r => r.cut.id == h.cut.id) (fun r => { r with cut := { r.cut with state := st } }) s.planner.table =
      s.planner.table := updateWhere_none _ fun r hr => by simpa using head_cut_distinct hh hn r hr
  simp [setCut, State.modPlanner, hh, hup]

/-- The record with a plate id in a table of distinct ids is changed alone. -/
theorem modRecord_split {s : State} {pre post : List PlateRecord} {r : PlateRecord} (g : PlateRecord → PlateRecord)
    (ht : s.planner.table = pre ++ r :: post) (hn : (s.planner.table.map PlateRecord.id).Nodup) : modRecord r.id g s =
      { s with planner := { s.planner with table := pre ++ g r :: post } } := by
  rw [ht] at hn
  simp only [modRecord, State.modPlanner, ht]
  rw [updateWhere_unique (key := PlateRecord.id) g hn]

/-- Settles O43. -/
theorem answersWithoutEffectAndAccept : Obligations.AnswersWithoutEffectAndAccept := by
  refine ⟨fun s id c hh => ?_, fun s id hh hcuts hids => ⟨fun h hhead hid => ?_, fun pre post r ht hid => ?_⟩⟩
  · intro protocol settled
    refine ⟨fun cut => ⟨?_, ?_⟩, fun hc hhead htable => ?_⟩
    · exact congrArg Host.Outcome.next (if_neg (by simp [hh]))
    · obtain ⟨f, v, he⟩ := report1_frame .cutterProtocol ⟨s.pos.y, s.pos.lastLine, none, none, cut, none, none⟩ s
      rw [show protocol cut = _ from he]
    have hnot (k : Cut) (hk : settled k) : k.state.live = false := by
      rcases hk with h | h | h <;> rw [h] <;> rfl
    have hall : ∀ k ∈ s.planner.cuts, k.cut.id = id → k.cut.state.live = false := by
      rintro k hk hkid
      rcases mem_cuts.1 hk with ⟨h, hh, rfl⟩ | ⟨r, hr, rfl⟩
      exacts [hnot _ (hhead h hh hkid), hnot _ (htable r hr hkid)]
    rcases hc with rfl | rfl | rfl | ⟨r, rfl⟩
    all_goals exact congrArg Host.Outcome.next (answerCut_settled id _ hh hall)
  · subst hid
    have hfind := findCut_head hhead
    refine ⟨fun hst => ?_, fun hst => ?_⟩
    · refine congrArg Host.Outcome.next ((answerCut_live acceptCut hh hfind (by rw [hst]; rfl)).trans ?_)
      exact if_neg (by simp [hst])
    · refine congrArg Host.Outcome.next ((answerCut_live acceptCut hh hfind (by rw [hst]; rfl)).trans ?_)
      rw [acceptCut, if_pos hst]
      exact setCut_head .accepted hhead hcuts
  · subst hid
    have hfind := findCut_record ht hcuts
    refine ⟨fun hst => ?_, fun hst => ?_⟩
    · refine congrArg Host.Outcome.next ((answerCut_live acceptCut hh hfind (by rw [hst]; rfl)).trans ?_)
      exact if_neg (by simp [hst])
    · refine congrArg Host.Outcome.next ((answerCut_live acceptCut hh hfind (by rw [hst]; rfl)).trans ?_)
      rw [acceptCut, if_pos hst]
      dsimp only
      rw [setCut_record .accepted ht hcuts]
      have hids' : ((pre ++ { r with cut := { r.cut with state := .accepted } } :: post).map PlateRecord.id).Nodup := by
        rw [ht] at hids
        simpa using hids
      refine (modRecord_split (s := { s with planner := { s.planner with
        table := pre ++ { r with cut := { r.cut with state := .accepted } } :: post } }) _ rfl hids').trans ?_
      dsimp only
      congr 4
      split <;> simp_all

/-! ### The closing of shifts (R176 to R178) -/

/-- R178: the store once a report has joined it. -/
theorem storeReport_eq (r : Shift) {store kept : List Shift}
    (h : (store.length < 4 ∧ kept = store) ∨ (4 ≤ store.length ∧ ∃ pre low post, store = pre ++ low :: post ∧ kept = pre ++ post ∧
      (∀ h ∈ pre, low.seq < h.seq) ∧ ∀ h ∈ post, low.seq ≤ h.seq)) : storeReport r store = kept ++ [r] := by
  rcases h with ⟨hlen, rfl⟩ | ⟨hlen, pre, low, post, rfl, rfl, hpre, hpost⟩
  · rw [storeReport, if_neg (show ¬ Config.storeCapacity ≤ kept.length from Nat.not_le.2 hlen)]
  · have hleast : least ((pre ++ low :: post).map Shift.seq) = some low.seq := by
      refine (least_eq_some _ _).2 ⟨List.mem_map_of_mem (List.mem_append_right _ List.mem_cons_self), fun n hn => ?_⟩
      obtain ⟨q, hq, rfl⟩ := List.mem_map.1 hn
      rcases List.mem_append.1 hq with hq | hq
      · exact (hpre q hq).le
      rcases List.mem_cons.1 hq with rfl | hq
      exacts [le_rfl, hpost q hq]
    have hdrop : dropLowest (pre ++ low :: post) = pre ++ post := by
      have hne : ∀ q ∈ pre, ¬ ((q.seq == low.seq) = true) := fun q hq => by
        have := hpre q hq
        simp only [beq_iff_eq]
        omega
      simp only [dropLowest, hleast]
      rw [List.eraseP_append_right _ hne]
      simp
    rw [storeReport, if_pos (show Config.storeCapacity ≤ _ from hlen), hdrop]

/-- R176: the check of a CLOSE SHIFT. -/
theorem closeShiftBody_ok {tag : Nat} {f : CloseFields} {s : State} (hm : f.mode ≤ 1) (hl : f.label.length ≤ 16)
    (hp : s.report.pendingClose = none) : closeShiftBody tag f s =
      if decide (f.mode = 1) && s.port.mode.cutting then
        if s.delayFull then .refuse .delayListFull
        else .delay (addDelayed .closeShift tag
          (s.modReport fun r => { r with pendingClose := some ⟨f.label, f.hostTime, tag⟩ }))
      else .ok (closeOpenShift f.label f.hostTime s) (.shiftSeq s.report.shift.seq) := by
  have hmode : closeModeOf f.mode = some (decide (f.mode = 1)) := by
    obtain h | h : f.mode = 0 ∨ f.mode = 1 := by omega
    all_goals rw [h]; rfl
  simp only [closeShiftBody, hmode, Nat.not_lt.2 hl, hp, Option.isSome_none, Bool.false_eq_true, if_false]
  rfl

/-- Settles O50. -/
theorem closeShiftByMode : Obligations.CloseShiftByMode := by
  intro s kept hkept closed
  have hclosed (label : List Byte) (time : Nat) : closeOpenShift label time s = closed label time := by
    have hstore := storeReport_eq { s.report.shift with closeTime := some time, closeY := some s.pos.y } hkept
    simp only [closeOpenShift, State.modReport, hstore]
    rfl
  refine ⟨fun tag f hl hm => ?_, fun hh => ⟨fun h => ?_, fun p tag hp hm hd => ?_⟩⟩
  · intro refused
    have htaken : takenIn .closeShift s.mode = true := by simpa [takenIn, State.mode] using hm
    refine ⟨fun h => exec_refused hl rfl htaken ?_, fun hmode hlabel => ⟨fun hp => exec_refused hl rfl htaken ?_, fun hp h => ?_,
      fun hp h1 hcut => ⟨fun hfull => exec_refused hl rfl htaken ?_, fun hroom => ?_⟩⟩⟩
    · unfold closeShiftBody
      split
      · rfl
      · rename_i b hb
        refine if_pos (h.resolve_left fun hlt => ?_)
        match hf : f.mode, hlt with
        | n + 2, _ =>
          rw [hf] at hb
          cases hb
    · unfold closeShiftBody
      split
      · rename_i hb
        obtain h | h : f.mode = 0 ∨ f.mode = 1 := by omega
        all_goals rw [h] at hb; cases hb
      · rw [if_neg (Nat.not_lt.2 hlabel), if_pos (Option.isSome_iff_ne_none.2 hp)]
    · have hcond : (decide (f.mode = 1) && s.port.mode.cutting) = false := by
        rcases h with h | h <;> simp [h]
      rw [exec_taken hl rfl htaken, closeShiftBody_ok hmode hlabel hp, hcond, if_neg (by simp), answer_ok, hclosed]
    · rw [closeShiftBody_ok hmode hlabel hp, h1, hcut, if_pos (by rfl), if_pos (show s.delayFull = true from decide_eq_true hfull)]
    · have hnot : s.delayFull = false := decide_eq_false (Nat.not_le.2 hroom)
      rw [exec_taken hl rfl htaken, closeShiftBody_ok hmode hlabel hp, h1, hcut, if_pos (by rfl), hnot, if_neg (by simp), answer_delay]
      rfl
  · refine congrArg Host.Outcome.next (show pendingClose s = s from ?_)
    rcases h with h | h
    · unfold pendingClose
      split
      · rfl
      · exact makePendingClose_none h
    · exact if_pos (by simp [State.mode, h])
  · refine congrArg Host.Outcome.next (show pendingClose s = _ from ?_)
    rw [pendingClose, if_neg (by simp [hh, State.mode, hm])]
    simp only [makePendingClose, hp, hclosed]
    by_cases hr : s.ctl.resetting = true
    · rw [answerDelayed_resetting (show ((closed p.label p.hostTime).modReport _).ctl.resetting = true from hr)]
      simp only [hr, if_true, List.append_nil]
      rfl
    · have hr' : s.ctl.resetting = false := by simpa using hr
      rw [answerDelayed_some (show ((closed p.label p.hostTime).modReport _).ctl.resetting = false from hr') hd]
      simp only [hr', Bool.false_eq_true, if_false]
      rfl

end Sys2Proof.Machine
end

section
/-!
Orders: LOAD ORDER, WITHDRAW ORDER and START PRODUCTION (O37, O38 and O39).
-/

namespace Sys2Proof.Machine

/-! ### Fit checks and records of an order -/

/-- R90, checks 3 and 4. -/
theorem fitCheck_eq {s : State} {a : Agreement} (o : Order) (h : s.cutter.agreement = some a) : s.fitCheck o =
    if o.length < a.cMin ∨ a.cap.across < o.split then some .notCuttable
    else if s.pos.geometry.dgc < o.length + s.planner.params.maxCull + a.lead + s.planner.params.guard then some .orderTooLong
    else none := by
  simp only [State.fitCheck, h]
  rfl

theorem fitCheck_notCuttable {s : State} {a : Agreement} {o : Order} (h : s.cutter.agreement = some a)
    (hc : ¬ (a.cMin ≤ o.length ∧ o.split ≤ a.cap.across)) : s.fitCheck o = some .notCuttable := by
  rw [fitCheck_eq o h, if_pos (by omega)]

theorem fitCheck_tooLong {s : State} {a : Agreement} {o : Order} (h : s.cutter.agreement = some a)
    (hc : a.cMin ≤ o.length ∧ o.split ≤ a.cap.across)
    (hl : ¬ o.length + s.planner.params.maxCull + a.lead + s.planner.params.guard ≤ s.pos.geometry.dgc) :
    s.fitCheck o = some .orderTooLong := by
  rw [fitCheck_eq o h, if_neg (by omega), if_pos (Nat.not_le.1 hl)]

theorem fitCheck_fits {s : State} {a : Agreement} {o : Order} (h : s.cutter.agreement = some a)
    (hc : a.cMin ≤ o.length ∧ o.split ≤ a.cap.across)
    (hl : o.length + s.planner.params.maxCull + a.lead + s.planner.params.guard ≤ s.pos.geometry.dgc) : s.fitCheck o = none := by
  rw [fitCheck_eq o h, if_neg (by omega), if_neg (Nat.not_lt.2 hl)]

theorem fitCheck_noAgreement {s : State} (o : Order) (h : s.cutter.agreement = none) : s.fitCheck o = none := by
  simp only [State.fitCheck, h]

theorem recordsOf_eq_zero (s : State) (id : Nat) : s.recordsOf id = 0 ↔ ¬ ∃ r ∈ s.planner.table, r.order = some id ∧ r.state ≠ .void := by
  rw [State.recordsOf, List.length_eq_zero_iff, List.filter_eq_nil_iff]
  simp only [Bool.and_eq_true, beq_iff_eq, bne_iff_ne, not_exists, not_and]

/-- The order with an id in a queue of distinct ids. -/
theorem findOrder_split {s : State} {pre post : List Order} {o : Order} (hq : s.orders.queue = pre ++ o :: post)
    (hn : (s.orders.queue.map Order.id).Nodup) : s.findOrder o.id = some o := by
  rw [hq] at hn
  rw [State.findOrder, hq]
  exact find_unique (key := Order.id) hn

theorem modOrder_split {s : State} {pre post : List Order} {o : Order} (g : Order → Order) (hq : s.orders.queue = pre ++ o :: post)
    (hn : (s.orders.queue.map Order.id).Nodup) : modOrder o.id g s =
      { s with orders := { s.orders with queue := pre ++ g o :: post } } := by
  rw [hq] at hn
  simp only [modOrder, State.modOrders, hq]
  rw [updateWhere_unique (key := Order.id) g hn]

theorem modOrder_eq (id : Nat) (g : Order → Order) (s : State) : modOrder id g s =
    { s with orders := { s.orders with queue := s.orders.queue.map fun q => if q.id = id then g q else q } } := by
  simp only [modOrder, State.modOrders, updateWhere, beq_iff_eq]

theorem finishOrder_split {s : State} {pre post : List Order} {o : Order} (c : OrderOutcome) (hq : s.orders.queue = pre ++ o :: post)
    (hn : (s.orders.queue.map Order.id).Nodup) : finishOrder o c s = raise (outcomeEvent c) (tally (Shift.orderFinished c)
      { s with orders := { s.orders with
        queue := pre ++ post
        finished := pushBounded 8 s.orders.finished
          ⟨o.id, o.quantity, o.target, o.planned, o.delivered, c, s.report.shift.seq⟩ } }) := by
  rw [hq] at hn
  simp only [finishOrder, State.modOrders, hq, filter_unique (key := Order.id) hn]
  rfl

/-! ### Activation (R93) -/

theorem activateUpTo_idle (n : Nat) {s : State} (h : s.port.mode ≠ .produce ∨ s.activeOrder.isSome = true ∨ s.oldestQueued = none) :
    activateUpTo n s = s := by
  cases n with
  | zero => rfl
  | succ n =>
    unfold activateUpTo
    split
    · rfl
    · rename_i hnot
      have hnone : s.oldestQueued = none := by
        rcases h with h | h | h
        exacts [absurd (.inl h) hnot, absurd (.inr h) hnot, h]
      rw [hnone]

theorem activateNext_idle {s : State} (h : s.port.mode ≠ .produce ∨ s.activeOrder.isSome = true ∨ s.oldestQueued = none) :
    activateNext s = s := activateUpTo_idle _ h

/-- R93: the oldest QUEUED order that fits, and lacks its quantity, becomes ACTIVE. -/
theorem activateNext_fits {s : State} {n : Order} (hm : s.port.mode = .produce) (ha : s.activeOrder = none) (hn : s.oldestQueued = some n)
    (hf : s.fitCheck n = none) (hq : n.quantity = 0 ∨ n.planned < n.quantity) : activateNext s = makeActive n s := by
  obtain ⟨k, hk⟩ : ∃ k, s.orders.queue.length = k + 1 := by
    have hmem := List.mem_of_find?_eq_some hn
    exact ⟨s.orders.queue.length - 1, by have := List.length_pos_of_mem hmem; omega⟩
  rw [activateNext, hk]
  unfold activateUpTo
  rw [if_neg (by simp [State.mode, hm, ha]), hn]
  dsimp only
  rw [hf, if_neg (by simp), if_neg (by omega)]

theorem makeActive_eq (o : Order) (s : State) : ∃ p, makeActive o s = { s with
    orders := { s.orders with
      queue := s.orders.queue.map fun q => if q.id = o.id then { q with state := .active } else q, exhausted := false },
    planner := { s.planner with planning := p },
    port := { s.port with events := s.port.events ||| Event.orderActivated.single } } := by
  obtain ⟨p, hp, -⟩ := testRoom_spec (raise .orderActivated
    ((modOrder o.id (fun q => { q with state := .active }) s).modOrders fun u => { u with exhausted := false }))
  refine ⟨p, ?_⟩
  rw [makeActive, hp, modOrder_eq]
  rfl

theorem oldestQueued_none {s : State} (h : ∀ o ∈ s.orders.queue, o.state ≠ .queued) : s.oldestQueued = none :=
  List.find?_eq_none.2 fun o ho => by simpa using h o ho

theorem activeOrder_none {s : State} (h : ∀ o ∈ s.orders.queue, o.state ≠ .active) : s.activeOrder = none :=
  List.find?_eq_none.2 fun o ho => by simpa using h o ho

/-! ### LOAD ORDER -/

theorem targetOf_eq (n : Nat) : targetOf n = if n ≤ 2 then some (if n = 0 then .a else if n = 1 then .b else .c) else none := by
  match n with
  | 0 | 1 | 2 => rfl
  | n + 3 => simp [targetOf]

theorem fallbackOf_eq (n : Nat) : fallbackOf n = if n ≤ 1 then some (if n = 0 then .take else .cull) else none := by
  match n with
  | 0 | 1 => rfl
  | n + 2 => simp [fallbackOf]

/-- Table 5-2. -/
def OrderInRange (g : LineGeometry) (f : OrderFields) : Prop :=
  (1 ≤ f.id ∧ f.id ≤ 65535) ∧ (6000 ≤ f.length ∧ f.length ≤ 60000) ∧ (1 ≤ f.split ∧ f.split ≤ 4) ∧
    f.quantity ≤ 65535 ∧ f.target ≤ 2 ∧ f.fallback ≤ 1 ∧ f.positions.length + 1 = f.split ∧
    f.positions.Pairwise (fun x y => x < y) ∧ ∀ x ∈ f.positions, g.xL < x ∧ x < g.xR

/-- The order that fields in range give. -/
def orderCoded (f : OrderFields) (st : OrderState) : Order :=
  ⟨f.id, f.length, f.split, f.positions, f.quantity, if f.target = 0 then .a else if f.target = 1 then .b else .c,
    if f.fallback = 0 then .take else .cull, st, 0, 0⟩

theorem orderOf_inRange {g : LineGeometry} {f : OrderFields} (h : OrderInRange g f) : orderOf g f = some (orderCoded f .queued) := by
  obtain ⟨hid, hlen, hsplit, hq, ht, hfb, hpos, hasc, hnet⟩ := h
  have hasc' := (ascendingBetween_iff g.xL g.xR f.positions).2 ⟨hasc, hnet⟩
  simp only [orderOf, targetOf_eq, fallbackOf_eq, if_pos ht, if_pos hfb]
  refine if_pos ?_
  simp only [Bool.and_eq_true, within_iff, decide_eq_true_eq]
  exact ⟨⟨⟨⟨⟨hid, hlen⟩, hsplit⟩, Nat.zero_le _, hq⟩, hpos⟩, hasc'⟩

theorem orderOf_outOfRange {g : LineGeometry} {f : OrderFields} (h : ¬ OrderInRange g f) : orderOf g f = none := by
  simp only [orderOf, targetOf_eq, fallbackOf_eq]
  by_cases ht : f.target ≤ 2
  · by_cases hfb : f.fallback ≤ 1
    · rw [if_pos ht, if_pos hfb]
      refine if_neg fun hc => h ?_
      simp only [Bool.and_eq_true, within_iff, decide_eq_true_eq, ascendingBetween_iff] at hc
      obtain ⟨⟨⟨⟨⟨hid, hlen⟩, hsplit⟩, -, hq⟩, hpos⟩, hasc, hnet⟩ := hc
      exact ⟨hid, hlen, hsplit, hq, ht, hfb, hpos, hasc, hnet⟩
    · rw [if_pos ht, if_neg hfb]
  · rw [if_neg ht]

/-- R89: the state once an order has joined the queue. -/
def queuedOrder (o : Order) (s : State) : State := s.modOrders fun u => { u with queue := u.queue ++ [o] }

theorem loadOrderBody_eq {f : OrderFields} {s : State} (hc : s.pos.configured = true) (hr : OrderInRange s.pos.geometry f) :
    loadOrderBody f s =
      if 8 ≤ s.orders.queue.length then .refuse .queueFull
      else if (s.findOrder f.id).isSome then .refuse .duplicateId
      else match s.fitCheck (orderCoded f .queued) with
        | some r => .refuse r
        | none => .ok (activateNext (queuedOrder (orderCoded f .queued) s)) (.loaded
          (if (activateNext (queuedOrder (orderCoded f .queued) s)).activeOrder.any fun q => q.id == f.id then .active else .queued)) := by
  have horder : orderOf s.geo f = some (orderCoded f .queued) := orderOf_inRange hr
  simp only [loadOrderBody, hc, horder, Bool.not_true, Bool.false_eq_true, if_false]
  rfl

theorem findOrder_isSome (s : State) (id : Nat) : (s.findOrder id).isSome = true ↔ ∃ o ∈ s.orders.queue, o.id = id := by
  simp [State.findOrder]

/-- Settles O37. -/
theorem loadOrderChecksAndQueues : Obligations.LoadOrderChecksAndQueues := by
  intro s tag f hl hm refused inRange order cuttable plannable
  have htaken : takenIn .loadOrder s.mode = true := by simpa [takenIn, State.mode] using hm
  refine ⟨fun hc => exec_refused hl rfl htaken ?_, fun hc hr => exec_refused hl rfl htaken ?_, fun hc hr => ?_⟩
  · simp [loadOrderBody, hc]
  · have horder : orderOf s.geo f = none := orderOf_outOfRange hr
    simp only [loadOrderBody, hc, horder, Bool.not_true, Bool.false_eq_true, if_false]
  have hbody := loadOrderBody_eq hc hr
  refine ⟨fun hfull => exec_refused hl rfl htaken (by rw [hbody, if_pos hfull]), fun hroom hdup => exec_refused hl rfl htaken ?_,
    fun hroom hnew => ?_⟩
  · rw [hbody, if_neg (Nat.not_le.2 hroom), if_pos ((findOrder_isSome _ _).2 hdup)]
  have hdup : ¬ (s.findOrder f.id).isSome = true := fun h => by
    obtain ⟨o, ho, hid⟩ := (findOrder_isSome _ _).1 h
    exact hnew o ho hid
  rw [if_neg (Nat.not_le.2 hroom), if_neg hdup] at hbody
  refine ⟨fun hcut => exec_refused hl rfl htaken ?_, fun hcut hplan => exec_refused hl rfl htaken ?_, fun hcut hplan => ?_⟩
  · obtain ⟨a, ha, hnot⟩ : ∃ a, s.cutter.agreement = some a ∧ ¬ (a.cMin ≤ f.length ∧ f.split ≤ a.cap.across) := by
      simpa only [cuttable, not_forall, exists_prop] using hcut
    rw [hbody, fitCheck_notCuttable (o := orderCoded f .queued) ha hnot]
  · obtain ⟨a, ha, hnot⟩ : ∃ a, s.cutter.agreement = some a ∧
        ¬ f.length + s.planner.params.maxCull + a.lead + s.planner.params.guard ≤ s.pos.geometry.dgc := by
      simpa only [plannable, not_forall, exists_prop] using hplan
    rw [hbody, fitCheck_tooLong (o := orderCoded f .queued) ha (hcut a ha) hnot]
  · have hfit : s.fitCheck (orderCoded f .queued) = none := by
      cases ha : s.cutter.agreement with
      | none => exact fitCheck_noAgreement _ ha
      | some a => exact fitCheck_fits (o := orderCoded f .queued) ha (hcut a ha) (hplan a ha)
    rw [hfit] at hbody
    have hexec := exec_taken hl (c := .loadOrder tag (.fields f)) rfl htaken
    rw [hbody] at hexec
    refine ⟨fun h => ?_, fun hp hend => ?_⟩
    · have hactive : (queuedOrder (orderCoded f .queued) s).activeOrder = s.activeOrder := by
        simp [State.activeOrder, queuedOrder, orderCoded, List.find?_append]
      have hidle : activateNext (queuedOrder (orderCoded f .queued) s) = queuedOrder (orderCoded f .queued) s := by
        refine activateNext_idle (h.imp_right fun ⟨o, ho, hst⟩ => .inl ?_)
        rw [hactive]
        simpa [State.activeOrder] using ⟨o, ho, hst⟩
      have hnot : (s.activeOrder.any fun q => q.id == f.id) = false := by
        cases ha : s.activeOrder with
        | none => rfl
        | some q => simpa using hnew q (List.mem_of_find?_eq_some ha)
      rw [hidle, hactive, hnot] at hexec
      exact hexec.trans (congrArg Host.Outcome.next (answer_ok ..))
    · have hstate (st : OrderState) (hst : st ≠ .ending) : s.orders.queue.find? (fun o => o.state == st) = none :=
        List.find?_eq_none.2 fun o ho => by simp [hend o ho, Ne.symm hst]
      have hactive : (queuedOrder (orderCoded f .queued) s).activeOrder = none := by
        simp [State.activeOrder, queuedOrder, orderCoded, List.find?_append, hstate]
      have holdest : (queuedOrder (orderCoded f .queued) s).oldestQueued = some (orderCoded f .queued) := by
        simp [State.oldestQueued, queuedOrder, orderCoded, List.find?_append, hstate]
      have hnext := activateNext_fits (s := queuedOrder (orderCoded f .queued) s) hp hactive holdest hfit
        (by simp only [orderCoded]; omega)
      obtain ⟨p, hmade⟩ := makeActive_eq (orderCoded f .queued) (queuedOrder (orderCoded f .queued) s)
      have hqueue : (s.orders.queue ++ [orderCoded f .queued]).map
          (fun q : Order => if q.id = f.id then { q with state := .active } else q) = s.orders.queue ++ [orderCoded f .active] := by
        rw [List.map_append, (List.map_congr_left fun q hq => if_neg (hnew q hq)).trans (List.map_id' _)]
        simp [orderCoded]
      have hmade' : activateNext (queuedOrder (orderCoded f .queued) s) = { s with
          orders := { s.orders with queue := s.orders.queue ++ [orderCoded f .active], exhausted := false },
          planner := { s.planner with planning := p },
          port := { s.port with events := s.port.events ||| Event.orderActivated.single } } := by
        rw [hnext, hmade, ← hqueue]
        rfl
      refine ⟨p, ?_⟩
      have hany : ((activateNext (queuedOrder (orderCoded f .queued) s)).activeOrder.any fun q => q.id == f.id) = true := by
        rw [hmade']
        simp [State.activeOrder, List.find?_append, hstate, orderCoded]
      rw [hany, hmade'] at hexec
      exact hexec.trans (congrArg Host.Outcome.next (answer_ok ..))

/-! ### WITHDRAW ORDER -/

theorem endOrder_records {s : State} {id : Nat} (h : s.recordsOf id ≠ 0) : ∃ p, endOrder id s = { s with
    orders := { s.orders with queue := s.orders.queue.map fun q => if q.id = id then { q with state := .ending } else q },
    planner := { s.planner with planning := p } } := by
  have hrecords : (modOrder id (fun o => { o with state := .ending }) s).recordsOf id ≠ 0 := h
  have htest : testFinish id (modOrder id (fun o => { o with state := .ending }) s) = modOrder id (fun o => { o with state := .ending }) s := by
    unfold testFinish
    split
    · rfl
    · exact if_neg fun hc => hrecords hc.2
  obtain ⟨p, hp, -⟩ := testRoom_spec (modOrder id (fun o => { o with state := .ending }) s)
  refine ⟨p, ?_⟩
  rw [endOrder, htest, hp, modOrder_eq]

/-- R98: an order without records that enters ENDING finishes. -/
theorem endOrder_noRecords {s : State} {pre post : List Order} {o : Order} (hq : s.orders.queue = pre ++ o :: post)
    (hn : (s.orders.queue.map Order.id).Nodup) (h : s.recordsOf o.id = 0) : endOrder o.id s =
      testRoom (finishOrder { o with state := .ending } o.outcome
        { s with orders := { s.orders with queue := pre ++ { o with state := .ending } :: post } }) := by
  have hids : ((pre ++ { o with state := .ending } :: post).map Order.id).Nodup := by
    rw [hq] at hn
    simpa using hn
  rw [endOrder, modOrder_split _ hq hn]
  have hfind := findOrder_split (s := { s with orders := { s.orders with queue := pre ++ { o with state := .ending } :: post } }) rfl hids
  have hfind' : State.findOrder { s with orders := { s.orders with queue := pre ++ { o with state := .ending } :: post } } o.id = _ := hfind
  unfold testFinish
  rw [hfind']
  dsimp only
  exact congrArg testRoom (if_pos ⟨rfl, h⟩)

theorem map_split {pre post : List Order} {o : Order} (g : Order → Order) (hn : ((pre ++ o :: post).map Order.id).Nodup) :
    ((pre ++ o :: post).map fun q => if q.id = o.id then g q else q) = pre ++ g o :: post := by
  have h := updateWhere_unique (key := Order.id) g hn
  simpa only [updateWhere, beq_iff_eq] using h

theorem withdrawOrderBody_found {s : State} {o : Order} (h : s.findOrder o.id = some o) :
    withdrawOrderBody o.id s = .ok (withdraw o s) (.orderState ((withdraw o s).orderState o.id)) := by
  simp only [withdrawOrderBody, h]

/-- Settles O38. -/
theorem withdrawOrderByState : Obligations.WithdrawOrderByState := by
  intro s tag id hl hm
  have htaken : takenIn .withdrawOrder s.mode = true := by simpa [takenIn, State.mode] using hm
  refine ⟨fun hnone => exec_refused hl rfl htaken ?_, fun pre post o hq hid hlaw => ?_⟩
  · have hfind : s.findOrder id = none := List.find?_eq_none.2 fun o ho => by simpa using hnone o ho
    simp only [withdrawOrderBody, hfind]
  subst hid
  intro ended hasRecords finished
  have hids := hlaw.2
  have hids' : ((pre ++ o :: post).map Order.id).Nodup := hq ▸ hids
  have hended : (ended.map Order.id).Nodup := by simpa [ended] using hids'
  have hne := distinct_keys (key := Order.id) hids'
  have hfind := findOrder_split hq hids
  have hexec : exec (.withdrawOrder tag (.fields o.id)) s =
      .next ((withdraw o s).answered .withdrawOrder tag .ok (.orderState ((withdraw o s).orderState o.id))) := by
    rw [exec_taken hl rfl htaken, withdrawOrderBody_found hfind, answer_ok]
  have hstateEnded (t : State) (ht : t.orders.queue = ended) : t.orderState o.id = some .ending := by
    have h := findOrder_split (s := t) (o := { o with state := .ending }) ht (by rw [ht]; exact hended)
    exact congrArg (Option.map Order.state) h
  have hstateGone (t : State) (ht : t.orders.queue = pre ++ post) : t.orderState o.id = none := by
    have h : t.findOrder o.id = none := List.find?_eq_none.2 fun q hq => by
      rw [ht, List.mem_append] at hq
      simpa using hne q hq
    exact congrArg (Option.map Order.state) h
  refine ⟨fun hst hrec => ?_, fun hst hrec => ?_, fun hst => ?_, fun hst hrec => ?_, fun hst hrec hidle => ?_⟩
  · have hw : withdraw o s = finishOrder o .withdrawn s := by
      simp only [withdraw, hst, if_pos ((recordsOf_eq_zero s o.id).2 hrec)]
    rw [finishOrder_split .withdrawn hq hids] at hw
    rw [hexec, hstateGone _ (by rw [hw]; rfl), hw]
    rfl
  · have hw : withdraw o s = modOrder o.id (fun q => { q with state := .ending }) s := by
      simp only [withdraw, hst, if_neg (fun h => (recordsOf_eq_zero s o.id).1 h hrec)]
    rw [modOrder_split _ hq hids] at hw
    rw [hexec, hstateEnded _ (by rw [hw]), hw]
  · have hw : withdraw o s = s := by simp only [withdraw, hst]
    have hstate : s.orderState o.id = some .ending := (congrArg (Option.map Order.state) hfind).trans (by simp [hst])
    rw [hexec, hw, hstate]
  · obtain ⟨p, hp⟩ := endOrder_records (s := s) (id := o.id) fun h => (recordsOf_eq_zero s o.id).1 h hrec
    rw [hq, map_split _ hids'] at hp
    have hw : withdraw o s = activateNext (endOrder o.id s) := by simp only [withdraw, hst]
    refine ⟨fun hidle => ⟨p, ?_⟩, fun n hprod hactive hn hfits hquantity => ?_⟩
    · have hact : activateNext (endOrder o.id s) = endOrder o.id s := by
        rw [hp]
        refine activateNext_idle (hidle.symm.imp_right fun h => .inr (oldestQueued_none fun q hmem => ?_))
        rcases List.mem_append.1 hmem with hmem | hmem
        · exact h q (List.mem_append_left _ hmem)
        rcases List.mem_cons.1 hmem with rfl | hmem
        · simp
        · exact h q (List.mem_append_right _ hmem)
      rw [hexec, hstateEnded _ (by rw [hw, hact, hp]), hw, hact, hp]
    · have holdest : (endOrder o.id s).oldestQueued = some n := by
        rw [hp]
        change (pre ++ { o with state := .ending } :: post).find? (fun q => q.state == .queued) = some n
        rw [List.find?_append] at hn ⊢
        simpa using hn
      have hnone : (endOrder o.id s).activeOrder = none := by
        rw [hp]
        refine activeOrder_none fun q hmem => ?_
        rcases List.mem_append.1 hmem with hmem | hmem
        · exact hactive q (List.mem_append_left _ hmem)
        rcases List.mem_cons.1 hmem with rfl | hmem
        · simp
        · exact hactive q (List.mem_append_right _ hmem)
      have hnext := activateNext_fits (s := endOrder o.id s) (by rw [hp]; exact hprod) hnone holdest (by rw [hp]; exact hfits) hquantity
      obtain ⟨p', hp'⟩ := makeActive_eq n (endOrder o.id s)
      rw [hp] at hp'
      have hstate : (withdraw o s).orderState o.id = some .ending := by
        have hno : n.id ≠ o.id := by
          have hmem := List.mem_of_find?_eq_some hn
          exact hne n (List.mem_append.1 hmem)
        have hqueue : (withdraw o s).orders.queue =
            (pre.map fun q => if q.id = n.id then { q with state := .active } else q) ++ { o with state := .ending } ::
              post.map fun q => if q.id = n.id then { q with state := .active } else q := by
          rw [hw, hnext, hp, hp']
          simp [Ne.symm hno]
        have hnodup : ((withdraw o s).orders.queue.map Order.id).Nodup := by
          have hsame (xs : List Order) : (xs.map fun q => if q.id = n.id then { q with state := .active } else q).map Order.id =
              xs.map Order.id := by
            rw [List.map_map]
            refine List.map_congr_left fun q _ => ?_
            simp only [Function.comp]
            split <;> rfl
          rw [hqueue, List.map_append, List.map_cons, hsame, hsame]
          simpa using hids'
        have h := findOrder_split (o := { o with state := .ending }) hqueue hnodup
        exact congrArg (Option.map Order.state) h
      refine ⟨p', ?_⟩
      rw [hexec, hstate, hw, hnext, hp, hp']
  · obtain ⟨p, hp, -⟩ := testRoom_spec (finishOrder { o with state := .ending } o.outcome
      { s with orders := { s.orders with queue := ended } })
    have hend := endOrder_noRecords hq hids ((recordsOf_eq_zero s o.id).2 hrec)
    rw [hp, finishOrder_split (s := { s with orders := { s.orders with queue := ended } }) _ rfl hended] at hend
    have hw : withdraw o s = endOrder o.id s := by
      have hact : activateNext (endOrder o.id s) = endOrder o.id s := by
        rw [hend]
        exact activateNext_idle (hidle.symm.imp_right fun h => .inr (oldestQueued_none h))
      simp only [withdraw, hst, hact]
    refine ⟨endOrder o.id s, ?_, ?_⟩
    · rw [hexec, hstateGone _ (by rw [hw, hend]; rfl), hw]
    · have hevent : outcomeEvent o.outcome = .orderFinished := by
        unfold Order.outcome
        split <;> rfl
      rw [hend]
      refine ⟨rfl, ?_, rfl, rfl, rfl, rfl, rfl, rfl, rfl, rfl⟩
      change (raise (outcomeEvent o.outcome) _).latched .orderFinished = true
      rw [hevent, latched_raise]
      simp

/-! ### What activation keeps -/

theorem activateNext_latched {s : State} {e : Event} (h : s.latched e = true) : (activateNext s).latched e = true :=
  latched_of_touched (fun w s => activateNext_touched id w [] s) h

theorem testRoom_latched (s : State) (e : Event) : (testRoom s).latched e = s.latched e := by
  obtain ⟨p, hp, -⟩ := testRoom_spec s
  rw [hp]
  rfl

/-- The Planner goes on testing its triggers, and no run of filler culls is marked. -/
def Producing (s : State) : Prop := s.orders.exhausted = false ∧ s.planner.planning.testing = true

theorem testRoom_producing {s : State} (h : Producing s) : Producing (testRoom s) := by
  obtain ⟨p, hp, -, hready⟩ := testRoom_spec s
  rw [hp]
  exact ⟨h.1, by rcases hready h.2 with h | h <;> rw [h] <;> rfl⟩

theorem finishOrder_producing {s : State} (o : Order) (c : OrderOutcome) (h : Producing s) : Producing (finishOrder o c s) := h

theorem testFinish_producing {s : State} (id : Nat) (h : Producing s) : Producing (testFinish id s) := by
  unfold testFinish
  split
  · exact h
  split
  · exact finishOrder_producing _ _ h
  · exact h

theorem endOrder_producing {s : State} (id : Nat) (h : Producing s) : Producing (endOrder id s) :=
  testRoom_producing (testFinish_producing id (s := modOrder id (fun o => { o with state := .ending }) s) h)

theorem makeActive_producing {s : State} (o : Order) (h : Producing s) : Producing (makeActive o s) :=
  testRoom_producing ⟨rfl, h.2⟩

theorem failQueued_producing {s : State} (o : Order) (h : Producing s) : Producing (failQueued o s) := by
  unfold failQueued
  split
  · exact finishOrder_producing _ _ h
  · exact h

theorem activateUpTo_producing (n : Nat) {s : State} (h : Producing s) : Producing (activateUpTo n s) := by
  induction n generalizing s with
  | zero => exact h
  | succ n ih =>
    unfold activateUpTo
    split
    · exact h
    split
    · exact h
    split
    · exact ih (failQueued_producing _ h)
    split
    · exact ih (endOrder_producing _ (makeActive_producing _ h))
    · exact makeActive_producing _ h

/-! ### START PRODUCTION -/

theorem roundUp_spec (a : Nat) {m : Nat} (h : 0 < m) : roundUp a m % m = 0 ∧ a ≤ roundUp a m ∧ ∀ p, p % m = 0 → a ≤ p → roundUp a m ≤ p := by
  have hdiv := Nat.div_add_mod (a + m - 1) m
  have hmod := Nat.mod_lt (a + m - 1) h
  have hceil : roundUp a m = m * ((a + m - 1) / m) := Nat.mul_comm ..
  refine ⟨Nat.mul_mod_left _ _, by omega, fun p hp hap => ?_⟩
  obtain ⟨k, rfl⟩ := Nat.dvd_of_mod_eq_zero hp
  rw [hceil]
  refine Nat.mul_le_mul_left m ?_
  refine Nat.le_of_lt_succ ((Nat.div_lt_iff_lt_mul h).2 ?_)
  rw [Nat.succ_mul, Nat.mul_comm k m]
  omega

/-- R107: the lower bound of the head cut. -/
def State.headCutBound (s : State) (a : Agreement) : Nat :=
  match s.planner.lastCut with
  | none => s.pos.y + a.lead + s.planner.params.guard - s.pos.geometry.dgc
  | some p => max (s.pos.y + a.lead + s.planner.params.guard - s.pos.geometry.dgc) (p + a.cMin)

theorem headCutPos_eq (s : State) (a : Agreement) : s.headCutPos a = roundUp (s.headCutBound a) s.pos.geometry.pitch := rfl

theorem headCutBound_le (s : State) (a : Agreement) (p : Nat) : s.headCutBound a ≤ p ↔
    s.pos.y + a.lead + s.planner.params.guard ≤ p + s.pos.geometry.dgc ∧ ∀ q, s.planner.lastCut = some q → q + a.cMin ≤ p := by
  unfold State.headCutBound
  cases s.planner.lastCut with
  | none => simp
  | some q => simp

/-- R202: the state in which START PRODUCTION looks for an order to activate. -/
def producing (a : Agreement) (s : State) : State :=
  commitHead (s.headCutPos a) ((setMode .produce s).modOrders fun u => { u with exhausted := false })

theorem startProduction_eq (a : Agreement) (s : State) : startProduction a s = testRoom (activateNext (producing a s)) := rfl

theorem producing_producing (a : Agreement) (s : State) : Producing (producing a s) := ⟨rfl, rfl⟩

/-- Settles O39. -/
theorem startProductionCommitsTheHeadCut : Obligations.StartProductionCommitsTheHeadCut := by
  intro s tag hl hm
  have htaken : takenIn .startProduction s.mode = true := by simp [takenIn, State.mode, hm]
  refine ⟨fun h => exec_refused hl rfl htaken (if_pos ?_), fun hc hv ha => exec_refused hl rfl htaken ?_, fun a hc hv ha hpitch => ?_⟩
  · simpa using h
  · rw [startProductionBody, if_neg (by simp [hc, hv]), ha]
  intro bounded
  obtain ⟨hmod, hle, hleast⟩ := roundUp_spec (s.headCutBound a) hpitch
  rw [← headCutPos_eq] at hmod hle hleast
  have hbody : startProductionBody s = .ok (startProduction a s) (.headCut s.planner.nextCut (s.headCutPos a)) := by
    rw [startProductionBody, if_neg (by simp [hc, hv]), ha]
  have hprod : Producing (startProduction a s) := testRoom_producing (activateUpTo_producing _ (producing_producing a s))
  obtain ⟨u, p, v, x, he, -⟩ := (activateNext_ordersOnly (producing a s)).trans (testRoom_ordersOnly _)
  rw [← startProduction_eq] at he
  have hplanning : (startProduction a s).planner.planning = .ready ∨ (startProduction a s).planner.planning = .waiting := by
    have h := hprod.2
    cases hp : (startProduction a s).planner.planning <;> simp [hp, PlanningState.testing] at h ⊢
  have hlatched : (startProduction a s).latched .modeChanged = true := by
    rw [startProduction_eq, testRoom_latched]
    refine activateNext_latched ?_
    change (setMode .produce s).latched .modeChanged = true
    simp
  refine ⟨s.headCutPos a, startProduction a s, ?_, ⟨hmod, (headCutBound_le s a _).1 hle⟩, fun q hq => ?_, ?_, hlatched, hprod.1, ?_, ?_, ?_,
    ?_, hplanning, ?_, ?_, ?_, ?_, ?_, ?_, ?_, ?_, ?_, ?_, fun hnone => ?_, fun n hlaw hactive hn hmin hacross hlen hquantity => ?_⟩
  · rw [exec_taken hl rfl htaken, hbody, answer_ok]
  · exact hleast q hq.1 ((headCutBound_le s a q).2 hq.2)
  any_goals
    rw [he]
    rfl
  · have hidle : activateNext (producing a s) = producing a s := activateNext_idle (.inr (.inr (oldestQueued_none hnone)))
    obtain ⟨p, hp, -⟩ := testRoom_spec (producing a s)
    rw [startProduction_eq, hidle, hp]
    rfl
  · have hfit : (producing a s).fitCheck n = none := fitCheck_fits (s := producing a s) ha ⟨hmin, hacross⟩ hlen
    have hnext := activateNext_fits (s := producing a s) rfl (activeOrder_none hactive) hn hfit hquantity
    obtain ⟨p, hp⟩ := makeActive_eq n (producing a s)
    obtain ⟨p', hp', -⟩ := testRoom_spec (makeActive n (producing a s))
    rw [startProduction_eq, hnext]
    refine ⟨?_, ?_⟩
    · rw [testRoom_latched, hp]
      change (raise .orderActivated (producing a s)).latched .orderActivated = true
      simp
    · rw [hp', hp]
      rfl

end Sys2Proof.Machine
end

section
/-!
Joined chains and the drain: which table an open chain retires with, and what STOP PRODUCTION and DRAIN COMPLETE leave (O46).
-/

namespace Sys2Proof.Machine

/-! ### Orders that finish with a chain (R98) -/

/-- What the tests for finishing after a retirement can change. -/
structure Finished (s t : State) : Prop where
  frame : ∃ u c h e, t = { s with
    orders := u,
    report := { s.report with shift := { s.report.shift with complete := c, short := h } },
    port := { s.port with events := e } }
  latched : ∀ e, s.latched e = true → t.latched e = true
  quiet : (∀ o ∈ s.orders.queue, o.state ≠ .ending) → t = s

theorem Finished.refl (s : State) : Finished s s := ⟨⟨_, _, _, _, rfl⟩, fun _ h => h, fun _ => rfl⟩

theorem Finished.trans {s t u : State} (h : Finished s t) (h' : Finished t u) : Finished s u where
  frame := by
    obtain ⟨a, b, c, d, rfl⟩ := h.frame
    obtain ⟨a', b', c', d', rfl⟩ := h'.frame
    exact ⟨_, _, _, _, rfl⟩
  latched e he := h'.latched e (h.latched e he)
  quiet hs := by
    have ht := h.quiet hs
    rw [h'.quiet (by rwa [ht]), ht]

theorem finishOrder_finished (o : Order) (s : State) (ho : o ∈ s.orders.queue) (he : o.state = .ending) :
    Finished s (finishOrder o o.outcome s) where
  frame := by
    unfold Order.outcome
    split <;> exact ⟨_, _, _, _, rfl⟩
  latched e h := by
    change (raise _ _).latched e = true
    rw [latched_raise]
    exact Bool.or_eq_true_iff.2 (.inl h)
  quiet h := absurd he (h o ho)

theorem testFinish_finished (id : Nat) (s : State) : Finished s (testFinish id s) := by
  unfold testFinish
  split
  · exact .refl s
  · rename_i o ho
    split
    · rename_i h
      exact finishOrder_finished o s (List.mem_of_find?_eq_some ho) h.1
    · exact .refl s

theorem finishTest_finished (s : State) (r : PlateRecord) : Finished s (finishTest s r) := by
  unfold finishTest
  split
  · exact .refl s
  · exact testFinish_finished _ s

theorem finishTests_finished (rs : List PlateRecord) (s : State) : Finished s (rs.foldl finishTest s) := by
  induction rs generalizing s with
  | nil => exact .refl s
  | cons r rs ih => exact (finishTest_finished s r).trans (ih _)

/-! ### The journal of a chain (R180) -/

theorem addJournal_latched (r : PlateRecord) (c : Option (Nat × Nat)) (s : State) (e : Event) :
    (addJournal r c s).latched e = (s.latched e || decide (e = .resultReady)) := by
  rw [addJournal, latched_raise]
  rfl

theorem addJournals_eq (c : Option (Nat × Nat)) (rs : List PlateRecord) (s : State) : ∃ e,
    rs.foldl (fun s r => addJournal r c s) s = { s with
      report := { s.report with
        journal := rs.foldl (fun j r => pushBounded 64 j (journalEntry r c s.report.shift.seq)) s.report.journal },
      port := { s.port with events := e } } := by
  induction rs generalizing s with
  | nil => exact ⟨_, rfl⟩
  | cons r rs ih =>
    obtain ⟨e, he⟩ := ih (addJournal r c s)
    exact ⟨e, he.trans rfl⟩

theorem addJournals_latched (c : Option (Nat × Nat)) (rs : List PlateRecord) (s : State) (e : Event)
    (h : s.latched e = true ∨ e = .resultReady ∧ rs ≠ []) : (rs.foldl (fun s r => addJournal r c s) s).latched e = true := by
  induction rs generalizing s with
  | nil => exact h.elim id fun h => absurd rfl h.2
  | cons r rs ih =>
    refine ih _ (.inl ?_)
    rw [addJournal_latched]
    rcases h with h | h <;> simp [h]

/-! ### The retirement of a chain (R126) -/

/-- What a chain that retires leaves: its records gone, one result, one joined cull, a journal entry for each record. -/
structure ChainRetired (rs : List PlateRecord) (first last : PlateRecord) (s t : State) : Prop where
  frame : ∃ p, t.planner = { s.planner with
      table := s.planner.table.filter fun r => !(rs.any fun g => g.id == r.id), head := some ⟨last.cut, false⟩, planning := p } ∧
    (s.planner.planning.testing = false → p = s.planner.planning)
  cutter : t.cutter = { s.cutter with sentResult := min 4294967295 (s.cutter.sentResult + 1) }
  out : t.out = { s.out with cutter := s.out.cutter ++
    [.plateResult first.id .cull (rs.map PlateRecord.length).sum [⟨s.pos.geometry.xL, s.pos.geometry.xR, .x, last.rejectDest⟩]] }
  report : ∃ c h, t.report = { s.report with
    shift := { s.report.shift with
      cullCount := min 4294967295 (s.report.shift.cullCount + 1),
      cullArea := min (2 ^ 64 - 1) (s.report.shift.cullArea +
        (s.pos.geometry.xR - s.pos.geometry.xL) * (rs.map PlateRecord.length).sum),
      complete := c, short := h },
    journal := rs.foldl (fun j r => pushBounded 64 j
      (journalEntry r (some (first.id, (rs.map PlateRecord.length).sum)) s.report.shift.seq)) s.report.journal }
  port : ∃ e, t.port = { s.port with events := e }
  pos : t.pos = s.pos
  lanes : t.lanes = s.lanes
  tracker : t.tracker = s.tracker
  map : t.map = s.map
  grader : t.grader = s.grader
  fault : t.fault = s.fault
  ctl : t.ctl = s.ctl
  orders : (∀ o ∈ s.orders.queue, o.state ≠ .ending) → t.orders = s.orders
  ready : t.latched .resultReady = true
  latched : ∀ e, s.latched e = true → t.latched e = true

theorem retireChain_retired {rs : List PlateRecord} {first last : PlateRecord} (hf : rs.head? = some first)
    (hl : rs.getLast? = some last) (s : State) : ChainRetired rs first last s (retireChain rs s) := by
  have hne : rs ≠ [] := by
    rintro rfl
    cases hf
  set joined := (rs.map PlateRecord.length).sum with hjoined
  set s1 := tally (fun h => h.addCull s.netWidth joined)
    (sendPlateResult first.id .cull joined [⟨s.geo.xL, s.geo.xR, .x, last.rejectDest⟩] s) with hs1
  obtain ⟨e, he⟩ := addJournals_eq (some (first.id, joined)) rs s1
  have hlatched := addJournals_latched (some (first.id, joined)) rs s1
  set s2 := rs.foldl (fun s r => addJournal r (some (first.id, joined)) s) s1 with hs2
  obtain ⟨p, hp, hidle, -⟩ := testRoom_spec (s2.modPlanner fun p =>
    { p with table := p.table.filter fun r => !(rs.any fun g => g.id == r.id), head := some ⟨last.cut, false⟩ })
  have hleft : ∀ e, s2.latched e = true → (leaveTable rs last.cut s2).latched e = true := fun e h => by
    rw [leaveTable, testRoom_latched]
    exact h
  have hchain : retireChain rs s = rs.foldl finishTest (leaveTable rs last.cut s2) := by
    simp only [retireChain, hf, hl]
    rfl
  have hfinished := finishTests_finished rs (leaveTable rs last.cut s2)
  rw [← hchain] at hfinished
  obtain ⟨u, c, h, e', heq⟩ := hfinished.frame
  rw [leaveTable, hp, he] at heq
  constructor
  case frame =>
    refine ⟨p, ?_, fun hs => ?_⟩
    · rw [heq]
      rfl
    · rw [hidle (by rw [he]; exact hs), he]
      rfl
  case orders =>
    intro hs
    have hsame := hfinished.quiet (by rw [leaveTable, hp, he]; exact hs)
    rw [hsame, leaveTable, hp, he]
    rfl
  case ready => exact hfinished.latched _ (hleft _ (hlatched _ (.inr ⟨rfl, hne⟩)))
  case latched => exact fun e hs => hfinished.latched _ (hleft _ (hlatched _ (.inl hs)))
  case report => exact ⟨c, h, by rw [heq]; rfl⟩
  case port => exact ⟨e', by rw [heq]; rfl⟩
  all_goals
    rw [heq]
    rfl

/-! ### A chain left open in DRAINING (R126) -/

theorem openChain_record {p : Planner} {r : PlateRecord} (h : p.table.getLast? = some r) :
    p.openChain = if r.state = .spilled then some r.chain else none := by
  simp only [Planner.openChain, h]

/-- A table in DRAINING without an open chain at its front stays. -/
theorem drainChain_stays {s : State} (h : s.port.mode = .draining → ∀ r q, s.planner.table.getLast? = some r → r.state = .spilled →
    s.planner.table.head? = some q → q.chain ≠ r.chain) : drainChain s = s := by
  unfold drainChain
  split
  · rfl
  · rename_i hm
    split
    · rename_i c q hc hq
      refine if_neg fun he => ?_
      cases hlast : s.planner.table.getLast? with
      | none => simp [List.getLast?_eq_none_iff.1 hlast] at hq
      | some r =>
        rw [openChain_record hlast] at hc
        split at hc
        · rename_i hs
          cases hc
          exact h (by simpa [State.mode] using hm) r q hlast hs hq he
        · cases hc
    · rfl

/-- An open chain that is the whole table retires. -/
theorem drainChain_whole {s : State} {first last : PlateRecord} (hm : s.port.mode = .draining) (hf : s.planner.table.head? = some first)
    (hl : s.planner.table.getLast? = some last) (hs : last.state = .spilled) (hc : ∀ x ∈ s.planner.table, x.chain = last.chain) :
    drainChain s = retireChain s.planner.table s := by
  have hrecords : s.planner.chainRecords last.chain = s.planner.table :=
    List.filter_eq_self.2 fun x hx => by simpa using hc x hx
  simp only [drainChain, State.mode, hm, openChain_record hl, hs, hf, if_pos, hrecords, hc first (List.mem_of_head? hf), not_true_eq_false,
    ne_eq, if_false]

theorem filter_any_self (rs : List PlateRecord) : (rs.filter fun r => !(rs.any fun g => g.id == r.id)) = [] :=
  List.filter_eq_nil_iff.2 fun r hr => by simpa using ⟨r, hr, rfl⟩

/-! ### STOP PRODUCTION -/

theorem draining_eq (tag : Nat) (s : State) :
    requeue (fun o => o == .active) (setMode .draining ((addDelayed .stopProduction tag s).modPlanner fun p => { p with planning := .draining })) =
      { s with
        port := { s.port with delayed := s.port.delayed ++ [⟨.stopProduction, tag⟩], mode := .draining,
                              events := s.port.events ||| Event.modeChanged.single },
        planner := { s.planner with planning := .draining },
        orders := { s.orders with queue := ((s.orders.queue.filter fun o => o.state == .active).map fun o =>
            { o with state := .queued }) ++ s.orders.queue.filter fun o => o.state != .active } } := by
  have hpos : ({ s.pos with overspeed := s.pos.overspeed && true } : Position) = s.pos := by rw [Bool.and_true]
  change ({ s with
    pos := { s.pos with overspeed := s.pos.overspeed && true }
    planner := _, port := _, orders := _ } : State) = _
  rw [hpos]
  rfl

/-! ### DRAIN COMPLETE -/

/-- R127: the state in which DRAIN COMPLETE looks for a pending close. -/
def drainedState (s : State) : State :=
  { s with
    pos := { s.pos with overspeed := false }
    planner := { s.planner with head := none, planning := .off }
    port := { s.port with mode := .inspect, events := s.port.events ||| Event.modeChanged.single } }

theorem drainedState_eq (s : State) :
    setMode .inspect (s.modPlanner fun p => { p with head := none, planning := .off }) = drainedState s := by
  have hpos : ({ s.pos with overspeed := s.pos.overspeed && false } : Position) = { s.pos with overspeed := false } := by
    rw [Bool.and_false]
  change ({ s with pos := { s.pos with overspeed := s.pos.overspeed && false }, planner := _, port := _ } : State) = _
  rw [hpos]
  rfl

/-- R178: the state once the pending close `p` has been made, before it is answered. -/
def shiftClosedState (p : PendingClose) (s : State) : State :=
  (closeOpenShift p.label p.hostTime s).modReport fun r => { r with pendingClose := none }

theorem shiftClosedState_latched (p : PendingClose) (s : State) (e : Event) :
    (shiftClosedState p s).latched e = (s.latched e || decide (e = .shiftClosed)) := by
  change (closeOpenShift p.label p.hostTime s).latched e = _
  rw [closeOpenShift, latched_raise]
  rfl

theorem makePendingClose_resetting {s : State} {p : PendingClose} (h : s.report.pendingClose = some p) (hr : s.ctl.resetting = true) :
    makePendingClose s = shiftClosedState p s := by
  simp only [makePendingClose, h]
  exact answerDelayed_resetting (s := shiftClosedState p s) hr

theorem makePendingClose_answered {s : State} {p : PendingClose} {tag : Nat} (h : s.report.pendingClose = some p)
    (hr : s.ctl.resetting = false) (hd : s.port.delayed.find? (fun d => d.kind == Request.closeShift) = some ⟨.closeShift, tag⟩) :
    makePendingClose s = { shiftClosedState p s with port := { (shiftClosedState p s).port with
      delayed := s.port.delayed.filter fun d => d.kind != Request.closeShift } }.answered .closeShift tag .ok (.shiftSeq s.report.shift.seq) := by
  simp only [makePendingClose, h]
  exact answerDelayed_some (s := shiftClosedState p s) hr hd

/-- The entries of one kind are found as before once those of another have left. -/
theorem find_filter_kinds {k k' : Request} (xs : List Delayed) (h : k ≠ k') :
    (xs.filter fun d => d.kind != k').find? (fun d => d.kind == k) = xs.find? fun d => d.kind == k := by
  rw [List.find?_filter]
  congr 1
  funext d
  by_cases hd : d.kind = k
  · simp [hd, h]
  · simp [hd]

/-- Settles O46. -/
theorem stopProductionDrains : Obligations.StopProductionDrains := by
  refine ⟨?_, ?_⟩
  · intro s tag hl hm chain length draining
    have htaken : takenIn .stopProduction s.mode = true := by simp [takenIn, State.mode, hm]
    have hopen : s.port.delayed.length < 4 → ¬ s.delayFull = true := fun h hfull => absurd (of_decide_eq_true hfull) (Nat.not_le.2 h)
    have hbody : s.port.delayed.length < 4 → exec (.stopProduction tag (.fields ())) s = .next (drainChain draining) := fun hroom => by
      rw [exec_taken hl (c := .stopProduction tag (.fields ())) rfl htaken, stopProductionBody,
        if_neg (hopen hroom), draining_eq, answer_delay]
    refine ⟨fun hfull => exec_refused hl rfl htaken (if_pos (by simp [State.delayFull, Config.delayedCapacity, hfull])), fun hroom hstay => ?_,
      fun hroom _ first last hfirst hlast hspilled hchain => ?_⟩
    · rw [hbody hroom]
      exact congrArg Host.Outcome.next (drainChain_stays fun _ r q hr hs hq => hstay r q hr hs hq)
    · intro total
      have hret := retireChain_retired (s := draining) hfirst hlast
      have hwhole : drainChain draining = retireChain s.planner.table draining := drainChain_whole rfl hfirst hlast hspilled hchain
      obtain ⟨p, hplanner, hplanning⟩ := hret.frame
      obtain ⟨c, h, hreport⟩ := hret.report
      obtain ⟨e, hport⟩ := hret.port
      refine ⟨_, (hbody hroom).trans (congrArg _ hwhole), ?_, ?_, ?_, hret.map, ?_, ?_, hret.ready, ?_, ?_, fun ho => hret.orders ?_⟩
      · rw [hport]
      · rw [hport]
      · rw [hplanner, hplanning rfl]
        exact congrArg (fun t => { draining.planner with table := t, head := some ⟨last.cut, false⟩ }) (filter_any_self _)
      · rw [hret.out]
        rfl
      · rw [hreport]
        rfl
      · rw [hreport]
      · rw [hreport]
      · intro o hmem
        rcases List.mem_append.1 hmem with hmem | hmem
        · obtain ⟨q, -, rfl⟩ := List.mem_map.1 hmem
          simp
        · exact ho o (List.mem_filter.1 hmem).1
  · intro s hheld drained
    have hdone : s.drainDone = true ↔ drained := by
      cases hh : s.planner.head with
      | none => simp [State.drainDone, drained, State.mode, hh]
      | some h => cases hc : h.cut.state <;> simp [State.drainDone, drained, State.mode, hh, hc, CutState.live]
    refine ⟨fun hnot => ?_, fun hd tag htag => ?_⟩
    · exact congrArg Host.Outcome.next (if_pos (by simpa using .inr (Bool.eq_false_iff.2 fun h => hnot (hdone.1 h))))
    have hexec : exec .drainComplete s = .next (answerDelayed .stopProduction .ok .empty (makePendingClose (drainedState s))) :=
      congrArg Host.Outcome.next ((if_neg (by simp [hheld, hdone.2 hd])).trans (by rw [drainedState_eq]))
    refine ⟨fun hnone => ?_, fun p closeTag hsome hclose => ?_⟩
    · rw [hexec, makePendingClose_none (s := drainedState s) hnone]
      refine congrArg Host.Outcome.next ?_
      cases hr : s.ctl.resetting with
      | true =>
        rw [answerDelayed_resetting (s := drainedState s) hr]
        simp [drainedState]
      | false => exact answerDelayed_some (s := drainedState s) hr htag
    · have hlatched (e : Event) (he : (drainedState s).latched e = true ∨ e = .shiftClosed) :
          (shiftClosedState p (drainedState s)).latched e = true := by
        rw [shiftClosedState_latched]
        simpa using he
      have hmode : (drainedState s).latched .modeChanged = true := by simp [State.latched, drainedState]
      cases hr : s.ctl.resetting with
      | true =>
        refine ⟨_, hexec, ?_⟩
        rw [answerDelayed_resetting (by rw [makePendingClose_resetting (s := drainedState s) hsome hr]; exact hr), makePendingClose_resetting (s := drainedState s) hsome hr]
        exact ⟨rfl, rfl, rfl, rfl, rfl, hlatched _ (.inl hmode), hlatched _ (.inr rfl), rfl, (List.append_nil _).symm⟩
      | false =>
        refine ⟨_, hexec, ?_⟩
        have hclosed := makePendingClose_answered (s := drainedState s) hsome hr hclose
        have hafter : (makePendingClose (drainedState s)).port.delayed.find? (fun d => d.kind == .stopProduction) =
            some ⟨.stopProduction, tag⟩ := by
          rw [hclosed]
          exact (find_filter_kinds (k' := .closeShift) _ (by decide)).trans htag
        rw [answerDelayed_some (by rw [hclosed]; exact hr) hafter, hclosed]
        refine ⟨rfl, rfl, rfl, rfl, rfl, hlatched _ (.inl hmode), hlatched _ (.inr rfl), List.filter_filter .., ?_⟩
        exact List.append_assoc ..

end Sys2Proof.Machine
end

section
/-!
Cuts that fail (O45): the references and the count that a record gives up, what it spills into, and the chain that may then retire.
-/

namespace Sys2Proof.Machine

/-! ### References given back (R82, R83) -/

/-- Outside IDLE the map and the blind list become as R82 says, and the open shift counts the retired flaws. -/
theorem releaseReferences_eq (fs bs : List Nat) {s : State} (h : s.port.mode ≠ .idle) : ∃ f, releaseReferences fs bs s =
    { s with
      map := s.released fs bs s.map
      report := { s.report with shift := { s.report.shift with flaws := f } } } := by
  have hentry (e : MapEntry) : (!(fs.contains e.id && s.entryRetires e)) =
      !(fs.contains e.id && decide (e.refs = 0) && decide (e.yLast + s.pos.geometry.dgc ≤ s.pos.y) &&
        (s.port.mode != .produce || decide (e.yLast < s.planner.yPrev))) := by
    simp only [State.entryRetires, Bool.and_assoc]
    rfl
  have hblind (b : Interval) : (!(bs.contains b.id && s.intervalRetires b)) =
      !(bs.contains b.id && decide (b.refs = 0) &&
        b.yEnd.any fun y => decide (y + s.pos.geometry.dgc ≤ s.pos.y) && (s.port.mode != .produce || decide (y ≤ s.planner.yPrev))) := by
    cases hy : b.yEnd with
    | none => simp [State.intervalRetires, hy]
    | some y =>
      simp only [State.intervalRetires, hy, Option.any_some, Bool.and_assoc]
      rfl
  have hentries : (updateWhere (fun e => fs.contains e.id) (fun e => { e with refs := e.refs - 1 }) s.map.entries).filter
      (fun e => !(fs.contains e.id && s.entryRetires e)) = (s.released fs bs s.map).entries := by
    simp only [State.released, updateWhere, hentry, List.contains_iff_mem]
  have hintervals : (updateWhere (fun b => bs.contains b.id) (fun b => { b with refs := b.refs - 1 }) s.map.blind).filter
      (fun b => !(bs.contains b.id && s.intervalRetires b)) = (s.released fs bs s.map).blind := by
    simp only [State.released, updateWhere, hblind, List.contains_iff_mem]
  have hmap (es : List MapEntry) (is : List Interval) (he : es = (s.released fs bs s.map).entries)
      (hi : is = (s.released fs bs s.map).blind) : ({ s with map := { s.map with
        entries := es, blind := is, highRaised := s.map.highRaised && decide (896 ≤ es.length),
        room := s.map.hasRoom es.length } } : State) = { s with map := s.released fs bs s.map } := by
    subst he hi
    rfl
  obtain ⟨f, hf⟩ := flawRetired_fold
    ((updateWhere (fun e => fs.contains e.id) (fun e => { e with refs := e.refs - 1 }) s.map.entries).filter
      fun e => fs.contains e.id && s.entryRetires e) { s with map := s.released fs bs s.map }
  refine ⟨f, ((if_neg h).trans ?_).trans hf⟩
  exact congrArg (List.foldl _ · _) (hmap _ _ hentries hintervals)

theorem stopCounting_eq (r : PlateRecord) (s : State) :
    stopCounting r s = { s with orders := { s.orders with queue := s.orders.queue.map (uncounted [r]) } } := by
  obtain ⟨q, h, -⟩ := stopCounting_frame r s
  have horders := stopCounting_orders r s
  rw [h] at horders ⊢
  have hq : q = s.orders.queue.map (uncounted [r]) := congrArg OrderUnit.queue horders
  rw [hq]

/-! ### A record gives up its references and its count (R96, R149) -/

/-- What the records `gone` give up, with the plate table after it and `f` the flaws that the open shift counts. -/
def givenUp (table gone : List PlateRecord) (f : PerClass Nat) (s : State) : State :=
  { s with
    planner := { s.planner with table := table }
    map := gone.foldl (fun m x => s.released x.flawRefs x.blindRefs m) s.map
    orders := { s.orders with queue := s.orders.queue.map (uncounted gone) }
    report := { s.report with shift := { s.report.shift with flaws := f } } }

theorem releaseRecord_eq (r : PlateRecord) {s : State} (h : s.port.mode ≠ .idle) : ∃ f, releaseRecord r s =
    givenUp (s.planner.table.map fun q => if q.id = r.id then q.reject.forgo else q) [r] f s := by
  obtain ⟨f, hf⟩ := releaseReferences_eq r.flawRefs r.blindRefs (s := modRecord r.id (fun q => q.reject.forgo) s) h
  refine ⟨f, ?_⟩
  rw [releaseRecord, stopCounting_eq, hf]
  simp only [givenUp, modRecord, updateWhere, beq_iff_eq]
  rfl

/-- R124: the table once `q` has been absorbed into the chain of `head`. -/
def absorbedTable (head : Nat) (q : PlateRecord) (table : List PlateRecord) : List PlateRecord :=
  table.map fun x => if x.id = q.id then { x.reject.forgo with absorbedInto := some head }
    else if x.absorbedInto = some q.id then { x with absorbedInto := some head } else x

theorem absorbRecord_eq (head : Nat) (q : PlateRecord) {s : State} (h : s.port.mode ≠ .idle) : ∃ f, absorbRecord head q s =
    givenUp (absorbedTable head q s.planner.table) [q] f s := by
  obtain ⟨f, hf⟩ := releaseRecord_eq q (s := s.modPlanner fun p => { p with
    table := updateWhere (fun x => x.id == q.id || x.absorbedInto == some q.id) (fun x => { x with absorbedInto := some head }) p.table }) h
  refine ⟨f, ?_⟩
  rw [absorbRecord, hf]
  have htable : (updateWhere (fun x => x.id == q.id || x.absorbedInto == some q.id) (fun x => { x with absorbedInto := some head })
      s.planner.table).map (fun x => if x.id = q.id then x.reject.forgo else x) = absorbedTable head q s.planner.table := by
    rw [updateWhere, List.map_map]
    refine List.map_congr_left fun x _ => ?_
    by_cases hid : x.id = q.id
    · simp [hid, PlateRecord.reject, PlateRecord.forgo]
    · by_cases hc : x.absorbedInto = some q.id <;> simp [hid, hc]
  rw [← htable]
  rfl

theorem givenUp_givenUp (t t' gone' : List PlateRecord) (f f' : PerClass Nat) (r : PlateRecord) (s : State) :
    givenUp t' gone' f' (givenUp t [r] f s) = givenUp t' (r :: gone') f' s := by
  have hqueue : (s.orders.queue.map (uncounted [r])).map (uncounted gone') = s.orders.queue.map (uncounted (r :: gone')) := by
    rw [List.map_map, uncounted_comp]
  simp only [givenUp, hqueue]
  rfl

theorem recordAfter_split {pre post : List PlateRecord} {r : PlateRecord} (h : ((pre ++ r :: post).map PlateRecord.id).Nodup) :
    recordAfter r.id (pre ++ r :: post) = post.head? := by
  have hne := distinct_keys (key := PlateRecord.id) h
  clear h
  induction pre with
  | nil => simp [recordAfter]
  | cons x pre ih =>
    rw [List.cons_append, recordAfter, if_neg (hne x (.inl List.mem_cons_self))]
    exact ih fun y hy => hne y (hy.imp_left (List.mem_cons_of_mem _))

/-- R123: the table after the record `r` between `pre` and `post` has spilled. -/
def spilledTable (pre post : List PlateRecord) (r : PlateRecord) : List PlateRecord :=
  match post with
  | [] => pre ++ [{ r.reject.forgo with state := .spilled }]
  | q :: rest => absorbedTable r.chain q (pre ++ { r.reject.forgo with state := .spilled } :: q :: rest)

theorem spillRecord_eq {s : State} {pre post : List PlateRecord} {r : PlateRecord} (h : s.port.mode ≠ .idle)
    (ht : s.planner.table = pre ++ r :: post) (hn : (s.planner.table.map PlateRecord.id).Nodup) : ∃ f, spillRecord r.id s =
      givenUp (spilledTable pre post r) (r :: post.take 1) f s := by
  have hn' : ((pre ++ r :: post).map PlateRecord.id).Nodup := ht ▸ hn
  have hfind : s.findRecord r.id = some r := by
    rw [State.findRecord, ht]
    exact find_unique (key := PlateRecord.id) hn'
  obtain ⟨f, hf⟩ := releaseRecord_eq r (s := modRecord r.id (fun q => { q with state := .spilled }) s) h
  have hspilled : releaseRecord r (modRecord r.id (fun q => { q with state := .spilled }) s) =
      givenUp (pre ++ { r.reject.forgo with state := .spilled } :: post) [r] f s := by
    rw [hf, modRecord_split _ ht hn]
    have hmap := updateWhere_unique (key := PlateRecord.id) (pre := pre) (post := post) (r := { r with state := .spilled })
      (fun q => q.reject.forgo) (by simpa using hn')
    simp only [updateWhere, beq_iff_eq] at hmap
    simp only [givenUp, hmap]
    rfl
  have hafter : recordAfter r.id (pre ++ { r.reject.forgo with state := .spilled } :: post) = post.head? :=
    recordAfter_split (r := { r.reject.forgo with state := .spilled }) (by simpa [PlateRecord.reject, PlateRecord.forgo] using hn')
  have hbody : spillRecord r.id s =
      match post.head? with
      | none => givenUp (pre ++ { r.reject.forgo with state := .spilled } :: post) [r] f s
      | some q => absorbRecord r.chain q (givenUp (pre ++ { r.reject.forgo with state := .spilled } :: post) [r] f s) := by
    rw [← hafter, spillRecord, hfind]
    dsimp only
    rw [hspilled]
    rfl
  rw [hbody]
  cases post with
  | nil => exact ⟨f, rfl⟩
  | cons q rest =>
    obtain ⟨f', hf'⟩ := absorbRecord_eq r.chain q
      (s := givenUp (pre ++ { r.reject.forgo with state := .spilled } :: q :: rest) [r] f s) h
    exact ⟨f', hf'.trans (givenUp_givenUp ..)⟩

/-! ### The cut that fails (R119, R120) -/

theorem live_iff (c : CutState) : c.live = true ↔ c = .sent ∨ c = .accepted := by cases c <;> simp [CutState.live]

theorem report1_eq (k : FaultKind) (it : ReportItems) (s : State) : ∃ v, report1 k it s =
    { s with
      report := { s.report with shift := s.report.shift.class1Reported }
      fault := (report1 k it s).fault
      port := { s.port with events := v } } := by
  obtain ⟨f, v, h⟩ := report1_frame k it s
  exact ⟨v, by rw [h]⟩

theorem report1_planner (k : FaultKind) (it : ReportItems) (p : Planner) (s : State) :
    (report1 k it { s with planner := p }).fault = (report1 k it s).fault := by
  unfold report1
  cases h : s.fault.slot <;> simp only [tally_fault, h] <;> rfl

/-- What a cut that fails in `s` by `f` leaves, but for a chain that may then retire: the planner `p`, what the records `gone` give up, the
fault and its counts. -/
def failedState (f : CutFailure) (it : ReportItems) (p : Planner) (gone : List PlateRecord) (v : BitVec 16) (fl : PerClass Nat)
    (s : State) : State :=
  { s with
    planner := p
    map := gone.foldl (fun m x => s.released x.flawRefs x.blindRefs m) s.map
    orders := { s.orders with queue := s.orders.queue.map (uncounted gone) }
    fault := (report1 f.kind it s).fault
    report := { s.report with shift := { f.count s.report.shift.class1Reported with flaws := fl } }
    port := { s.port with events := v } }

theorem CutFailure.count_flaws (f : CutFailure) (h : Shift) : (f.count h).flaws = h.flaws := by cases f <;> rfl

theorem givenUp_nothing (s : State) : givenUp s.planner.table [] s.report.shift.flaws s = s := by
  have hqueue : s.orders.queue.map (uncounted []) = s.orders.queue := by
    refine (List.map_congr_left fun o _ => ?_).trans (List.map_id _)
    simp [uncounted, countedIn]
  simp only [givenUp, hqueue]
  rfl

theorem released_congr {s t : State} (hpos : t.pos = s.pos) (hm : t.port.mode = s.port.mode) (hy : t.planner.yPrev = s.planner.yPrev) :
    t.released = s.released := by
  funext fs bs m
  simp only [State.released, hpos, hm, hy]

/-- The state in which a failed cut spills: the fault of its kind is reported and counted. -/
def failedBefore (f : CutFailure) (it : ReportItems) (p : Planner) (s : State) : State :=
  tally f.count (report1 f.kind it { s with planner := p })

theorem failedBefore_givenUp (f : CutFailure) (it : ReportItems) {p : Planner} {s : State} (hp : p.yPrev = s.planner.yPrev) : ∃ v,
    ∀ table gone fl, givenUp table gone fl (failedBefore f it p s) = failedState f it { p with table := table } gone v fl s := by
  obtain ⟨v, hv⟩ := report1_eq f.kind it { s with planner := p }
  rw [report1_planner] at hv
  have hreleased : (failedBefore f it p s).released = s.released := by
    rw [failedBefore, hv]
    exact released_congr rfl rfl hp
  refine ⟨v, fun table gone fl => ?_⟩
  rw [givenUp, hreleased, failedBefore, hv]
  rfl

theorem failedBefore_planner (f : CutFailure) (it : ReportItems) (p : Planner) (s : State) :
    (failedBefore f it p s).planner = p ∧ (failedBefore f it p s).port.mode = s.port.mode := by
  obtain ⟨v, hv⟩ := report1_eq f.kind it { s with planner := p }
  rw [failedBefore, hv]
  exact ⟨rfl, rfl⟩

theorem failCut_record {s : State} {pre post : List PlateRecord} {r : PlateRecord} (f : CutFailure) (h : s.port.mode ≠ .idle)
    (ht : s.planner.table = pre ++ r :: post) (hcuts : (s.planner.cuts.map fun k => k.cut.id).Nodup)
    (hn : (s.planner.table.map PlateRecord.id).Nodup) : ∃ v fl, failCut f ⟨r.cut, some r.id⟩ s = drainChain
      (failedState f ⟨s.pos.y, s.pos.lastLine, none, some r.id, some r.cut.id, f.reason, none⟩
        { s.planner with table := spilledTable pre post { r with cut := { r.cut with state := f.state } } } (r :: post.take 1) v fl s) := by
  have hids : ((pre ++ { r with cut := { r.cut with state := f.state } } :: post).map PlateRecord.id).Nodup := by
    rw [ht] at hn
    simpa using hn
  set it : ReportItems := ⟨s.pos.y, s.pos.lastLine, none, some r.id, some r.cut.id, f.reason, none⟩ with hit
  set p : Planner := { s.planner with table := pre ++ { r with cut := { r.cut with state := f.state } } :: post } with hp
  obtain ⟨hplanner, hmode⟩ := failedBefore_planner f it p s
  obtain ⟨v, hv⟩ := failedBefore_givenUp f it (p := p) (s := s) rfl
  obtain ⟨fl, hspill⟩ := spillRecord_eq (s := failedBefore f it p s) (by rwa [hmode]) (congrArg Planner.table hplanner)
    (by rw [hplanner]; exact hids)
  have hgone (t : Planner) : failedState f it t ({ r with cut := { r.cut with state := f.state } } :: post.take 1) v fl s =
      failedState f it t (r :: post.take 1) v fl s := by
    have huncounted : uncounted ({ r with cut := { r.cut with state := f.state } } :: post.take 1) = uncounted (r :: post.take 1) := by
      funext o
      simp only [uncounted, countedIn, List.filter_cons]
      cases r.counted && r.order == some o.id <;> rfl
    rw [failedState, huncounted]
    rfl
  refine ⟨v, fl, ?_⟩
  rw [failCut, setCut_record f.state ht hcuts, ← hgone]
  exact congrArg drainChain (hspill.trans (hv ..))

theorem failCut_head {s : State} {h : HeadCut} (f : CutFailure) (hm : s.port.mode ≠ .idle) (hh : s.planner.head = some h)
    (hcuts : (s.planner.cuts.map fun k => k.cut.id).Nodup) : ∃ v fl, failCut f ⟨h.cut, none⟩ s = drainChain
      (failedState f ⟨s.pos.y, s.pos.lastLine, none, none, some h.cut.id, f.reason, none⟩
        { s.planner with
          head := some { h with cut := { h.cut with state := f.state } }
          table := match s.planner.table with
            | [] => []
            | q :: rest => absorbedTable 0 q (q :: rest) } (s.planner.table.take 1) v fl s) := by
  set it : ReportItems := ⟨s.pos.y, s.pos.lastLine, none, none, some h.cut.id, f.reason, none⟩ with hit
  set p : Planner := { s.planner with head := some { h with cut := { h.cut with state := f.state } } } with hp
  obtain ⟨hplanner, hmode⟩ := failedBefore_planner f it p s
  obtain ⟨v, hv⟩ := failedBefore_givenUp f it (p := p) (s := s) rfl
  have htable : (failedBefore f it p s).planner.table = s.planner.table := by rw [hplanner]
  have hfail : failCut f ⟨h.cut, none⟩ s = drainChain (spillLeadIn (failedBefore f it p s)) := by
    rw [failCut, setCut_head f.state hh hcuts]
    rfl
  have hspill : ∃ fl, spillLeadIn (failedBefore f it p s) = givenUp (match s.planner.table with
      | [] => []
      | q :: rest => absorbedTable 0 q (q :: rest)) (s.planner.table.take 1) fl (failedBefore f it p s) := by
    unfold spillLeadIn
    rw [htable]
    cases hc : s.planner.table with
    | nil =>
      have hnothing := givenUp_nothing (failedBefore f it p s)
      rw [htable, hc] at hnothing
      exact ⟨_, hnothing.symm⟩
    | cons q rest =>
      obtain ⟨fl, hf⟩ := absorbRecord_eq 0 q (s := failedBefore f it p s) (by rwa [hmode])
      rw [htable, hc] at hf
      exact ⟨fl, hf⟩
  obtain ⟨fl, hspill⟩ := hspill
  exact ⟨v, fl, by rw [hfail, hspill, hv]⟩

/-! ### The overdue rule (R120) -/

theorem sublist_eq_filter {α : Type} {p : α → Bool} {xs ys : List α} (h : xs.Sublist ys) (hn : ys.Nodup)
    (hp : ∀ y ∈ ys, y ∈ xs ↔ p y = true) : xs = ys.filter p := by
  induction h with
  | slnil => rfl
  | cons y hsub ih =>
    obtain ⟨hy, hn⟩ := List.nodup_cons.1 hn
    have hnot : ¬ p y = true := fun h => hy (hsub.subset ((hp y List.mem_cons_self).2 h))
    rw [List.filter_cons_of_neg hnot]
    exact ih hn fun z hz => hp z (List.mem_cons_of_mem _ hz)
  | cons_cons y hsub ih =>
    obtain ⟨hy, hn⟩ := List.nodup_cons.1 hn
    rw [List.filter_cons_of_pos ((hp y List.mem_cons_self).1 List.mem_cons_self)]
    refine congrArg (y :: ·) (ih hn fun z hz => ?_)
    rw [← hp z (List.mem_cons_of_mem _ hz), List.mem_cons]
    exact ⟨.inr, fun h => h.resolve_left fun he => hy (he ▸ hz)⟩

theorem overdue_iff (s : State) (h : HeldCut) : s.overdue h = true ↔
    (h.cut.state = .sent ∨ h.cut.state = .accepted) ∧ h.cut.pos + s.pos.geometry.dgc + s.planner.params.overdue ≤ s.pos.y := by
  rw [State.overdue, Bool.and_eq_true, live_iff, decide_eq_true_eq]
  rfl

/-- CUT OVERDUE takes the overdue cuts in ribbon order. -/
theorem exec_cutOverdue {s : State} {es : List HeldCut} (hh : s.ctl.held = false) (hm : s.port.mode.cutting = true)
    (hn : (s.planner.cuts.map fun k => k.cut.id).Nodup) (hsub : es.Sublist s.planner.cuts)
    (hes : ∀ h ∈ s.planner.cuts, h ∈ es ↔ s.overdue h = true) :
    exec .cutOverdue s = .next (es.foldl (fun v h => failCut .overdue h v) s) := by
  rw [sublist_eq_filter hsub hn.of_map hes]
  exact congrArg Host.Outcome.next (if_neg (by simp [hh, State.mode, hm]))

theorem cut_unique {s : State} {h k : HeldCut} (hn : (s.planner.cuts.map fun k => k.cut.id).Nodup) (hh : h ∈ s.planner.cuts)
    (hk : k ∈ s.planner.cuts) (he : h.cut.id = k.cut.id) : h = k :=
  List.inj_on_of_nodup_map hn hh hk he

/-! ### The failure that is reported -/

theorem cutReject_count (f : CutFailure) (h : Shift) : (f.count h).rejected = if f.kind = .cutReject then bump h.rejected else h.rejected := by
  cases f <;> simp [CutFailure.kind, CutFailure.count, Shift.cutRejected, Shift.cutMissed, Shift.cutOverdue]

theorem cutMissed_count (f : CutFailure) (h : Shift) : (f.count h).missed = if f.kind = .cutMissed then bump h.missed else h.missed := by
  cases f <;> simp [CutFailure.kind, CutFailure.count, Shift.cutRejected, Shift.cutMissed, Shift.cutOverdue]

theorem cutOverdue_count (f : CutFailure) (h : Shift) : (f.count h).overdue = if f.kind = .cutOverdue then bump h.overdue else h.overdue := by
  cases f <;> simp [CutFailure.kind, CutFailure.count, Shift.cutRejected, Shift.cutMissed, Shift.cutOverdue]

theorem CutFailure.count_others (f : CutFailure) (h : Shift) : (f.count h).class1 = h.class1 ∧ (f.count h).seq = h.seq ∧
    (f.count h).cullCount = h.cullCount ∧ (f.count h).cullArea = h.cullArea := by cases f <;> exact ⟨rfl, rfl, rfl, rfl⟩

/-- What a failed cut leaves in the fault unit, the shift and the blocks that it does not touch. -/
structure FailureReported (f : CutFailure) (it : ReportItems) (s t : State) : Prop where
  fault : t.fault = (report1 f.kind it s).fault
  class1 : t.report.shift.class1 = min 4294967295 (s.report.shift.class1 + 1)
  rejected : t.report.shift.rejected =
    if f.kind = .cutReject then min 4294967295 (s.report.shift.rejected + 1) else s.report.shift.rejected
  missed : t.report.shift.missed =
    if f.kind = .cutMissed then min 4294967295 (s.report.shift.missed + 1) else s.report.shift.missed
  overdue : t.report.shift.overdue =
    if f.kind = .cutOverdue then min 4294967295 (s.report.shift.overdue + 1) else s.report.shift.overdue
  pos : t.pos = s.pos
  lanes : t.lanes = s.lanes
  tracker : t.tracker = s.tracker
  grader : t.grader = s.grader
  mode : t.port.mode = s.port.mode

theorem failedState_reported (f : CutFailure) (it : ReportItems) (p : Planner) (gone : List PlateRecord) (v : BitVec 16)
    (fl : PerClass Nat) (s : State) : FailureReported f it s (failedState f it p gone v fl s) where
  fault := rfl
  class1 := (f.count_others _).1
  rejected := cutReject_count ..
  missed := cutMissed_count ..
  overdue := cutOverdue_count ..
  pos := rfl
  lanes := rfl
  tracker := rfl
  grader := rfl
  mode := rfl

theorem FailureReported.chainRetired {f : CutFailure} {it : ReportItems} {s t u : State} {rs : List PlateRecord}
    {first last : PlateRecord} (h : FailureReported f it s t) (hc : ChainRetired rs first last t u) : FailureReported f it s u := by
  obtain ⟨c, d, hreport⟩ := hc.report
  obtain ⟨e, hport⟩ := hc.port
  constructor
  case fault => rw [hc.fault, h.fault]
  case pos => rw [hc.pos, h.pos]
  case lanes => rw [hc.lanes, h.lanes]
  case tracker => rw [hc.tracker, h.tracker]
  case grader => rw [hc.grader, h.grader]
  case mode => rw [hport]; exact h.mode
  case class1 => rw [hreport]; exact h.class1
  case rejected => rw [hreport]; exact h.rejected
  case missed => rw [hreport]; exact h.missed
  case overdue => rw [hreport]; exact h.overdue

/-- Settles O45. -/
theorem failedCutSpillsTheRecord : Obligations.FailedCutSpillsTheRecord := by
  intro s id hh hcuts hids live isOverdue chain length fails rejected absorbed uncounted' released reported quiet stays retired
  refine ⟨fun hm => ?_, fun hm es hsub hes => ?_, fun o k st why hfails => ?_⟩
  · exact congrArg Host.Outcome.next (if_pos (by simp [State.mode, hm]))
  · exact exec_cutOverdue hh hm hcuts hsub fun h hmem => (hes h hmem).trans (overdue_iff s h).symm
  have hfail (h : HeldCut) (hmem : h ∈ s.planner.cuts) (hid : h.cut.id = id) (hfind : s.findCut id = some h) (hlive : live h.cut) :
      ∃ f : CutFailure, k = f.kind ∧ st = f.state ∧ why = f.reason ∧ o = .next (failCut f h s) := by
    have hlive' := (live_iff _).2 hlive
    rcases hfails with ⟨w, ho, hk, hst, hwhy⟩ | ⟨ho, hk, hst, hwhy⟩ | ⟨ho, hk, hst, hwhy, hm, hover⟩ | ⟨g, hg, hgid, ho, hk, hst, hwhy⟩
    · exact ⟨.rejected w, hk, hst, hwhy, ho.trans (congrArg Host.Outcome.next (answerCut_live (failCut (.rejected w)) hh hfind hlive'))⟩
    · exact ⟨.missed, hk, hst, hwhy, ho.trans (congrArg Host.Outcome.next (answerCut_live (failCut .missed) hh hfind hlive'))⟩
    · refine ⟨.overdue, hk, hst, hwhy, ho.trans (exec_cutOverdue (es := [h]) hh hm hcuts (List.singleton_sublist.2 hmem) fun g hg => ?_)⟩
      rw [overdue_iff, List.mem_singleton]
      exact ⟨fun he => (hover g hg).2 (he ▸ hid), fun ho => cut_unique hcuts hg hmem (((hover g hg).1 ho).trans hid.symm)⟩
    · rw [cut_unique hcuts hg hmem (hgid.trans hid.symm)] at ho
      exact ⟨.overdue, hk, hst, hwhy, ho⟩
  have hend (f : CutFailure) (plate : Option Nat) (p : Planner) (gone : List PlateRecord)
      (ho : s.port.mode ≠ .idle → ∃ v fl, o = .next (drainChain
        (failedState f ⟨s.pos.y, s.pos.lastLine, none, plate, some id, f.reason, none⟩ p gone v fl s))) :
      (stays p.table → ∃ t : State, o = .next t ∧ reported f.kind plate f.reason t ∧ quiet t ∧ t.planner = p ∧ t.map = released gone ∧
        t.orders = { s.orders with queue := uncounted' gone }) ∧ retired f.kind plate f.reason p.table gone o := by
    have hreported {t : State} (h : FailureReported f ⟨s.pos.y, s.pos.lastLine, none, plate, some id, f.reason, none⟩ s t) :
        reported f.kind plate f.reason t :=
      ⟨h.fault, h.class1, h.rejected, h.missed, h.overdue, h.pos, h.lanes, h.tracker, h.grader, h.mode⟩
    refine ⟨fun hstays => ?_, ?_⟩
    · have hmode : s.port.mode ≠ .idle := by rcases hstays with h | h <;> simp [h]
      obtain ⟨v, fl, ho⟩ := ho hmode
      rw [drainChain_stays fun hm r q hr hrs hq => ?_] at ho
      · exact ⟨_, ho, hreported (failedState_reported ..), ⟨by cases f <;> rfl, rfl, rfl⟩, rfl, rfl, rfl⟩
      · rcases hstays with h | ⟨-, h⟩
        · rw [show s.port.mode = .draining from hm] at h
          cases h
        · exact h r q hr hrs hq
    · intro hm first last hfirst hlast hspilled hchain total
      obtain ⟨v, fl, ho⟩ := ho (by simp [hm])
      have hret := retireChain_retired hfirst hlast
        (failedState f ⟨s.pos.y, s.pos.lastLine, none, plate, some id, f.reason, none⟩ p gone v fl s)
      have hwhole : drainChain (failedState f ⟨s.pos.y, s.pos.lastLine, none, plate, some id, f.reason, none⟩ p gone v fl s) =
          retireChain p.table (failedState f ⟨s.pos.y, s.pos.lastLine, none, plate, some id, f.reason, none⟩ p gone v fl s) :=
        drainChain_whole hm hfirst hlast hspilled hchain
      rw [hwhole] at ho
      obtain ⟨c, d, hreport⟩ := hret.report
      obtain ⟨x, hplanner, -⟩ := hret.frame
      refine ⟨_, ho, hreported ((failedState_reported ..).chainRetired hret), ?_, ?_, hret.map, ?_, ?_, ?_, ?_, ?_, fun hnone => ?_⟩
      · rw [hplanner]
        exact filter_any_self _
      · rw [hplanner]
      · rw [hret.out]
        rfl
      · rw [hret.cutter]
        rfl
      · rw [hreport]
        obtain ⟨-, hseq, -⟩ := f.count_others s.report.shift.class1Reported
        exact congrArg (fun q => p.table.foldl (fun j r => pushBounded 64 j
          (journalEntry r (some (first.id, (p.table.map PlateRecord.length).sum)) q)) s.report.journal) hseq
      · rw [hreport]
        obtain ⟨-, -, hcount, -⟩ := f.count_others s.report.shift.class1Reported
        exact congrArg (fun n => min 4294967295 (n + 1)) hcount
      · rw [hreport]
        obtain ⟨-, -, -, harea⟩ := f.count_others s.report.shift.class1Reported
        exact congrArg (fun n => min (2 ^ 64 - 1) (n + _)) harea
      · refine hret.orders fun o ho => ?_
        obtain ⟨q, hq, rfl⟩ := List.mem_map.1 ho
        exact hnone q hq
  refine ⟨fun pre post r ht hid hlive => ?_, fun h hhead hid hlive => ?_⟩
  · subst hid
    obtain ⟨f, rfl, rfl, rfl, ho⟩ := hfail ⟨r.cut, some r.id⟩ (mem_cuts.2 (.inr ⟨r, by simp [ht], rfl⟩)) rfl (findCut_record ht hcuts) hlive
    have h := hend f (some r.id) { s.planner with table := spilledTable pre post { r with cut := { r.cut with state := f.state } } }
      (r :: post.take 1) fun hm => by
        obtain ⟨v, fl, he⟩ := failCut_record f hm ht hcuts hids
        exact ⟨v, fl, ho.trans (congrArg Host.Outcome.next he)⟩
    cases post with
    | nil => exact h
    | cons q rest => exact h
  · subst hid
    obtain ⟨f, rfl, rfl, rfl, ho⟩ := hfail ⟨h.cut, none⟩ (mem_cuts.2 (.inl ⟨h, hhead, rfl⟩)) rfl (findCut_head hhead) hlive
    exact hend f none _ _ fun hm => by
      obtain ⟨v, fl, he⟩ := failCut_head f hm hhead hcuts
      exact ⟨v, fl, ho.trans (congrArg Host.Outcome.next he)⟩

end Sys2Proof.Machine
end

section
/-!
CUT DONE (O44): the record that retires alone, the chain that retires with it, and the close that waited for the cut.
-/

namespace Sys2Proof.Machine

/-! ### A pending close made (R177, R178) -/

/-- What a pending close changes when it is made. -/
structure PendingClosed (s t : State) : Prop where
  pos : t.pos = s.pos
  lanes : t.lanes = s.lanes
  tracker : t.tracker = s.tracker
  map : t.map = s.map
  orders : t.orders = s.orders
  planner : t.planner = s.planner
  cutter : t.cutter = s.cutter
  fault : t.fault = s.fault
  mode : t.port.mode = s.port.mode
  sent : t.out.cutter = s.out.cutter
  journal : t.report.journal = s.report.journal
  latched : ∀ e, s.latched e = true → t.latched e = true
  none : s.report.pendingClose = none → t = s
  some : ∀ p, s.report.pendingClose = some p → t.report.pendingClose = Option.none ∧ t.report.shift.label = p.label ∧
    t.latched .shiftClosed = true ∧ t.report.shift.plates = ⟨0, 0, 0, 0, 0⟩

theorem makePendingClose_shiftClosed {s : State} {p : PendingClose} (h : s.report.pendingClose = some p) :
    (makePendingClose s).latched .shiftClosed = true := by
  obtain ⟨d, o, he, -⟩ := answerDelayed_frame .closeShift .ok (.shiftSeq s.report.shift.seq) (shiftClosedState p s)
  have hmade : makePendingClose s = answerDelayed .closeShift .ok (.shiftSeq s.report.shift.seq) (shiftClosedState p s) := by
    simp only [makePendingClose, h]
    rfl
  rw [hmade, he]
  change (shiftClosedState p s).latched .shiftClosed = true
  rw [shiftClosedState_latched]
  simp

theorem makePendingClose_closed (s : State) : PendingClosed s (makePendingClose s) := by
  obtain ⟨r, v, d, o, he, -, hj, -⟩ := makePendingClose_frame s
  constructor
  case latched => exact fun e h => makePendingClose_latched e s h
  case none => exact makePendingClose_none
  case some =>
    intro p hp
    have hreport := makePendingClose_some hp
    refine ⟨by rw [hreport], by rw [hreport]; rfl, makePendingClose_shiftClosed hp, by rw [hreport]; rfl⟩
  case journal => rw [he]; exact hj
  all_goals rw [he]

/-! ### A record that retires alone (R125, R97, R172) -/

/-- R97: an order once a record has been delivered. -/
def deliveredBy (r : PlateRecord) (o : Order) : Order :=
  if r.counted && r.order == some o.id then { o with delivered := min 4294967295 (o.delivered + 1) } else o

theorem orderDelivered_eq (r : PlateRecord) (s : State) :
    orderDelivered r s = { s with orders := { s.orders with queue := s.orders.queue.map (deliveredBy r) } } := by
  have hnone (hr : ∀ o : Order, (r.counted && r.order == some o.id) = false) : s.orders.queue.map (deliveredBy r) = s.orders.queue := by
    refine (List.map_congr_left fun o _ => ?_).trans (List.map_id _)
    simp [deliveredBy, hr o]
  unfold orderDelivered
  split
  · rename_i hr
    rw [hnone fun o => by simp [hr]]
  rename_i id hr
  split
  · rename_i hcount
    rw [modOrder_eq]
    have hqueue : (s.orders.queue.map fun q => if q.id = id then { q with delivered := satAdd Config.max32 q.delivered 1 } else q) =
        s.orders.queue.map (deliveredBy r) := by
      refine List.map_congr_left fun o _ => ?_
      by_cases ho : o.id = id
      · simp only [deliveredBy, hcount, hr, ho, Bool.true_and, beq_self_eq_true, if_true]
        rfl
      · simp [deliveredBy, hcount, hr, ho, Ne.symm ho]
    rw [hqueue]
  · rename_i hcount
    rw [hnone fun o => by simp [hcount]]

/-- What a record leaves that retires alone, before its order is tested for finishing. -/
def retiredAlone (r : PlateRecord) (p : PlanningState) (fl : PerClass Nat) (s : State) : State :=
  { s with
    map := s.released r.flawRefs r.blindRefs s.map
    orders := { s.orders with queue := s.orders.queue.map (deliveredBy r) }
    planner := { s.planner with table := s.planner.table.filter fun q => q.id != r.id, head := some ⟨r.cut, false⟩, planning := p }
    cutter := { s.cutter with sentResult := min 4294967295 (s.cutter.sentResult + 1) }
    report := { s.report with
      shift := { s.report.shift.addRecord s.netWidth r with flaws := fl }
      journal := pushBounded 64 s.report.journal (journalEntry r none s.report.shift.seq) }
    port := { s.port with events := s.port.events ||| Event.resultReady.single }
    out := { s.out with cutter := s.out.cutter ++ [.plateResult r.id r.kind r.length (r.pieces.map Piece.result)] } }

/-- A record that retires alone, once its result is sent, noted and counted. -/
def resultNoted (r : PlateRecord) (s : State) : State :=
  tally (Shift.addRecord s.netWidth r) (addJournal r none (sendPlateResult r.id r.kind r.length (r.pieces.map Piece.result) s))

theorem resultNoted_eq (r : PlateRecord) (s : State) : resultNoted r s = { s with
    cutter := { s.cutter with sentResult := min 4294967295 (s.cutter.sentResult + 1) }
    report := { s.report with
      shift := s.report.shift.addRecord s.netWidth r
      journal := pushBounded 64 s.report.journal (journalEntry r none s.report.shift.seq) }
    port := { s.port with events := s.port.events ||| Event.resultReady.single }
    out := { s.out with cutter := s.out.cutter ++ [.plateResult r.id r.kind r.length (r.pieces.map Piece.result)] } } := rfl

theorem retireAlone_eq (r : PlateRecord) {s : State} (h : s.port.mode ≠ .idle) :
    ∃ p fl, retireAlone r s = finishTest (retiredAlone r p fl s) r := by
  obtain ⟨fl, hf⟩ := releaseReferences_eq r.flawRefs r.blindRefs (s := resultNoted r s) h
  obtain ⟨p, hp, -⟩ := testRoom_spec ((orderDelivered r (releaseReferences r.flawRefs r.blindRefs (resultNoted r s))).modPlanner fun p =>
    { p with table := p.table.filter fun q => !([r].any fun g => g.id == q.id), head := some ⟨r.cut, false⟩ })
  have hreleased : (resultNoted r s).released = s.released := released_congr rfl rfl rfl
  have htable : s.planner.table.filter (fun q => !([r].any fun g => g.id == q.id)) = s.planner.table.filter fun q => q.id != r.id := by
    refine List.filter_congr fun q _ => ?_
    simp [bne, BEq.comm]
  have hleft : leaveTable [r] r.cut (orderDelivered r (releaseReferences r.flawRefs r.blindRefs (resultNoted r s))) =
      retiredAlone r p fl s := by
    rw [leaveTable, hp, orderDelivered_eq, hf, hreleased, resultNoted_eq, retiredAlone, ← htable]
    rfl
  exact ⟨p, fl, congrArg (finishTest · r) hleft⟩

theorem addPieces_eq (length : Nat) (ps : List Piece) (h : Shift) : ps.foldl (Shift.addPiece length) h = { h with
    pieces := ps.foldl (fun g p => g.modify (fun n => min 4294967295 (n + 1)) p.grade) h.pieces
    areas := ps.foldl (fun g p => g.modify (fun a => min (2 ^ 64 - 1) (a + (p.xEnd - p.xStart) * length)) p.grade) h.areas } := by
  induction ps generalizing h with
  | nil => rfl
  | cons p ps ih => exact ih _

theorem addRecord_plate {r : PlateRecord} (w : Nat) (h : r.kind = .plate) (x : Shift) : x.addRecord w r = { x with
    plates := x.plates.modify (fun n => min 4294967295 (n + 1)) r.grade
    pieces := r.pieces.foldl (fun g p => g.modify (fun n => min 4294967295 (n + 1)) p.grade) x.pieces
    areas := r.pieces.foldl (fun g p => g.modify (fun a => min (2 ^ 64 - 1) (a + (p.xEnd - p.xStart) * r.length)) p.grade) x.areas } := by
  simp only [Shift.addRecord, h, addPieces_eq]
  rfl

theorem addRecord_cull {r : PlateRecord} (w : Nat) (h : r.kind = .cull) (x : Shift) : x.addRecord w r = x.addCull w r.length := by
  simp only [Shift.addRecord, h]

theorem addRecord_seq (w : Nat) (r : PlateRecord) (x : Shift) : (x.addRecord w r).seq = x.seq := by
  cases h : r.kind with
  | plate => rw [addRecord_plate w h]
  | cull => rw [addRecord_cull w h]; rfl

/-! ### The order of the record (R97, R98) -/

theorem finishTest_none {r : PlateRecord} (s : State) (h : r.order = none) : finishTest s r = s := by
  unfold finishTest
  split
  · rfl
  · simp_all

theorem finishTest_stays {s : State} {r : PlateRecord} {o : Order} (hr : r.order = some o.id) (hf : s.findOrder o.id = some o)
    (h : ¬ (o.state = .ending ∧ s.recordsOf o.id = 0)) : finishTest s r = s := by
  simp only [finishTest, hr, testFinish, hf]
  exact if_neg h

theorem finishTest_finishes {s : State} {r : PlateRecord} {o : Order} (hr : r.order = some o.id) (hf : s.findOrder o.id = some o)
    (hs : o.state = .ending) (h : s.recordsOf o.id = 0) : finishTest s r = finishOrder o o.outcome s := by
  simp only [finishTest, hr, testFinish, hf]
  exact if_pos ⟨hs, h⟩

theorem deliveredBy_split {pre post : List Order} {o : Order} {r : PlateRecord} (hr : r.order = some o.id)
    (hn : ((pre ++ o :: post).map Order.id).Nodup) : (pre ++ o :: post).map (deliveredBy r) =
      pre ++ { o with delivered := if r.counted then min 4294967295 (o.delivered + 1) else o.delivered } :: post := by
  have hmap := map_split (pre := pre) (post := post) (o := o)
    (fun q => { q with delivered := if r.counted then min 4294967295 (q.delivered + 1) else q.delivered }) hn
  rw [← hmap]
  refine List.map_congr_left fun q _ => ?_
  by_cases hq : q.id = o.id
  · have hr' : r.order = some q.id := by rw [hr, hq]
    rw [if_pos hq]
    cases hc : r.counted <;> simp [deliveredBy, hr', hc]
  · simp [deliveredBy, hr, hq, Ne.symm hq]

/-! ### The cut that is DONE (R118) -/

/-- R118: a record whose cut is DONE. -/
def PlateRecord.done (r : PlateRecord) : PlateRecord := { r with cut := { r.cut with state := .done }, state := .cut }

theorem liveBelow_nil {s : State} {pos : Nat}
    (h : ∀ k ∈ s.planner.cuts, k.cut.state = .sent ∨ k.cut.state = .accepted → pos ≤ k.cut.pos) : s.liveBelow pos = [] :=
  List.filter_eq_nil_iff.2 fun k hk => by
    simp only [Bool.and_eq_true, decide_eq_true_eq, live_iff, not_and, Nat.not_lt]
    exact h k hk

theorem exec_cutDone_record {s : State} {pre post : List PlateRecord} {r : PlateRecord} (hh : s.ctl.held = false)
    (ht : s.planner.table = pre ++ r :: post) (hcuts : (s.planner.cuts.map fun k => k.cut.id).Nodup)
    (hids : (s.planner.table.map PlateRecord.id).Nodup) (hlive : r.cut.state = .sent ∨ r.cut.state = .accepted)
    (hbelow : s.liveBelow r.cut.pos = []) : exec (.cutDone r.cut.id) s = .next (drainChain (makePendingClose
      (match r.absorbedInto with
        | none => retireAlone r.done { s with planner := { s.planner with table := pre ++ r.done :: post } }
        | some h => retireChain (List.filter (fun q => q.chain == h) (pre ++ r.done :: post))
            { s with planner := { s.planner with table := pre ++ r.done :: post } }))) := by
  have hids' : ((pre ++ r.done :: post).map PlateRecord.id).Nodup := by
    rw [ht] at hids
    simpa [PlateRecord.done] using hids
  have hids'' : ((pre ++ { r with cut := { r.cut with state := .done } } :: post).map PlateRecord.id).Nodup := by
    rw [ht] at hids
    simpa using hids
  have hfind : State.findRecord { s with planner := { s.planner with table := pre ++ r.done :: post } } r.id = some r.done :=
    find_unique (key := PlateRecord.id) hids'
  have hdone : doneCut ⟨r.cut, some r.id⟩ s = retireDone r.id { s with planner := { s.planner with table := pre ++ r.done :: post } } := by
    have hmod := modRecord_split (s := setCut r.cut.id .done s) (r := { r with cut := { r.cut with state := .done } })
      (fun r => { r with state := .cut }) (by rw [setCut_record .done ht hcuts]) (by rw [setCut_record .done ht hcuts]; exact hids'')
    simp only [doneCut, hbelow, List.foldl_nil]
    rw [hmod, setCut_record .done ht hcuts]
    rfl
  refine (congrArg Host.Outcome.next (answerCut_live doneCut hh (findCut_record ht hcuts) ((live_iff _).2 hlive))).trans ?_
  rw [hdone, retireDone, hfind]
  rfl

theorem latched_raised (e : Event) (s : State) : ({ s with port := { s.port with events := s.port.events ||| e.single } } : State).latched e =
    true := by
  change (raise e s).latched e = true
  simp

/-! ### Live cuts below (R118) -/

theorem absorbedTable_cuts (head : Nat) (q : PlateRecord) (table : List PlateRecord) :
    (absorbedTable head q table).map (fun r => (⟨r.cut, some r.id⟩ : HeldCut)) = table.map fun r => ⟨r.cut, some r.id⟩ := by
  rw [absorbedTable, List.map_map]
  refine List.map_congr_left fun x _ => ?_
  simp only [Function.comp]
  split
  · rfl
  split <;> rfl

theorem spilledTable_cuts (pre post : List PlateRecord) (r : PlateRecord) :
    (spilledTable pre post r).map (fun r => (⟨r.cut, some r.id⟩ : HeldCut)) =
      pre.map (fun r => ⟨r.cut, some r.id⟩) ++ ⟨r.cut, some r.id⟩ :: post.map fun r => ⟨r.cut, some r.id⟩ := by
  cases post with
  | nil => rw [spilledTable, List.map_append]; rfl
  | cons q rest => rw [spilledTable, absorbedTable_cuts, List.map_append]; rfl

/-- In PRODUCE a cut that fails changes the state of that cut alone. -/
theorem failCut_cuts {s : State} {k : HeldCut} (f : CutFailure) (hm : s.port.mode = .produce) (hk : k ∈ s.planner.cuts)
    (hcuts : (s.planner.cuts.map fun k => k.cut.id).Nodup) (hids : (s.planner.table.map PlateRecord.id).Nodup) :
    (failCut f k s).ctl = s.ctl ∧ (failCut f k s).planner.cuts = s.planner.cuts.map fun c =>
      if c.cut.id = k.cut.id then { c with cut := { c.cut with state := f.state } } else c := by
  have hidle : s.port.mode ≠ .idle := by simp [hm]
  have hstays (it : ReportItems) (p : Planner) (gone : List PlateRecord) (v : BitVec 16) (fl : PerClass Nat) :
      drainChain (failedState f it p gone v fl s) = failedState f it p gone v fl s :=
    drainChain_stays fun h => by
      rw [show s.port.mode = .draining from h] at hm
      cases hm
  have hset (pre post : List HeldCut) (he : s.planner.cuts = pre ++ k :: post) : (s.planner.cuts.map fun c =>
      if c.cut.id = k.cut.id then { c with cut := { c.cut with state := f.state } } else c) =
        pre ++ { k with cut := { k.cut with state := f.state } } :: post := by
    have hup := updateWhere_unique (key := fun c : HeldCut => c.cut.id) (pre := pre) (post := post) (r := k)
      (fun c => { c with cut := { c.cut with state := f.state } }) (he ▸ hcuts)
    simpa only [updateWhere, beq_iff_eq, he] using hup
  rcases mem_cuts.1 hk with ⟨h, hh, rfl⟩ | ⟨r, hr, rfl⟩
  · obtain ⟨v, fl, he⟩ := failCut_head f hidle hh hcuts
    rw [he, hstays]
    refine ⟨rfl, ?_⟩
    rw [hset [] _ (cuts_head hh), cuts_head (h := { h with cut := { h.cut with state := f.state } }) rfl]
    refine congrArg (_ :: ·) ?_
    cases ht : s.planner.table with
    | nil => rfl
    | cons q rest => exact absorbedTable_cuts ..
  · obtain ⟨pre, post, ht⟩ := List.append_of_mem hr
    obtain ⟨v, fl, he⟩ := failCut_record f hidle ht hcuts hids
    rw [he, hstays]
    refine ⟨rfl, ?_⟩
    rw [hset ((s.planner.head.map fun h => (⟨h.cut, none⟩ : HeldCut)).toList ++ pre.map fun r => ⟨r.cut, some r.id⟩)
      (post.map fun r => ⟨r.cut, some r.id⟩) (by simp [Planner.cuts, ht])]
    change (s.planner.head.map fun h => (⟨h.cut, none⟩ : HeldCut)).toList ++ _ = _
    rw [List.append_assoc]
    exact congrArg (_ ++ ·) (spilledTable_cuts ..)

theorem filter_map_drop {α : Type} {P : α → Bool} {g : α → α} {x : α} {xs ys : List α} (hn : ys.Nodup) (hf : ys.filter P = x :: xs)
    (hx : P (g x) = false) (hsame : ∀ y ∈ ys, y ≠ x → g y = y) : (ys.map g).filter P = xs := by
  induction ys with
  | nil => cases hf
  | cons y ys ih =>
    obtain ⟨hy, hn⟩ := List.nodup_cons.1 hn
    have hrest (hne : y ≠ x) (h : ys.filter P = x :: xs) := ih hn h fun z hz => hsame z (List.mem_cons_of_mem _ hz)
    cases hp : P y with
    | true =>
      rw [List.filter_cons_of_pos hp] at hf
      obtain ⟨rfl, htail⟩ := List.cons.inj hf
      have hid : ys.map g = ys := (List.map_congr_left fun z hz => hsame z (List.mem_cons_of_mem _ hz)
        (fun he => hy (he ▸ hz))).trans (List.map_id' _)
      rw [List.map_cons, List.filter_cons_of_neg (by simp [hx]), hid, htail]
    | false =>
      rw [List.filter_cons_of_neg (by simp [hp])] at hf
      have hne : y ≠ x := by
        rintro rfl
        have hmem : y ∈ ys.filter P := hf ▸ List.mem_cons_self
        exact hy (List.mem_filter.1 hmem).1
      rw [List.map_cons, hsame y List.mem_cons_self hne, List.filter_cons_of_neg (by simp [hp])]
      exact hrest hne hf

/-- R118: in PRODUCE the first live cut below a CUT DONE is settled as by a CUT MISSED, and the rest as by the CUT DONE then. -/
theorem exec_cutDone_below {s u : State} {id : Nat} {h e : HeldCut} {es : List HeldCut} (hh : s.ctl.held = false)
    (hm : s.port.mode = .produce) (hcuts : (s.planner.cuts.map fun k => k.cut.id).Nodup) (hids : (s.planner.table.map PlateRecord.id).Nodup)
    (hfind : s.findCut id = some h) (hlive : h.cut.state.live = true) (hbelow : s.liveBelow h.cut.pos = e :: es)
    (hu : exec (.cutMissed e.cut.id) s = .next u) : exec (.cutDone id) s = exec (.cutDone id) u := by
  have hid : h.cut.id = id := by simpa using List.find?_some hfind
  have hmem : e ∈ s.liveBelow h.cut.pos := hbelow ▸ List.mem_cons_self
  obtain ⟨he, hpred⟩ := List.mem_filter.1 hmem
  simp only [Bool.and_eq_true, decide_eq_true_eq] at hpred
  have hmem' := List.mem_of_find?_eq_some hfind
  have hne : h.cut.id ≠ e.cut.id := fun hc => by
    have := cut_unique hcuts hmem' he hc
    subst this
    exact absurd hpred.2 (Nat.lt_irrefl _)
  have hfinde : s.findCut e.cut.id = some e := by
    obtain ⟨pre, post, hs⟩ := List.append_of_mem he
    rw [State.findCut, hs]
    exact find_unique (key := fun k : HeldCut => k.cut.id) (hs ▸ hcuts)
  have hu' : u = failCut .missed e s :=
    Host.Outcome.next.inj (hu.symm.trans (congrArg Host.Outcome.next (answerCut_live (failCut .missed) hh hfinde hpred.1)))
  obtain ⟨hctl, hheld⟩ := failCut_cuts .missed hm he hcuts hids
  rw [← hu'] at hctl hheld
  have hfindu : u.findCut id = some h := by
    obtain ⟨pre, post, hs⟩ := List.append_of_mem hmem'
    have hkeys := hcuts
    rw [hs] at hkeys
    rw [State.findCut, hheld, hs, List.map_append, List.map_cons, if_neg hne, ← hid]
    refine find_unique (key := fun k : HeldCut => k.cut.id) ?_
    have hsame (xs : List HeldCut) : (xs.map fun c => if c.cut.id = e.cut.id then { c with cut := { c.cut with state := CutFailure.missed.state } } else c).map
        (fun k => k.cut.id) = xs.map fun k => k.cut.id := by
      rw [List.map_map]
      refine List.map_congr_left fun c _ => ?_
      simp only [Function.comp]
      split <;> rfl
    rw [List.map_append, List.map_cons] at hkeys ⊢
    rw [hsame, hsame]
    exact hkeys
  have hbelowu : u.liveBelow h.cut.pos = es := by
    rw [State.liveBelow, hheld]
    refine filter_map_drop hcuts.of_map hbelow (by simp [CutState.live, CutFailure.state]) fun y hy hn => if_neg fun hc => hn ?_
    exact cut_unique hcuts hy he hc
  have hdone : doneCut h s = doneCut h u := by
    rw [doneCut, doneCut, hbelow, hbelowu, List.foldl_cons, ← hu']
  refine (congrArg Host.Outcome.next (answerCut_live doneCut hh hfind hlive)).trans ?_
  rw [hdone]
  exact (congrArg Host.Outcome.next (answerCut_live doneCut (by rw [hctl]; exact hh) hfindu hlive)).symm

/-! ### What CUT DONE leaves -/

/-- R177: what CUT DONE leaves of the pending close, and the blocks that it leaves alone, once a result has been sent. -/
structure DoneFrame (s t : State) : Prop where
  ready : t.latched .resultReady = true
  pos : t.pos = s.pos
  lanes : t.lanes = s.lanes
  tracker : t.tracker = s.tracker
  fault : t.fault = s.fault
  mode : t.port.mode = s.port.mode
  closed : ∀ p, s.report.pendingClose = some p → t.report.pendingClose = none ∧ t.report.shift.label = p.label ∧
    t.latched .shiftClosed = true

/-- The blocks as they were before the close, in `u` a state in which the retirement of `s` has been made. -/
structure RetiredFrame (s u : State) : Prop where
  ready : u.latched .resultReady = true
  pos : u.pos = s.pos
  lanes : u.lanes = s.lanes
  tracker : u.tracker = s.tracker
  fault : u.fault = s.fault
  mode : u.port.mode = s.port.mode
  pending : u.report.pendingClose = s.report.pendingClose

theorem RetiredFrame.closed {s u t : State} (h : RetiredFrame s u) (hc : PendingClosed u t) : DoneFrame s t where
  ready := hc.latched _ h.ready
  pos := hc.pos.trans h.pos
  lanes := hc.lanes.trans h.lanes
  tracker := hc.tracker.trans h.tracker
  fault := hc.fault.trans h.fault
  mode := hc.mode.trans h.mode
  closed p hp := by
    obtain ⟨h1, h2, h3, -⟩ := hc.some p (h.pending.trans hp)
    exact ⟨h1, h2, h3⟩

theorem DoneFrame.chainRetired {s t u : State} {rs : List PlateRecord} {first last : PlateRecord} (h : DoneFrame s t)
    (hc : ChainRetired rs first last t u) : DoneFrame s u := by
  obtain ⟨c, d, hreport⟩ := hc.report
  obtain ⟨e, hport⟩ := hc.port
  constructor
  case ready => exact hc.ready
  case pos => exact hc.pos.trans h.pos
  case lanes => exact hc.lanes.trans h.lanes
  case tracker => exact hc.tracker.trans h.tracker
  case fault => exact hc.fault.trans h.fault
  case mode => rw [hport]; exact h.mode
  case closed =>
    intro p hp
    obtain ⟨h1, h2, h3⟩ := h.closed p hp
    exact ⟨by rw [hreport]; exact h1, by rw [hreport]; exact h2, hc.latched _ h3⟩

/-- A record that retires alone: the state before the close. -/
theorem retireAlone_frame {r : PlateRecord} {s u : State} {p : PlanningState} {fl : PerClass Nat}
    (h : Finished (retiredAlone r p fl s) u) : RetiredFrame s u := by
  have hready : u.latched .resultReady = true := h.latched _ (latched_raised .resultReady s)
  obtain ⟨a, b, c, d, rfl⟩ := h.frame
  exact ⟨hready, rfl, rfl, rfl, rfl, rfl, rfl⟩

theorem finished_drainChain {s : State} {rest : List PlateRecord} (ht : s.planner.table = rest)
    (h : s.port.mode = .draining → ∀ x, rest.getLast? = some x → x.state ≠ .spilled) : drainChain s = s :=
  drainChain_stays fun hm r _ hr hs => absurd hs (h hm r (ht ▸ hr))

theorem filter_first {r : PlateRecord} {rest : List PlateRecord} (hn : ((r :: rest).map PlateRecord.id).Nodup) :
    (r :: rest).filter (fun q => q.id != r.id) = rest :=
  filter_unique (key := PlateRecord.id) (pre := []) hn

theorem deliveredBy_none {r : PlateRecord} (h : r.order = none) (os : List Order) : os.map (deliveredBy r) = os :=
  (List.map_congr_left fun o _ => by simp [deliveredBy, h]).trans (List.map_id' _)

/-- R98: the order of a record that has retired alone. -/
theorem finishTest_orders {r : PlateRecord} {p : PlanningState} {fl : PerClass Nat} {s : State} {pre post : List Order} {o o' : Order}
    {rest : List PlateRecord} (ht : (retiredAlone r p fl s).planner.table = rest) (hq : s.orders.queue = pre ++ o :: post)
    (hr : r.order = some o.id) (hlaw : OrderLaw s)
    (ho : o' = { o with delivered := if r.counted then min 4294967295 (o.delivered + 1) else o.delivered }) :
    (o.state ≠ .ending ∨ (∃ q ∈ rest, q.order = some o.id ∧ q.state ≠ .void) →
      (finishTest (retiredAlone r p fl s) r).orders = { s.orders with queue := pre ++ o' :: post }) ∧
    (o.state = .ending → (∀ q ∈ rest, q.order = some o.id → q.state = .void) →
      (finishTest (retiredAlone r p fl s) r).orders.queue = pre ++ post ∧
      (finishTest (retiredAlone r p fl s) r).orders.finished.getLast? = some ⟨o.id, o.quantity, o.target, o.planned, o'.delivered,
        if 0 < o.quantity ∧ o'.delivered < o.quantity then .short else .complete, (retiredAlone r p fl s).report.shift.seq⟩) := by
  subst ht
  have hid : o'.id = o.id := by rw [ho]
  have hstate : o'.state = o.state := by rw [ho]
  have hids : ((pre ++ o :: post).map Order.id).Nodup := hq ▸ hlaw.2
  have hqueue : (retiredAlone r p fl s).orders.queue = pre ++ o' :: post := by
    rw [ho, ← deliveredBy_split hr hids, ← hq]
    rfl
  have hids' : ((retiredAlone r p fl s).orders.queue.map Order.id).Nodup := by
    rw [hqueue]
    simpa [hid] using hids
  have hfind := findOrder_split hqueue hids'
  refine ⟨fun h => ?_, fun hs hnone => ?_⟩
  · rw [finishTest_stays (hid ▸ hr) hfind]
    · rw [← hqueue]
      rfl
    · rintro ⟨hs, hrec⟩
      rw [hid] at hrec
      exact h.elim (fun h => h (hstate ▸ hs)) ((recordsOf_eq_zero _ _).1 hrec)
  · have hrec : (retiredAlone r p fl s).recordsOf o'.id = 0 := by
      rw [hid]
      exact (recordsOf_eq_zero _ _).2 fun ⟨q, hq, hqo, hqs⟩ => hqs (hnone q hq hqo)
    rw [finishTest_finishes (hid ▸ hr) hfind (hstate.trans hs) hrec, finishOrder_split _ hqueue hids']
    refine ⟨rfl, ?_⟩
    change (pushBounded 8 _ _).getLast? = _
    rw [pushBounded, List.getLast?_concat, ho]
    rfl

/-- R125: the front record, not absorbed, retires alone, and then a pending close is made. -/
theorem exec_cutDone_alone {s : State} {r : PlateRecord} {rest : List PlateRecord} (hh : s.ctl.held = false) (hidle : s.port.mode ≠ .idle)
    (hcuts : (s.planner.cuts.map fun k => k.cut.id).Nodup) (hids : (s.planner.table.map PlateRecord.id).Nodup)
    (ht : s.planner.table = r :: rest) (hlive : r.cut.state = .sent ∨ r.cut.state = .accepted) (habs : r.absorbedInto = none)
    (hhead : ∀ h, s.planner.head = some h → ¬ (h.cut.state = .sent ∨ h.cut.state = .accepted))
    (hbelow : ∀ q ∈ rest, q.cut.state = .sent ∨ q.cut.state = .accepted → r.cut.pos ≤ q.cut.pos) : ∃ p fl b,
      b = retiredAlone r.done p fl { s with planner := { s.planner with table := r.done :: rest } } ∧ b.planner.table = rest ∧
      exec (.cutDone r.cut.id) s = .next (drainChain (makePendingClose (finishTest b r.done))) := by
  have hnil : s.liveBelow r.cut.pos = [] := liveBelow_nil fun k hk hl => by
    rcases mem_cuts.1 hk with ⟨g, hg, rfl⟩ | ⟨q, hq, rfl⟩
    · exact absurd hl (hhead g hg)
    · rw [ht] at hq
      rcases List.mem_cons.1 hq with rfl | hq
      · exact Nat.le_refl _
      · exact hbelow q hq hl
  have hexec := exec_cutDone_record (pre := []) hh ht hcuts hids hlive hnil
  simp only [habs, List.nil_append] at hexec
  obtain ⟨p, fl, he⟩ := retireAlone_eq r.done (s := { s with planner := { s.planner with table := r.done :: rest } }) hidle
  rw [he] at hexec
  refine ⟨p, fl, _, rfl, filter_first ?_, hexec⟩
  rw [ht] at hids
  exact hids

theorem filter_any_append {gone rest : List PlateRecord} (h : ((gone ++ rest).map PlateRecord.id).Nodup) :
    ((gone ++ rest).filter fun r => !(gone.any fun g => g.id == r.id)) = rest := by
  rw [List.map_append, List.nodup_append] at h
  obtain ⟨-, -, hne⟩ := h
  rw [List.filter_append, filter_any_self, List.nil_append, List.filter_eq_self]
  intro r hr
  simpa using fun g hg => hne _ (List.mem_map_of_mem hg) _ (List.mem_map_of_mem hr)

/-- R126: the chain of a record whose cut is DONE retires, and then a pending close is made. -/
theorem exec_cutDone_chain {s : State} {rs rest : List PlateRecord} {first r : PlateRecord} {h : Nat} (hh : s.ctl.held = false)
    (hcuts : (s.planner.cuts.map fun k => k.cut.id).Nodup) (hids : (s.planner.table.map PlateRecord.id).Nodup)
    (ht : s.planner.table = rs ++ r :: rest) (hlive : r.cut.state = .sent ∨ r.cut.state = .accepted) (habs : r.absorbedInto = some h)
    (hfirst : (rs ++ [r]).head? = some first) (hchain : ∀ x ∈ rs, x.chain = r.chain) (hothers : ∀ x ∈ rest, x.chain ≠ r.chain)
    (hhead : ∀ h, s.planner.head = some h → ¬ (h.cut.state = .sent ∨ h.cut.state = .accepted))
    (hbelow : ∀ q ∈ rs ++ rest, q.cut.state = .sent ∨ q.cut.state = .accepted → r.cut.pos ≤ q.cut.pos) : ∃ f t u,
      (rs ++ [r.done]).head? = some f ∧ f.id = first.id ∧ t = { s with planner := { s.planner with table := rs ++ r.done :: rest } } ∧
      u = retireChain (rs ++ [r.done]) t ∧ u.planner.table = rest ∧ exec (.cutDone r.cut.id) s = .next (drainChain (makePendingClose u)) := by
  have hnil : s.liveBelow r.cut.pos = [] := liveBelow_nil fun k hk hl => by
    rcases mem_cuts.1 hk with ⟨g, hg, rfl⟩ | ⟨q, hq, rfl⟩
    · exact absurd hl (hhead g hg)
    · rw [ht, List.mem_append, List.mem_cons] at hq
      rcases hq with hq | rfl | hq
      · exact hbelow q (List.mem_append_left _ hq) hl
      · exact Nat.le_refl _
      · exact hbelow q (List.mem_append_right _ hq) hl
  have hexec := exec_cutDone_record hh ht hcuts hids hlive hnil
  have hr : r.chain = h := by simp [PlateRecord.chain, habs]
  have hrd : r.done.chain = h := hr
  have hrecords : (rs ++ r.done :: rest).filter (fun q => q.chain == h) = rs ++ [r.done] := by
    rw [List.filter_append, List.filter_eq_self.2 fun x hx => by simp [hchain x hx, hr], List.filter_cons_of_pos (by simp [hrd]),
      List.filter_eq_nil_iff.2 fun x hx => by simpa [← hr] using hothers x hx]
  simp only [habs, hrecords] at hexec
  obtain ⟨f, hf, hfid⟩ : ∃ f, (rs ++ [r.done]).head? = some f ∧ f.id = first.id := by
    cases rs with
    | nil => exact ⟨r.done, rfl, by cases hfirst; rfl⟩
    | cons x xs => exact ⟨x, rfl, by cases hfirst; rfl⟩
  have hret := retireChain_retired hf (last := r.done) (by simp) { s with planner := { s.planner with table := rs ++ r.done :: rest } }
  obtain ⟨x, hplan, -⟩ := hret.frame
  refine ⟨f, _, _, hf, hfid, rfl, rfl, ?_, hexec⟩
  rw [hplan]
  change List.filter _ (rs ++ r.done :: rest) = rest
  have hsplit : rs ++ r.done :: rest = (rs ++ [r.done]) ++ rest := List.append_cons ..
  rw [hsplit]
  refine filter_any_append ?_
  rw [ht, List.append_cons] at hids
  simpa [PlateRecord.done] using hids

/-- Settles O44. -/
theorem cutDoneRetiresTheRecord : Obligations.CutDoneRetiresTheRecord := by
  intro s id hh hm hcuts hids live chain length entry noted result joined sums settled frame
  have hidle : s.port.mode ≠ .idle := by
    rintro hi
    simp [hi, Mode.cutting] at hm
  have hframe {t : State} (h : DoneFrame s t) : frame t := ⟨h.ready, h.pos, h.lanes, h.tracker, h.fault, h.mode, h.closed⟩
  refine ⟨fun h e es u hp hfind hlive hbelow hu => ?_, fun h hhead hid hlive hbelow => ?_,
    fun r rest ht hid hlive habs hhead hbelow => ?_, ?_⟩
  · exact exec_cutDone_below hh hp hcuts hids hfind ((live_iff _).2 hlive) hbelow hu
  · subst hid
    have hnil : s.liveBelow h.cut.pos = [] := liveBelow_nil fun k hk hl => by
      rcases mem_cuts.1 hk with ⟨g, hg, rfl⟩ | ⟨r, hr, rfl⟩
      · cases hg.symm.trans hhead
        exact Nat.le_refl _
      · exact hbelow r hr hl
    refine (congrArg Host.Outcome.next (answerCut_live doneCut hh (findCut_head hhead) ((live_iff _).2 hlive))).trans ?_
    simp only [doneCut, hnil, List.foldl_nil]
    rw [setCut_head .done hhead hcuts]
  · subst hid
    obtain ⟨p, fl, b, hb, htable, hexec⟩ := exec_cutDone_alone hh hidle hcuts hids ht hlive habs hhead hbelow
    have hfin := finishTest_finished b r.done
    have hretired : RetiredFrame s (finishTest b r.done) := by
      rw [hb] at hfin ⊢
      have h := retireAlone_frame hfin
      exact ⟨h.ready, h.pos, h.lanes, h.tracker, h.fault, h.mode, h.pending⟩
    have hclosed := makePendingClose_closed (finishTest b r.done)
    have hdone := hretired.closed hclosed
    obtain ⟨u, c, d, v, hu⟩ := hfin.frame
    have hplanner : (makePendingClose (finishTest b r.done)).planner = b.planner := by rw [hclosed.planner, hu]
    refine ⟨fun hsettled => ?_, fun hdrain first last mid hrest hlast hspilled hchain => ?_⟩
    · have hstay := finished_drainChain (s := makePendingClose (finishTest b r.done)) (by rw [hplanner, htable]) fun hd =>
        hsettled (hdone.mode.symm.trans hd)
      rw [hstay] at hexec
      have hnone (hp : s.report.pendingClose = none) : makePendingClose (finishTest b r.done) = finishTest b r.done :=
        hclosed.none (hretired.pending.trans hp)
      refine ⟨_, hexec, hframe hdone, by rw [hplanner, htable], by rw [hplanner, hb]; rfl, by rw [hclosed.sent, hu, hb]; rfl,
        by rw [hclosed.cutter, hu, hb]; rfl, by rw [hclosed.journal, hu, hb]; rfl, by rw [hclosed.map, hu, hb]; rfl,
        fun hp => ⟨fun hk => ?_, fun hk => ?_⟩, fun p hp => (hclosed.some p (hretired.pending.trans hp)).2.2.2, fun hr => ?_,
        fun pre post o hq hr hlaw => ?_⟩
      · rw [hnone hp, hu, hb]
        have hadd := addRecord_plate (r := r.done) s.netWidth hk s.report.shift
        exact ⟨(congrArg Shift.plates hadd :), (congrArg Shift.pieces hadd :), (congrArg Shift.areas hadd :), (congrArg Shift.cullCount hadd :),
          (congrArg Shift.cullArea hadd :)⟩
      · rw [hnone hp, hu, hb]
        have hadd := addRecord_cull (r := r.done) s.netWidth hk s.report.shift
        exact ⟨(congrArg Shift.plates hadd :), (congrArg Shift.pieces hadd :), (congrArg Shift.areas hadd :), (congrArg Shift.cullCount hadd :),
          (congrArg Shift.cullArea hadd :)⟩
      · rw [hclosed.orders, finishTest_none (r := r.done) b hr, hb]
        exact congrArg (fun q => { s.orders with queue := q }) (deliveredBy_none hr _)
      · rw [hclosed.orders]
        have h := finishTest_orders (r := r.done) (p := p) (fl := fl)
          (s := { s with planner := { s.planner with table := r.done :: rest } }) (rest := rest) (by rw [← hb]; exact htable) hq hr hlaw rfl
        have hseq : (retiredAlone r.done p fl { s with planner := { s.planner with table := r.done :: rest } }).report.shift.seq =
            s.report.shift.seq := addRecord_seq ..
        rw [hseq, ← hb] at h
        exact h
    · have hwhole : drainChain (makePendingClose (finishTest b r.done)) = retireChain rest (makePendingClose (finishTest b r.done)) := by
        have htable' : (makePendingClose (finishTest b r.done)).planner.table = rest := by rw [hplanner, htable]
        rw [← htable'] at hlast hchain
        have hwhole := drainChain_whole (first := first) (hdone.mode.trans hdrain) (by rw [htable', hrest]; rfl) hlast hspilled
          fun x hx => (hchain x hx).1
        rw [hwhole, htable']
      have hret := retireChain_retired (rs := rest) (first := first) (by rw [hrest]; rfl) hlast (makePendingClose (finishTest b r.done))
      obtain ⟨x, hplan, -⟩ := hret.frame
      obtain ⟨y, z, hreport⟩ := hret.report
      rw [hwhole] at hexec
      refine ⟨_, hexec, hframe (hdone.chainRetired hret), ?_, ?_, ?_, fun hp => ?_⟩
      · rw [hplan, hplanner, htable]
        exact filter_any_self _
      · rw [hplan]
      · rw [hret.out]
        change (makePendingClose (finishTest b r.done)).out.cutter ++ _ = _
        rw [hclosed.sent, hclosed.pos, hu, hb]
        exact List.append_assoc ..
      · have hseq : (finishTest b r.done).report.shift.seq = s.report.shift.seq := by
          rw [hu, hb]
          exact addRecord_seq ..
        rw [hreport, hclosed.none (hretired.pending.trans hp)]
        change List.foldl _ _ _ = _
        rw [hseq, hu, hb]
        simp only [noted, sums, List.foldl_cons, List.foldl_map]
        rfl
  · intro rs rest first r ht hfirst hid hlive habs hchain hothers hhead hbelow hsettled
    subst hid
    obtain ⟨h, hh'⟩ := Option.ne_none_iff_exists'.1 habs
    obtain ⟨f', v, u, hf', hfid, hv, hu, htable, hexec⟩ :=
      exec_cutDone_chain hh hcuts hids ht hlive hh' hfirst hchain hothers hhead hbelow
    have hret := retireChain_retired (rs := rs ++ [r.done]) (last := r.done) hf' (by simp) v
    rw [← hu] at hret
    obtain ⟨x, hplan, -⟩ := hret.frame
    obtain ⟨y, z, hreport⟩ := hret.report
    obtain ⟨w, hport⟩ := hret.port
    have hlengths : (rs ++ [r.done]).map PlateRecord.length = (rs ++ [r]).map length := by simp [PlateRecord.length, PlateRecord.done, length]
    have hretired : RetiredFrame s u :=
      ⟨hret.ready, by rw [hret.pos, hv], by rw [hret.lanes, hv], by rw [hret.tracker, hv], by rw [hret.fault, hv], by rw [hport, hv],
        by rw [hreport, hv]⟩
    have hclosed := makePendingClose_closed u
    have hdone := hretired.closed hclosed
    have hstay := finished_drainChain (s := makePendingClose u) (by rw [hclosed.planner, htable]) fun hd =>
      hsettled (hdone.mode.symm.trans hd)
    rw [hstay] at hexec
    refine ⟨_, hexec, hframe hdone, by rw [hclosed.planner, htable], by rw [hclosed.planner, hplan]; rfl, ?_, ?_, ?_, ?_,
      fun hnone => ?_, fun hp => ?_⟩
    · rw [hclosed.sent, hret.out, hfid, hlengths, hv]
      rfl
    · rw [hclosed.cutter, hret.cutter, hv]
    · rw [hclosed.journal, hreport, hfid, hlengths, hv]
      simp only [noted, sums, List.foldl_map, List.foldl_append, List.foldl_cons, List.foldl_nil]
      rfl
    · rw [hclosed.map, hret.map, hv]
    · rw [hclosed.orders, hret.orders (by rw [hv]; exact hnone), hv]
    · rw [hclosed.none (hretired.pending.trans hp), hreport, hlengths, hv]
      exact ⟨rfl, rfl, rfl, rfl, rfl⟩

end Sys2Proof.Machine
end

section
/-!
Agreements (O49) and the settings that have a capability evaluated again (O18): the fit checks of every order and the orders withdrawn with a
new geometry.
-/

namespace Sys2Proof.Machine

/-! ### Orders that stay and orders that finish, in queue order (R91, R92, R98) -/

/-- `t` is `s` but for its orders, the planning state, the counts of the open shift and more events latched. -/
structure OrdersMoved (s t : State) : Prop where
  frame : ∃ u p v h, t = { s with
    orders := u, planner := { s.planner with planning := p }, port := { s.port with events := v },
    report := { s.report with shift := h } } ∧ h.seq = s.report.shift.seq
  latched : ∀ e, s.latched e = true → t.latched e = true

theorem OrdersMoved.refl (s : State) : OrdersMoved s s := ⟨⟨_, _, _, _, rfl, rfl⟩, fun _ h => h⟩

theorem OrdersMoved.trans {s t u : State} (h : OrdersMoved s t) (h' : OrdersMoved t u) : OrdersMoved s u := by
  obtain ⟨⟨a, p, v, x, rfl, hx⟩, hl⟩ := h
  obtain ⟨⟨a', p', v', x', rfl, hx'⟩, hl'⟩ := h'
  exact ⟨⟨a', p', v', x', rfl, hx'.trans hx⟩, fun e he => hl' e (hl e he)⟩

theorem OrdersMoved.seq {s t : State} (h : OrdersMoved s t) : t.report.shift.seq = s.report.shift.seq := by
  obtain ⟨⟨a, p, v, x, rfl, hx⟩, -⟩ := h
  exact hx

theorem OrdersMoved.records {s t : State} (h : OrdersMoved s t) (id : Nat) : t.recordsOf id = s.recordsOf id := by
  obtain ⟨⟨a, p, v, x, rfl, hx⟩, -⟩ := h
  rfl

theorem OrdersMoved.fitCheck {s t : State} (h : OrdersMoved s t) (o : Order) : t.fitCheck o = s.fitCheck o := by
  obtain ⟨⟨a, p, v, x, rfl, hx⟩, -⟩ := h
  rfl

theorem raise_moved (e : Event) (s : State) : OrdersMoved s (raise e s) :=
  ⟨⟨_, _, _, _, rfl, rfl⟩, fun f h => by simp [h]⟩

theorem modOrder_moved (id : Nat) (g : Order → Order) (s : State) : OrdersMoved s (modOrder id g s) :=
  ⟨⟨_, _, _, _, rfl, rfl⟩, fun _ h => h⟩

theorem testRoom_moved (s : State) : OrdersMoved s (testRoom s) := by
  obtain ⟨p, hp, -⟩ := testRoom_spec s
  exact ⟨⟨_, p, _, _, hp, rfl⟩, fun e h => by rwa [testRoom_latched]⟩

theorem finishOrder_moved (o : Order) (c : OrderOutcome) (s : State) : OrdersMoved s (finishOrder o c s) := by
  refine ⟨⟨_, _, _, _, rfl, by cases c <;> rfl⟩, fun f h => ?_⟩
  change (raise _ _).latched f = true
  rw [latched_raise]
  exact Bool.or_eq_true_iff.2 (.inl h)

/-- The finished-order list once an order has joined it. -/
def finishedWith (o : Order) (c : OrderOutcome) (shift : Nat) (fs : List FinishedEntry) : List FinishedEntry :=
  (if 8 ≤ fs.length then fs.drop 1 else fs) ++ [⟨o.id, o.quantity, o.target, o.planned, o.delivered, c, shift⟩]

/-- What happens to one order of the queue: it stays, perhaps changed, or it finishes. -/
structure OneKept (f : State → Order → State) (stays : Order → Option Order) (outcome : Order → OrderOutcome) (e : Event)
    (Q : Order → Prop) (s t : State) (pre rest : List Order) (o : Order) (fin : List FinishedEntry) : Prop where
  moved : OrdersMoved t (f t o)
  stay : ∀ o', stays o = some o' → (f t o).orders = { s.orders with queue := pre ++ o' :: rest, finished := fin }
  gone : stays o = none → (f t o).orders = { s.orders with
    queue := pre ++ rest, finished := finishedWith o (outcome o) s.report.shift.seq fin }
  event : Q o → (f t o).latched e = true

/-- Each order treated in queue order leaves the orders that stay, and the others in the finished-order list. -/
theorem fold_kept {f : State → Order → State} {stays : Order → Option Order} {outcome : Order → OrderOutcome} {e : Event}
    {Q : Order → Prop} {s : State} (hid : ∀ o o', stays o = some o' → o'.id = o.id)
    (hstep : ∀ (t : State) (pre rest : List Order) (o : Order) (fin : List FinishedEntry), OrdersMoved s t →
      t.orders = { s.orders with queue := pre ++ o :: rest, finished := fin } → ((pre ++ o :: rest).map Order.id).Nodup →
      OneKept f stays outcome e Q s t pre rest o fin) :
    ∀ (todo pre : List Order) (fin : List FinishedEntry) (t : State), OrdersMoved s t →
      t.orders = { s.orders with queue := pre ++ todo, finished := fin } → ((pre ++ todo).map Order.id).Nodup →
      OrdersMoved t (todo.foldl f t) ∧ (todo.foldl f t).orders = { s.orders with
        queue := pre ++ todo.filterMap stays
        finished := (todo.filter fun o => (stays o).isNone).foldl (fun fs o => finishedWith o (outcome o) s.report.shift.seq fs) fin } ∧
      ((∃ o ∈ todo, Q o) → (todo.foldl f t).latched e = true) := by
  intro todo
  induction todo with
  | nil => exact fun pre fin t hm ho _ => ⟨.refl t, ho, fun ⟨o, h, _⟩ => absurd h List.not_mem_nil⟩
  | cons o rest ih =>
    intro pre fin t hm ho hn
    have hone := hstep t pre rest o fin hm ho hn
    have hmoved := hm.trans hone.moved
    have hstepped : ∃ pre' fin', (f t o).orders = { s.orders with queue := pre' ++ rest, finished := fin' } ∧
        ((pre' ++ rest).map Order.id).Nodup ∧ pre' ++ rest.filterMap stays = pre ++ (o :: rest).filterMap stays ∧
        (rest.filter fun o => (stays o).isNone).foldl (fun fs o => finishedWith o (outcome o) s.report.shift.seq fs) fin' =
          ((o :: rest).filter fun o => (stays o).isNone).foldl (fun fs o => finishedWith o (outcome o) s.report.shift.seq fs) fin := by
      cases hs : stays o with
      | some o' =>
        refine ⟨pre ++ [o'], fin, ?_, ?_, ?_, ?_⟩
        · rw [hone.stay o' hs, List.append_assoc]
          rfl
        · simpa [hid o o' hs] using hn
        · simp [hs]
        · simp [hs]
      | none =>
        refine ⟨pre, finishedWith o (outcome o) s.report.shift.seq fin, hone.gone hs, ?_, ?_, ?_⟩
        · exact hn.sublist ((List.append_sublist_append_left ..).2 (List.sublist_cons_self ..) |>.map _)
        · simp [hs]
        · simp [hs]
    obtain ⟨pre', fin', horders, hnodup, hqueue, hfin⟩ := hstepped
    obtain ⟨h1, h2, h3⟩ := ih pre' fin' (f t o) hmoved horders hnodup
    refine ⟨hone.moved.trans h1, by rw [List.foldl_cons, h2, hqueue, hfin], fun ⟨q, hq, hQ⟩ => ?_⟩
    rcases List.mem_cons.1 hq with rfl | hq
    · exact h1.latched e (hone.event hQ)
    · exact h3 ⟨q, hq, hQ⟩

/-- The Order Unit of `s` as its state of orders is kept. -/
theorem kept_eq (u : OrderUnit) (shift : Nat) (stays : Order → Option Order) (outcome : Order → OrderOutcome) :
    u.kept shift stays outcome = { u with
      queue := u.queue.filterMap stays
      finished := (u.queue.filter fun o => (stays o).isNone).foldl (fun fs o => finishedWith o (outcome o) shift fs) u.finished } := rfl

/-! ### The fit checks outside PRODUCE (R91) -/

/-- R91: what an order becomes that is given the fit checks. -/
def fitStays (s : State) (fits : Order → Bool) (o : Order) : Option Order :=
  if fits o || o.state == .ending then some o
  else if s.planner.table.any fun r => r.order == some o.id && r.state != .void then some { o with state := .ending }
  else none

def fitOutcome (o : Order) : OrderOutcome := if o.state = .queued then .withdrawn else o.outcome

theorem recordsOf_any (s : State) (id : Nat) :
    (s.planner.table.any fun r => r.order == some id && r.state != .void) = decide (s.recordsOf id ≠ 0) := by
  by_cases h : s.recordsOf id = 0
  · have hnone := (recordsOf_eq_zero s id).1 h
    rw [decide_eq_false (by simpa using h), List.any_eq_false]
    intro r hr
    simp only [Bool.and_eq_true, beq_iff_eq, bne_iff_ne]
    exact fun hc => hnone ⟨r, hr, hc⟩
  · obtain ⟨r, hr, ho, hs⟩ := not_not.1 (fun hc => h ((recordsOf_eq_zero s id).2 hc))
    rw [decide_eq_true h, List.any_eq_true]
    exact ⟨r, hr, by simp [ho, hs]⟩

theorem fitStays_stays {s : State} {fits : Order → Bool} {o : Order} (h : fits o = true ∨ o.state = .ending) : fitStays s fits o = some o := by
  refine if_pos ?_
  rcases h with h | h <;> simp [h]

theorem fitStays_ends {s : State} {fits : Order → Bool} {o : Order} (h : ¬ (fits o = true ∨ o.state = .ending)) (hr : s.recordsOf o.id ≠ 0) :
    fitStays s fits o = some { o with state := .ending } := by
  rw [fitStays, if_neg (by simpa using h), recordsOf_any, if_pos (by simpa using hr)]

theorem fitStays_gone {s : State} {fits : Order → Bool} {o : Order} (h : ¬ (fits o = true ∨ o.state = .ending)) (hr : s.recordsOf o.id = 0) :
    fitStays s fits o = none := by
  rw [fitStays, if_neg (by simpa using h), recordsOf_any, if_neg (by simpa using hr)]

theorem fitStays_id (s : State) (fits : Order → Bool) (o o' : Order) (h : fitStays s fits o = some o') : o'.id = o.id := by
  unfold fitStays at h
  split at h
  · cases h; rfl
  split at h
  · cases h; rfl
  · cases h

theorem testRoom_orders (s : State) : (testRoom s).orders = s.orders := by
  obtain ⟨p, hp, -⟩ := testRoom_spec s
  rw [hp]

theorem testFinish_moved (id : Nat) (s : State) : OrdersMoved s (testFinish id s) := by
  unfold testFinish
  split
  · exact .refl s
  split
  · exact finishOrder_moved ..
  · exact .refl s

theorem endOrder_moved (id : Nat) (s : State) : OrdersMoved s (endOrder id s) :=
  ((modOrder_moved id _ s).trans (testFinish_moved id _)).trans (testRoom_moved _)

/-- Outside PRODUCE an order that fails its fit checks. -/
theorem fitOrder_fails {t : State} {pre rest : List Order} {o : Order} (hm : t.port.mode ≠ .produce)
    (hq : t.orders.queue = pre ++ o :: rest) (hn : (t.orders.queue.map Order.id).Nodup) (hf : (t.fitCheck o).isNone = false)
    (hs : o.state ≠ .ending) : OrdersMoved t (fitOrder t o.id) ∧ (fitOrder t o.id).latched .orderWithdrawn = true ∧
      (t.recordsOf o.id ≠ 0 → (fitOrder t o.id).orders = { t.orders with queue := pre ++ { o with state := .ending } :: rest }) ∧
      (t.recordsOf o.id = 0 → (fitOrder t o.id).orders = { t.orders with
        queue := pre ++ rest, finished := finishedWith o (fitOutcome o) t.report.shift.seq t.orders.finished }) := by
  have hfind := findOrder_split hq hn
  cases ho : o.state with
  | ending => exact absurd ho hs
  | queued =>
    have hfit : fitOrder t o.id = failQueued o t := by simp [fitOrder, hfind, hf, ho]
    have hout : fitOutcome o = .withdrawn := if_pos ho
    by_cases hr : t.recordsOf o.id = 0
    · have hfail : failQueued o t = finishOrder o .withdrawn t := if_pos hr
      rw [hfit, hfail]
      refine ⟨finishOrder_moved .., ?_, fun h => absurd hr h, fun _ => ?_⟩
      · change (raise .orderWithdrawn _).latched .orderWithdrawn = true
        simp
      · rw [finishOrder_split _ hq hn, hout]
        rfl
    · have hfail : failQueued o t = raise .orderWithdrawn (modOrder o.id (fun q => { q with state := .ending }) t) := if_neg hr
      rw [hfit, hfail]
      refine ⟨(modOrder_moved ..).trans (raise_moved ..), by simp, fun _ => ?_, fun h => absurd h hr⟩
      rw [modOrder_split _ hq hn]
      rfl
  | active =>
    have hfit : fitOrder t o.id = endOrder o.id (raise .orderWithdrawn t) := by
      have hidle : activateNext (endOrder o.id (raise .orderWithdrawn t)) = endOrder o.id (raise .orderWithdrawn t) := by
        refine activateNext_idle (.inl ?_)
        obtain ⟨⟨a, p, v, x, he, -⟩, -⟩ := endOrder_moved o.id (raise .orderWithdrawn t)
        rw [he]
        exact hm
      simp [fitOrder, hfind, hf, ho, hidle]
    have hmoved := (raise_moved .orderWithdrawn t).trans (endOrder_moved o.id _)
    have hout : fitOutcome o = o.outcome := if_neg (by simp [ho])
    rw [hfit]
    refine ⟨hmoved, (endOrder_moved o.id _).latched _ (by simp), fun hr => ?_, fun hr => ?_⟩
    · obtain ⟨p, hp⟩ := endOrder_records (s := raise .orderWithdrawn t) (id := o.id) hr
      rw [hp]
      have hqueue : (t.orders.queue.map fun q => if q.id = o.id then { q with state := .ending } else q) =
          pre ++ { o with state := .ending } :: rest := by
        rw [hq] at hn ⊢
        exact map_split _ hn
      exact congrArg (fun q => { t.orders with queue := q }) hqueue
    · rw [endOrder_noRecords (s := raise .orderWithdrawn t) hq hn hr, testRoom_orders, finishOrder_split _ rfl, hout]
      · rfl
      · rw [hq] at hn
        simpa using hn

theorem fitOrder_stays {t : State} {o : Order} (hf : t.findOrder o.id = some o) (h : t.fitCheck o = none ∨ o.state = .ending) :
    fitOrder t o.id = t := by
  unfold fitOrder
  rw [hf]
  dsimp only
  split
  · rfl
  · rename_i hnone
    have hs : o.state = .ending := h.resolve_left fun hc => hnone (by simp [hc])
    rw [hs]

/-- R91: outside PRODUCE the fit checks leave the orders as `State.fitted` says. -/
theorem fitChecks_fitted {s : State} {fits : Order → Bool} (hm : s.port.mode ≠ .produce) (hn : (s.orders.queue.map Order.id).Nodup)
    (hfits : ∀ o, (s.fitCheck o).isNone = fits o) : OrdersMoved s (fitChecks s) ∧ (fitChecks s).orders = s.fitted fits ∧
      ((∃ o ∈ s.orders.queue, fits o = false ∧ o.state ≠ .ending) → (fitChecks s).latched .orderWithdrawn = true) := by
  have hfold : fitChecks s = s.orders.queue.foldl (fun t o => fitOrder t o.id) s := List.foldl_map
  have hstep (t : State) (pre rest : List Order) (o : Order) (fin : List FinishedEntry) (ht : OrdersMoved s t)
      (ho : t.orders = { s.orders with queue := pre ++ o :: rest, finished := fin }) (hnt : ((pre ++ o :: rest).map Order.id).Nodup) :
      OneKept (fun t o => fitOrder t o.id) (fitStays s fits) fitOutcome .orderWithdrawn (fun o => fits o = false ∧ o.state ≠ .ending)
        s t pre rest o fin := by
    have hq : t.orders.queue = pre ++ o :: rest := by rw [ho]
    have hmt : t.port.mode ≠ .produce := by
      obtain ⟨⟨a, p, v, x, rfl, -⟩, -⟩ := ht
      exact hm
    have hnt' : (t.orders.queue.map Order.id).Nodup := by rwa [hq]
    by_cases hstay : fits o = true ∨ o.state = .ending
    · have hsame : fitOrder t o.id = t := by
        refine fitOrder_stays (findOrder_split hq hnt') (hstay.imp_left fun hf => ?_)
        rw [ht.fitCheck]
        simpa [hf] using hfits o
      refine ⟨?_, fun o' h => ?_, fun h => ?_, fun hQ => ?_⟩
      · rw [hsame]
        exact .refl t
      · rw [fitStays_stays hstay] at h
        cases h
        rw [hsame, ho]
      · rw [fitStays_stays hstay] at h
        cases h
      · exact absurd hstay (by simp [hQ.1, hQ.2])
    · have hf : (t.fitCheck o).isNone = false := by
        rw [ht.fitCheck, hfits]
        simpa using fun h => hstay (.inl h)
      obtain ⟨hmoved, hevent, hrec, hnorec⟩ := fitOrder_fails hmt hq hnt' hf fun h => hstay (.inr h)
      rw [ht.records, ho] at hrec hnorec
      rw [ht.seq] at hnorec
      by_cases hr : s.recordsOf o.id = 0
      · refine ⟨hmoved, fun o' h => ?_, fun _ => hnorec hr, fun _ => hevent⟩
        rw [fitStays_gone hstay hr] at h
        cases h
      · refine ⟨hmoved, fun o' h => ?_, fun h => ?_, fun _ => hevent⟩
        · rw [fitStays_ends hstay hr] at h
          cases h
          exact hrec hr
        · rw [fitStays_ends hstay hr] at h
          cases h
  obtain ⟨h1, h2, h3⟩ := fold_kept (fitStays_id s fits) hstep s.orders.queue [] s.orders.finished s (.refl s) rfl hn
  rw [← hfold] at h1 h2 h3
  exact ⟨h1, h2, h3⟩

/-! ### What a capability is assessed to (R154, Table 8-4) -/

theorem destBeyond_false (t : GradeTable) (n : Nat) : t.destBeyond n = false ↔ ∀ g : Grade, t.dest.get g < n := by
  rw [← Bool.not_eq_true, destBeyond_iff]
  simp

/-- The terms with the lead distance as R154 writes it. -/
def termsOf (p : CutParameters) (maxSpeed : Nat) (c : Capability) : Agreement :=
  ⟨c, min c.speed maxSpeed, max p.minCull c.spacing, (c.lead * min c.speed maxSpeed + 99) / 100⟩

theorem terms_eq (s : State) (c : Capability) : s.terms c = termsOf s.planner.params s.pos.geometry.maxSpeed c := rfl

/-- Table 8-4, in the order of its rows. -/
theorem declineReason_eq (s : State) (ready : Bool) (c : Capability) {a : Agreement}
    (ha : a = termsOf s.planner.params s.pos.geometry.maxSpeed c) : s.declineReason ready c =
      if ready = false then some .notReady
      else if capabilityInRange c = false then some .range
      else if s.planner.params.maxCull < a.cMin then some .minCull
      else if s.pos.geometry.dgc < a.cMin + a.lead + s.planner.params.guard then some .travel
      else if s.grader.active.destBeyond c.destinations = true then some .destinations
      else none := by
  subst ha
  simp only [State.declineReason, Bool.not_eq_true']
  rfl

theorem dropAgreement_none {s : State} (h : s.cutter.agreement = none) : dropAgreement s = s := by simp only [dropAgreement, h]

theorem dropAgreement_some {s : State} {a : Agreement} (h : s.cutter.agreement = some a) : dropAgreement s =
    { s with cutter := { s.cutter with agreement := none },
             port := { s.port with events := s.port.events ||| Event.agreementChanged.single } } := by
  simp only [dropAgreement, h]
  rfl

/-- R156: the part once it has declined a capability for the reason `r`, the agreement NONE. -/
def declinedState (r : DeclineReason) (c : Capability) (s : State) : State :=
  { s with
    cutter := { s.cutter with lastDecline := some r, agreement := none }
    out := { s.out with cutter := s.out.cutter ++ [s.declineRecord r c] } }

theorem evaluate_declined_none {s : State} {ready : Bool} {c : Capability} {r : DeclineReason} (h : s.declineReason ready c = some r)
    (ha : s.cutter.agreement = none) : evaluate ready c s = declinedState r c s := by
  have hdrop := dropAgreement_none
    (s := sendRecord (s.declineRecord r c) (s.modCutter fun u => { u with lastDecline := some r })) ha
  simp only [evaluate, h]
  rw [decline_eq, hdrop, declinedState, ← ha]
  rfl

theorem evaluate_declined_some {s : State} {ready : Bool} {c : Capability} {r : DeclineReason} {a : Agreement}
    (h : s.declineReason ready c = some r) (ha : s.cutter.agreement = some a) : evaluate ready c s =
      { declinedState r c s with port := { s.port with events := s.port.events ||| Event.agreementChanged.single } } := by
  have hdrop := dropAgreement_some
    (s := sendRecord (s.declineRecord r c) (s.modCutter fun u => { u with lastDecline := some r })) ha
  simp only [evaluate, h]
  rw [decline_eq, hdrop]
  rfl

/-- R155: the part once the agreement stands, before the fit checks of the orders. -/
def agreedState (a : Agreement) (s : State) : State :=
  { s with
    cutter := { s.cutter with agreement := some a, lastDecline := none }
    port := { s.port with events := s.port.events ||| Event.agreementChanged.single }
    out := { s.out with cutter := s.out.cutter ++ [.agree a.speed a.cMin a.lead a.cap.across a.cap.destinations] } }

theorem evaluate_agreed {s : State} {ready : Bool} {c : Capability} (h : s.declineReason ready c = none) :
    evaluate ready c s = testRoom (fitChecks (agreedState (s.terms c) s)) := by
  simp only [evaluate, h]
  rfl

theorem agreedState_latched (a : Agreement) (s : State) : (agreedState a s).latched .agreementChanged = true := by
  change (raise .agreementChanged _).latched _ = true
  simp

theorem isNone_fitCheck {s : State} {a : Agreement} (h : s.cutter.agreement = some a) (o : Order) :
    (s.fitCheck o).isNone = o.fits a s.planner.params s.pos.geometry.dgc := by
  by_cases hc : a.cMin ≤ o.length ∧ o.split ≤ a.cap.across
  · by_cases hl : o.length + s.planner.params.maxCull + a.lead + s.planner.params.guard ≤ s.pos.geometry.dgc
    · rw [fitCheck_fits h hc hl]
      simp [Order.fits, hc, hl]
    · rw [fitCheck_tooLong h hc hl]
      simp [Order.fits, hl]
  · rw [fitCheck_notCuttable h hc]
    simp only [Order.fits, ← and_assoc, hc, false_and, decide_false]
    rfl

/-! ### CAPABILITY and CUTTER READY -/

theorem seenMode_eq (late : Bool) (s : State) : seenMode late s = s.cutterMode late := by
  cases late <;> cases h : s.fault.before <;> simp [seenMode, State.cutterMode, h, State.mode]

theorem seenAgreed_some {late : Bool} {s : State} {a : Agreement} (h : s.cutter.agreement = some a) : s.seenAgreed late = true := by
  simp [State.seenAgreed, h]

theorem seenAgreed_none {late : Bool} {s : State} (h : s.cutter.agreement = none) : s.seenAgreed late = true ↔ s.lossUnheard late := by
  cases hb : s.fault.before <;> simp [State.seenAgreed, State.lossUnheard, h, hb]

theorem setUnseenLoss_heard (s : State) : setUnseenLoss false s = { s with fault := s.fault.heard } := rfl

/-- A capability that is evaluated, and whether a loss is reported after it. -/
theorem exec_capability {s : State} (c : Capability) (late : Bool) (hh : s.ctl.held = false) (hm : s.cutterMode late ≠ .halted) :
    exec (.capability c late) s = .next (
      if (s.declineReason s.cutter.ready c).isSome && s.seenAgreed late && (s.cutterMode late).cutting then
        report2 .agreementLost (evaluate s.cutter.ready c { s with fault := s.fault.heard }).here
          (evaluate s.cutter.ready c { s with fault := s.fault.heard })
      else evaluate s.cutter.ready c { s with fault := s.fault.heard }) := by
  refine congrArg Host.Outcome.next (show takeCapability c late s = _ from ?_)
  simp only [takeCapability, hh, seenMode_eq, if_neg hm, setUnseenLoss_heard, Bool.false_eq_true, if_false]

/-! ### The fit checks in PRODUCE where the ACTIVE order alone fails (R91, R93) -/

theorem makeActive_moved (o : Order) (s : State) : OrdersMoved s (makeActive o s) :=
  ((⟨⟨_, _, _, _, rfl, rfl⟩, fun _ h => h⟩ : OrdersMoved s
    ((modOrder o.id (fun q => { q with state := .active }) s).modOrders fun u => { u with exhausted := false })).trans
    (raise_moved _ _)).trans (testRoom_moved _)

theorem fitCheck_congr (s : State) {o q : Order} (hl : o.length = q.length) (hs : o.split = q.split) : s.fitCheck o = s.fitCheck q := by
  simp only [State.fitCheck, hl, hs]

theorem fitOrders_stay {s : State} {ids : List Nat}
    (h : ∀ o ∈ s.orders.queue, o.id ∈ ids → s.fitCheck o = none ∨ o.state = .ending) : ids.foldl fitOrder s = s := by
  induction ids with
  | nil => rfl
  | cons id ids ih =>
    have hsame : fitOrder s id = s := by
      cases hf : s.findOrder id with
      | none => simp only [fitOrder, hf]
      | some o =>
        have hid : o.id = id := by simpa using List.find?_some hf
        rw [← hid]
        exact fitOrder_stays (by rw [hid]; exact hf) (h o (List.mem_of_find?_eq_some hf) (by simp [hid]))
    rw [List.foldl_cons, hsame, ih fun o ho hid => h o ho (List.mem_cons_of_mem _ hid)]

section
variable {s : State} {pre post : List Order} {o : Order} (hq : s.orders.queue = pre ++ o :: post)
  (hn : (s.orders.queue.map Order.id).Nodup) (ho : o.state = .active) (hf : s.fitCheck o ≠ none) (hr : s.recordsOf o.id ≠ 0)
  (hothers : ∀ q ∈ pre ++ post, q.state ≠ .active ∧ (s.fitCheck q = none ∨ q.state = .ending))
include hq hn ho hf hr hothers

/-- The fit checks up to the ACTIVE order. -/
theorem fitChecks_prefix : ∃ u, OrdersMoved s u ∧ u.latched .orderWithdrawn = true ∧
    u.orders = { s.orders with queue := pre ++ { o with state := .ending } :: post } ∧
    fitChecks s = (post.map Order.id).foldl fitOrder (activateNext u) := by
  have hids : ((pre ++ o :: post).map Order.id).Nodup := hq ▸ hn
  have hne := distinct_keys (key := Order.id) hids
  have hpre : (pre.map Order.id).foldl fitOrder s = s := by
    refine fitOrders_stay fun q hmem hid => ?_
    obtain ⟨x, hx, hxid⟩ := List.mem_map.1 hid
    rw [hq, List.mem_append, List.mem_cons] at hmem
    rcases hmem with h | rfl | h
    · exact (hothers q (List.mem_append_left _ h)).2
    · exact absurd hxid (hne x (.inl hx))
    · exact (hothers q (List.mem_append_right _ h)).2
  have hfit : fitOrder s o.id = activateNext (endOrder o.id (raise .orderWithdrawn s)) := by
    have hfind := findOrder_split hq hn
    simp [fitOrder, hfind, ho, hf]
  obtain ⟨p, hp⟩ := endOrder_records (s := raise .orderWithdrawn s) (id := o.id) hr
  refine ⟨endOrder o.id (raise .orderWithdrawn s), (raise_moved _ s).trans (endOrder_moved ..),
    (endOrder_moved ..).latched _ (by simp), ?_, ?_⟩
  · have hqueue : (s.orders.queue.map fun q => if q.id = o.id then { q with state := .ending } else q) =
        pre ++ { o with state := .ending } :: post := by
      rw [hq]
      exact map_split _ hids
    rw [hp]
    exact congrArg (fun q => { s.orders with queue := q }) hqueue
  · rw [fitChecks, hq, List.map_append, List.map_cons, List.foldl_append, hpre, List.foldl_cons, hfit]

omit hq hn ho hf hr in
/-- Every order but the one that failed fits, or is ENDING, whatever its state has become. -/
theorem fitOrders_suffix {u : State} (hu : OrdersMoved s u) (hqueue : ∀ q ∈ u.orders.queue, ∃ x ∈ pre ++ { o with state := .ending } :: post,
    q.id = x.id ∧ q.length = x.length ∧ q.split = x.split ∧ (x.state = .ending → q.state = .ending)) :
    (post.map Order.id).foldl fitOrder u = u := by
  refine fitOrders_stay fun q hmem hid => ?_
  obtain ⟨x, hx, -, hl, hs, hend⟩ := hqueue q hmem
  rw [hu.fitCheck, fitCheck_congr s hl hs]
  rw [List.mem_append, List.mem_cons] at hx
  rcases hx with h | rfl | h
  · exact (hothers x (List.mem_append_left _ h)).2.imp_right hend
  · exact .inr (hend rfl)
  · exact (hothers x (List.mem_append_right _ h)).2.imp_right hend

theorem fitChecks_endsActive_idle (h : ∀ q ∈ pre ++ { o with state := .ending } :: post, q.state ≠ .queued) :
    OrdersMoved s (fitChecks s) ∧ (fitChecks s).latched .orderWithdrawn = true ∧
      (fitChecks s).orders = { s.orders with queue := pre ++ { o with state := .ending } :: post } := by
  obtain ⟨u, hu, hlatched, horders, hfold⟩ := fitChecks_prefix hq hn ho hf hr hothers
  have hidle : activateNext u = u := activateNext_idle (.inr (.inr (oldestQueued_none (by rw [horders]; exact h))))
  have hfit : fitChecks s = u := by
    rw [hfold, hidle]
    exact fitOrders_suffix hothers hu (by rw [horders]; exact fun q hq => ⟨q, hq, rfl, rfl, rfl, id⟩)
  rw [hfit]
  exact ⟨hu, hlatched, horders⟩

theorem fitChecks_endsActive_next {n : Order} (hm : s.port.mode = .produce)
    (h : (pre ++ { o with state := .ending } :: post).find? (fun q => q.state == .queued) = some n)
    (hquantity : n.quantity = 0 ∨ n.planned < n.quantity) :
    OrdersMoved s (fitChecks s) ∧ (fitChecks s).latched .orderWithdrawn = true ∧ (fitChecks s).latched .orderActivated = true ∧
      (fitChecks s).orders = { s.orders with
        queue := (pre ++ { o with state := .ending } :: post).map fun q => if q.id = n.id then { q with state := .active } else q,
        exhausted := false } := by
  obtain ⟨u, hu, hlatched, horders, hfold⟩ := fitChecks_prefix hq hn ho hf hr hothers
  have hstate : n.state = .queued := by simpa using List.find?_some h
  have hmem := List.mem_of_find?_eq_some h
  have hfits : s.fitCheck n = none := by
    rw [List.mem_append, List.mem_cons] at hmem
    rcases hmem with hmem | rfl | hmem
    · exact (hothers n (List.mem_append_left _ hmem)).2.resolve_right (by simp [hstate])
    · cases hstate
    · exact (hothers n (List.mem_append_right _ hmem)).2.resolve_right (by simp [hstate])
  have hmode : u.port.mode = .produce := by
    obtain ⟨⟨a, p, v, x, rfl, -⟩, -⟩ := hu
    exact hm
  have hactive : u.activeOrder = none := activeOrder_none fun q hmem => by
    rw [horders, List.mem_append, List.mem_cons] at hmem
    rcases hmem with hmem | rfl | hmem
    · exact (hothers q (List.mem_append_left _ hmem)).1
    · simp
    · exact (hothers q (List.mem_append_right _ hmem)).1
  have hnext : activateNext u = makeActive n u :=
    activateNext_fits hmode hactive (by rw [State.oldestQueued, horders]; exact h) (by rw [hu.fitCheck]; exact hfits) hquantity
  obtain ⟨p, hp⟩ := makeActive_eq n u
  have hmade : (makeActive n u).orders = { s.orders with
      queue := (pre ++ { o with state := .ending } :: post).map fun q => if q.id = n.id then { q with state := .active } else q,
      exhausted := false } := by
    rw [hp, horders]
  have hids : ((pre ++ { o with state := .ending } :: post).map Order.id).Nodup := by
    rw [hq] at hn
    simpa using hn
  have hfit : fitChecks s = makeActive n u := by
    rw [hfold, hnext]
    refine fitOrders_suffix (o := o) hothers (hu.trans (makeActive_moved n u)) fun q hmemq => ?_
    rw [hmade] at hmemq
    obtain ⟨x, hx, rfl⟩ := List.mem_map.1 hmemq
    refine ⟨x, hx, ?_⟩
    split
    · rename_i hid
      refine ⟨rfl, rfl, rfl, fun hend => ?_⟩
      rw [List.inj_on_of_nodup_map hids hx hmem hid, hstate] at hend
      cases hend
    · exact ⟨rfl, rfl, rfl, id⟩
  rw [hfit]
  refine ⟨hu.trans (makeActive_moved n u), (makeActive_moved n u).latched _ hlatched, ?_, hmade⟩
  rw [makeActive, testRoom_latched]
  simp

end

/-- Settles O49. -/
theorem agreementFormedAndLost : Obligations.AgreementFormedAndLost := by
  refine ⟨?_, ?_⟩
  · intro s c late hh v least lead inRange travel served reason answer declined dropped
    have hreason (r : DeclineReason) (hr : reason r) : s.declineReason s.cutter.ready c = some r := by
      rw [declineReason_eq s s.cutter.ready c (a := ⟨c, v, least, lead⟩) rfl]
      rcases hr with ⟨rfl, h1⟩ | ⟨rfl, h1, h2⟩ | ⟨rfl, h1, h2, h3⟩ | ⟨rfl, h1, h2, h3, h4⟩ | ⟨rfl, h1, h2, h3, h4, h5⟩
      · simp [h1]
      · have h2' : capabilityInRange c = false := Bool.not_eq_true _ ▸ fun h => h2 ((capabilityInRange_iff c).1 h)
        simp [h1, h2']
      · simp [h1, (capabilityInRange_iff c).2 h2, h3]
      · simp only [h1, (capabilityInRange_iff c).2 h2, if_neg (Nat.not_lt.2 h3), if_pos (Nat.not_le.1 h4), Bool.true_eq_false, if_false]
      · have h5' : s.grader.active.destBeyond c.destinations = true := by
          rw [← Bool.not_eq_false, destBeyond_false]
          exact h5
        simp only [h1, (capabilityInRange_iff c).2 h2, if_neg (Nat.not_lt.2 h3), if_neg (Nat.not_lt.2 h4), h5', Bool.true_eq_false, if_false,
          if_true]
    have hagree (h1 : s.cutter.ready = true) (h2 : inRange) (h3 : least ≤ s.planner.params.maxCull) (h4 : travel) (h5 : served) :
        s.declineReason s.cutter.ready c = none := by
      rw [declineReason_eq s s.cutter.ready c (a := ⟨c, v, least, lead⟩) rfl]
      simp only [h1, (capabilityInRange_iff c).2 h2, if_neg (Nat.not_lt.2 h3), if_neg (Nat.not_lt.2 h4),
        (destBeyond_false _ _).2 h5, Bool.true_eq_false, if_false, Bool.false_eq_true]
    have hdeclined (r : DeclineReason) : declinedState r c { s with fault := s.fault.heard } = declined r := by
      cases r <;> rfl
    have hexec (hm : s.cutterMode late ≠ .halted) (h1 : s.cutter.ready = true) (h2 : inRange) (h3 : least ≤ s.planner.params.maxCull)
        (h4 : travel) (h5 : served) : exec (.capability c late) s =
          .next (testRoom (fitChecks (agreedState ⟨c, v, least, lead⟩ { s with fault := s.fault.heard }))) := by
      have hnone := hagree h1 h2 h3 h4 h5
      rw [exec_capability c late hh hm, evaluate_agreed (s := { s with fault := s.fault.heard }) hnone, hnone]
      rfl
    refine ⟨fun hm => ?_, fun hm r hr => ⟨fun ha => ⟨fun hquiet => ?_, fun hcut hloss => ?_⟩, fun a ha => ⟨fun hcut => ?_, fun hcut => ?_⟩⟩,
      fun hm h1 h2 h3 h4 h5 hfit => ?_, fun hm h1 h2 h3 h4 h5 hlaw => ?_⟩
    · refine congrArg Host.Outcome.next (show takeCapability c late s = _ from ?_)
      simp [takeCapability, hh, seenMode_eq, hm, State.modCutter]
    · have hlost : (s.seenAgreed late && (s.cutterMode late).cutting) = false := by
        rcases hquiet with h | h
        · rw [h, Bool.and_false]
        · rw [Bool.eq_false_iff.2 (fun hs => h ((seenAgreed_none ha).1 hs)), Bool.false_and]
      rw [exec_capability c late hh hm, evaluate_declined_none (s := { s with fault := s.fault.heard }) (hreason r hr) ha, hdeclined,
        Bool.and_assoc, hlost, Bool.and_false]
      rfl
    · rw [exec_capability c late hh hm, evaluate_declined_none (s := { s with fault := s.fault.heard }) (hreason r hr) ha, hdeclined,
        hreason r hr, (seenAgreed_none ha).2 hloss, hcut]
      rfl
    · rw [exec_capability c late hh hm, evaluate_declined_some (s := { s with fault := s.fault.heard }) (hreason r hr) ha, hdeclined,
        hcut, Bool.and_false]
      rfl
    · rw [exec_capability c late hh hm, evaluate_declined_some (s := { s with fault := s.fault.heard }) (hreason r hr) ha, hdeclined,
        hreason r hr, seenAgreed_some ha, hcut]
      rfl
    · have hnone : fitChecks (agreedState ⟨c, v, least, lead⟩ { s with fault := s.fault.heard }) = _ := fitOrders_stay fun o ho _ =>
        .inl (fitCheck_fits (a := ⟨c, v, least, lead⟩) rfl ⟨(hfit o ho).1, (hfit o ho).2.1⟩ (hfit o ho).2.2)
      obtain ⟨p, hp, -⟩ := testRoom_spec (agreedState ⟨c, v, least, lead⟩ { s with fault := s.fault.heard })
      refine ⟨p, ?_⟩
      rw [hexec hm h1 h2 h3 h4 h5, hnone, hp]
      rfl
    · intro fits hasRecords agreed
      set u : State := agreedState ⟨c, v, least, lead⟩ { s with fault := s.fault.heard } with hu
      have hagreed {t : State} (h : OrdersMoved u (fitChecks u)) (ht : testRoom (fitChecks u) = t)
          (hw : (∃ o ∈ s.orders.queue, fits o = false ∧ o.state ≠ .ending) → (fitChecks u).latched .orderWithdrawn = true) : agreed t := by
        have hmoved := h.trans (testRoom_moved _)
        refine ⟨by rw [hexec hm h1 h2 h3 h4 h5, ht], ?_⟩
        rw [ht] at hmoved
        have hch := hmoved.latched _ (agreedState_latched ..)
        refine ⟨?_, ?_, hch, ?_, ?_, ?_, ?_, fun hex => ?_⟩
        any_goals
          obtain ⟨⟨a, p, v, x, he, -⟩, -⟩ := hmoved
          rw [he]
          rfl
        rw [← ht, testRoom_latched]
        exact hw hex
      have hfits (o : Order) : (u.fitCheck o).isNone = fits o := isNone_fitCheck (a := ⟨c, v, least, lead⟩) rfl o
      refine ⟨fun hp => ?_, fun hp pre post o n hq ho hfo hrec hothers => ?_⟩
      · obtain ⟨hmoved, horders, hw⟩ := fitChecks_fitted (s := u) hp hlaw.2 hfits
        refine ⟨_, hagreed hmoved rfl hw, ?_⟩
        rw [testRoom_orders, horders]
        rfl
      · intro ended
        have hfo' : u.fitCheck o ≠ none := fun h => by simp [← hfits, h] at hfo
        have hothers' : ∀ q ∈ pre ++ post, q.state ≠ .active ∧ (u.fitCheck q = none ∨ q.state = .ending) := fun q hq =>
          ⟨(hothers q hq).1, (hothers q hq).2.imp_left fun h => by simpa [← hfits] using h⟩
        have hrec' : u.recordsOf o.id ≠ 0 := fun h => (recordsOf_eq_zero u o.id).1 h hrec
        refine ⟨fun hn hquantity => ?_, fun hnone => ?_⟩
        · obtain ⟨hmoved, hw, hact, horders⟩ := fitChecks_endsActive_next (s := u) hq hlaw.2 ho hfo' hrec' hothers' hp hn hquantity
          refine ⟨_, hagreed hmoved rfl fun _ => hw, by rwa [testRoom_latched], ?_⟩
          rw [testRoom_orders, horders]
          rfl
        · obtain ⟨hmoved, hw, horders⟩ := fitChecks_endsActive_idle (s := u) hq hlaw.2 ho hfo' hrec' hothers' hnone
          refine ⟨_, hagreed hmoved rfl fun _ => hw, ?_⟩
          rw [testRoom_orders, horders]
          rfl
  · intro s late
    refine ⟨rfl, fun hh => ?_⟩
    intro absent lost
    have hexec : exec (.cutterReadyCleared late) s = .next (
        if s.seenAgreed late && (s.cutterMode late).cutting then
          report2 .cutterLost (dropAgreement { s with cutter := { s.cutter with ready := false, held := none }, fault := s.fault.heard }).here
            (dropAgreement { s with cutter := { s.cutter with ready := false, held := none }, fault := s.fault.heard })
        else dropAgreement { s with cutter := { s.cutter with ready := false, held := none }, fault := s.fault.heard }) := by
      refine congrArg Host.Outcome.next (show readyCleared late s = _ from ?_)
      simp only [readyCleared, hh, seenMode_eq, Bool.false_eq_true, if_false]
      rfl
    refine ⟨fun ha => ?_, fun a ha => ?_⟩
    · have hdrop : dropAgreement { s with cutter := { s.cutter with ready := false, held := none }, fault := s.fault.heard } = absent := by
        rw [dropAgreement_none (by exact ha)]
        simp only [absent, ← ha]
      rw [hdrop] at hexec
      refine ⟨fun hquiet => ?_, fun hcut hloss => ?_⟩
      · have hlost : (s.seenAgreed late && (s.cutterMode late).cutting) = false := by
          rcases hquiet with h | h
          · rw [h, Bool.and_false]
          · rw [Bool.eq_false_iff.2 (fun hs => h ((seenAgreed_none ha).1 hs)), Bool.false_and]
        rw [hexec, hlost]
        rfl
      · rw [hexec, (seenAgreed_none ha).2 hloss, hcut]
        rfl
    · have hdrop : dropAgreement { s with cutter := { s.cutter with ready := false, held := none }, fault := s.fault.heard } = lost :=
        dropAgreement_some (a := a) ha
      rw [hdrop] at hexec
      refine ⟨fun hcut => ?_, fun hcut => ?_⟩
      · rw [hexec, hcut, Bool.and_false]
        rfl
      · rw [hexec, seenAgreed_some ha, hcut]
        rfl

end Sys2Proof.Machine
end

section
/-!
SET LINE GEOMETRY and SET CUT PARAMETERS (O18).
-/

namespace Sys2Proof.Machine

/-! ### Ranges (Tables 1-2 and 6-2) -/

/-- Table 1-2. -/
def GeometryInRange (f : LineGeometryFields) : Prop :=
  (10000 ≤ f.ppm ∧ f.ppm ≤ 400000) ∧ (1 ≤ f.pitch ∧ f.pitch ≤ 64) ∧ (40000 ≤ f.dgc ∧ f.dgc ≤ 400000) ∧ f.xL ≤ 59000 ∧
    (f.xL + 1000 ≤ f.xR ∧ f.xR ≤ f.xL + 36000 ∧ f.xR ≤ 60000) ∧ (50 ≤ f.maxSpeed ∧ f.maxSpeed ≤ 1000) ∧
    (5 ≤ f.stallTime ∧ f.stallTime ≤ 100) ∧ f.breakAction ≤ 1

theorem breakActionOf_eq (n : Nat) : breakActionOf n = if n ≤ 1 then some (if n = 0 then .halt else .mark) else none := by
  match n with
  | 0 | 1 => rfl
  | n + 2 => simp [breakActionOf]

theorem lineGeometryOf_eq (f : LineGeometryFields) : (GeometryInRange f → lineGeometryOf f =
      some ⟨f.ppm, f.pitch, f.dgc, f.xL, f.xR, f.maxSpeed, f.stallTime, if f.breakAction = 0 then .halt else .mark⟩) ∧
    (¬ GeometryInRange f → lineGeometryOf f = none) := by
  have hrange : f.breakAction ≤ 1 → ((within 10000 400000 f.ppm && within 1 64 f.pitch && within 40000 400000 f.dgc &&
      within 0 59000 f.xL && within (f.xL + 1000) (f.xL + 36000) f.xR && within 0 60000 f.xR && within 50 1000 f.maxSpeed &&
        within 5 100 f.stallTime) = true ↔ GeometryInRange f) := fun hb => by
    simp only [Bool.and_eq_true, within_iff, GeometryInRange]
    omega
  by_cases hb : f.breakAction ≤ 1
  · simp only [lineGeometryOf, breakActionOf_eq, if_pos hb]
    exact ⟨fun h => if_pos ((hrange hb).2 h), fun h => if_neg fun hc => h ((hrange hb).1 hc)⟩
  · refine ⟨fun h => absurd h.2.2.2.2.2.2.2 hb, fun _ => ?_⟩
    simp only [lineGeometryOf, breakActionOf_eq, if_neg hb]

theorem cutParametersOk_iff (p : CutParameters) : cutParametersOk p = true ↔
    (500 ≤ p.minCull ∧ p.minCull ≤ 20000) ∧ (p.minCull ≤ p.maxCull ∧ p.maxCull ≤ 30000) ∧
      p.clearance ≤ 500 ∧ p.guard ≤ 20000 ∧ (500 ≤ p.overdue ∧ p.overdue ≤ 20000) := by
  simp only [cutParametersOk, Bool.and_eq_true, within_iff]
  omega

/-! ### Orders withdrawn by a new geometry (R92) -/

/-- Every split position lies in the net width. -/
def insideNet (g : LineGeometry) (o : Order) : Bool := o.positions.all fun x => decide (g.xL < x ∧ x < g.xR)

theorem splitChecks_eq (s : State) : splitChecks s =
    s.orders.queue.foldl (fun t o => if insideNet t.pos.geometry o then t else finishOrder o .withdrawn t) s := by
  simp only [splitChecks, insideNet, Bool.decide_and]
  rfl

theorem splitChecks_inside {s : State} (h : ∀ o ∈ s.orders.queue, insideNet s.pos.geometry o = true) : splitChecks s = s := by
  rw [splitChecks_eq]
  generalize hos : s.orders.queue = os at h
  clear hos
  induction os with
  | nil => rfl
  | cons o os ih =>
    rw [List.foldl_cons, if_pos (h o List.mem_cons_self)]
    exact ih fun q hq => h q (List.mem_cons_of_mem _ hq)

theorem splitChecks_moved (s : State) : OrdersMoved s (splitChecks s) := by
  rw [splitChecks_eq]
  generalize s.orders.queue = os
  induction os generalizing s with
  | nil => exact .refl s
  | cons o os ih =>
    rw [List.foldl_cons]
    refine OrdersMoved.trans ?_ (ih _)
    split
    · exact .refl s
    · exact finishOrder_moved ..

theorem splitChecks_planner (s : State) : (splitChecks s).planner = s.planner := by
  rw [splitChecks_eq]
  generalize s.orders.queue = os
  induction os generalizing s with
  | nil => rfl
  | cons o os ih =>
    rw [List.foldl_cons, ih]
    split <;> rfl

/-- R92: the orders that a geometry in force leaves, and the others WITHDRAWN. -/
theorem splitChecks_kept {s : State} (hn : (s.orders.queue.map Order.id).Nodup) : OrdersMoved s (splitChecks s) ∧
    (splitChecks s).orders = s.orders.kept s.report.shift.seq
      (fun o => if insideNet s.pos.geometry o then some o else none) (fun _ => .withdrawn) ∧
    ((∃ o ∈ s.orders.queue, insideNet s.pos.geometry o = false) → (splitChecks s).latched .orderWithdrawn = true) := by
  have hstep (t : State) (pre rest : List Order) (o : Order) (fin : List FinishedEntry) (ht : OrdersMoved s t)
      (ho : t.orders = { s.orders with queue := pre ++ o :: rest, finished := fin }) (hnt : ((pre ++ o :: rest).map Order.id).Nodup) :
      OneKept (fun t o => if insideNet t.pos.geometry o then t else finishOrder o .withdrawn t)
        (fun o => if insideNet s.pos.geometry o then some o else none) (fun _ => .withdrawn) .orderWithdrawn
        (fun o => insideNet s.pos.geometry o = false) s t pre rest o fin := by
    have hpos : t.pos = s.pos := by
      obtain ⟨⟨a, p, v, x, rfl, -⟩, -⟩ := ht
      rfl
    have hq : t.orders.queue = pre ++ o :: rest := by rw [ho]
    by_cases hin : insideNet s.pos.geometry o = true
    · refine ⟨?_, fun o' h => ?_, fun h => ?_, fun hQ => ?_⟩
      · simp only [hpos, hin, if_true]
        exact .refl t
      · simp only [hin, if_true, Option.some.injEq] at h
        subst h
        simp only [hpos, if_pos hin, ho]
      · simp [hin] at h
      · simp [hin] at hQ
    · refine ⟨?_, fun o' h => ?_, fun _ => ?_, fun _ => ?_⟩
      · simp only [hpos, hin]
        exact finishOrder_moved ..
      · simp [hin] at h
      · simp only [hpos, if_neg hin]
        rw [finishOrder_split _ hq (by rwa [hq]), ← ht.seq, ho]
        rfl
      · simp only [hpos, if_neg hin]
        change (raise .orderWithdrawn _).latched .orderWithdrawn = true
        simp
  have hid (o o' : Order) (h : (if insideNet s.pos.geometry o then some o else none) = some o') : o'.id = o.id := by
    split at h
    · cases h; rfl
    · cases h
  obtain ⟨h1, h2, h3⟩ := fold_kept hid hstep s.orders.queue [] s.orders.finished s (.refl s) rfl hn
  rw [← splitChecks_eq] at h1 h2 h3
  exact ⟨h1, h2, h3⟩

/-! ### The capability in force, evaluated again (R157) -/

theorem reassess_frame (s : State) : ∃ u p x a d e o, reassess s = { s with
    orders := u, planner := { s.planner with planning := p }, report := { s.report with shift := x },
    cutter := { s.cutter with agreement := a, lastDecline := d }, port := { s.port with events := e },
    out := { s.out with cutter := o } } := by
  unfold reassess
  split
  · exact ⟨_, _, _, _, _, _, _, rfl⟩
  · exact evaluate_frame ..

theorem reassess_none {s : State} (h : s.cutter.agreement = none) : reassess s = s := by simp only [reassess, h]

theorem reassess_latched (s : State) (e : Event) (h : s.latched e = true) : (reassess s).latched e = true := by
  unfold reassess
  split
  · exact h
  · exact evaluate_latched _ _ s e h

section
variable {s : State} {a b : Agreement} (ha : s.cutter.agreement = some a) (hr : capabilityInRange a.cap = true)
  (hb : b = termsOf s.planner.params s.pos.geometry.maxSpeed a.cap)
include ha

theorem reassess_declined {r : DeclineReason} (h : s.declineReason true a.cap = some r) : reassess s =
    { declinedState r a.cap s with port := { s.port with events := s.port.events ||| Event.agreementChanged.single } } := by
  simp only [reassess, ha]
  exact evaluate_declined_some h ha

include hr hb

theorem reassess_minCull (h : s.planner.params.maxCull < b.cMin) : reassess s =
    { declinedState .minCull a.cap s with port := { s.port with events := s.port.events ||| Event.agreementChanged.single } } := by
  refine reassess_declined ha ?_
  rw [declineReason_eq s true a.cap hb, if_neg (by simp), if_neg (by simp [hr]), if_pos h]

theorem reassess_travel (h : b.cMin ≤ s.planner.params.maxCull) (ht : s.pos.geometry.dgc < b.cMin + b.lead + s.planner.params.guard) :
    reassess s =
      { declinedState .travel a.cap s with port := { s.port with events := s.port.events ||| Event.agreementChanged.single } } := by
  refine reassess_declined ha ?_
  rw [declineReason_eq s true a.cap hb, if_neg (by simp), if_neg (by simp [hr]), if_neg (Nat.not_lt.2 h), if_pos ht]

theorem reassess_destinations (h : b.cMin ≤ s.planner.params.maxCull)
    (ht : b.cMin + b.lead + s.planner.params.guard ≤ s.pos.geometry.dgc) (hd : s.grader.active.destBeyond a.cap.destinations = true) :
    reassess s =
      { declinedState .destinations a.cap s with port := { s.port with events := s.port.events ||| Event.agreementChanged.single } } := by
  refine reassess_declined ha ?_
  rw [declineReason_eq s true a.cap hb, if_neg (by simp), if_neg (by simp [hr]), if_neg (Nat.not_lt.2 h), if_neg (Nat.not_lt.2 ht),
    if_pos hd]

theorem reassess_agreed (h : b.cMin ≤ s.planner.params.maxCull) (ht : b.cMin + b.lead + s.planner.params.guard ≤ s.pos.geometry.dgc)
    (hd : s.grader.active.destBeyond a.cap.destinations = false) : reassess s = testRoom (fitChecks (agreedState b s)) := by
  have hnone : s.declineReason true a.cap = none := by
    rw [declineReason_eq s true a.cap hb, if_neg (by simp), if_neg (by simp [hr]), if_neg (Nat.not_lt.2 h), if_neg (Nat.not_lt.2 ht),
      if_neg (by simp [hd])]
  simp only [reassess, ha]
  rw [evaluate_agreed hnone, terms_eq, ← hb]

/-- R91: a new agreement outside PRODUCE. -/
theorem reassess_fitted (h : b.cMin ≤ s.planner.params.maxCull) (ht : b.cMin + b.lead + s.planner.params.guard ≤ s.pos.geometry.dgc)
    (hd : s.grader.active.destBeyond a.cap.destinations = false) (hm : s.port.mode ≠ .produce) (hn : (s.orders.queue.map Order.id).Nodup) :
    OrdersMoved (agreedState b s) (reassess s) ∧
      (reassess s).orders = s.fitted (fun o => o.fits b s.planner.params s.pos.geometry.dgc) ∧
      ((∃ o ∈ s.orders.queue, o.fits b s.planner.params s.pos.geometry.dgc = false ∧ o.state ≠ .ending) →
        (reassess s).latched .orderWithdrawn = true) := by
  obtain ⟨hmoved, horders, hw⟩ := fitChecks_fitted (s := agreedState b s)
    (fits := fun o => o.fits b s.planner.params s.pos.geometry.dgc) hm hn fun o => isNone_fitCheck (a := b) rfl o
  rw [reassess_agreed ha hr hb h ht hd]
  refine ⟨hmoved.trans (testRoom_moved _), ?_, fun hex => ?_⟩
  · rw [testRoom_orders, horders]
    rfl
  · rw [testRoom_latched]
    exact hw hex

end

/-- Settles O18. -/
theorem settingsWrittenInIdle : Obligations.SettingsWrittenInIdle := by
  refine ⟨?_, ?_⟩
  · intro s tag f hl hm inRange written
    have htaken : takenIn .setLineGeometry s.mode = true := by simp [takenIn, State.mode, hm]
    refine ⟨fun hr => exec_refused hl rfl htaken ?_, fun hr => ?_⟩
    · rw [setLineGeometryBody, (lineGeometryOf_eq f).2 hr]
    set w : State := { s with pos := written } with hw
    have hexec : exec (.setLineGeometry tag (.fields f)) s = .next ((reassess (splitChecks w)).answered .setLineGeometry tag .ok .empty) := by
      rw [exec_taken hl (c := .setLineGeometry tag (.fields f)) rfl htaken, setLineGeometryBody, (lineGeometryOf_eq f).1 hr]
      exact congrArg Host.Outcome.next (answer_ok ..)
    refine ⟨⟨_, hexec, ?_⟩, fun ha hin => ?_, fun hlaw => ?_⟩
    · obtain ⟨⟨u, p, v, h, hs, -⟩, -⟩ := splitChecks_moved w
      obtain ⟨u', p', x, a, d, e, o, he⟩ := reassess_frame (splitChecks w)
      rw [he, hs]
      exact ⟨rfl, rfl, rfl, rfl, rfl, rfl, hm, rfl⟩
    · have hsame : splitChecks w = w := splitChecks_inside fun o ho => by simpa [insideNet] using hin o ho
      rw [hexec, hsame, reassess_none (s := w) ha]
    · intro inside split
      obtain ⟨hmoved, horders, hevent⟩ := splitChecks_kept (s := w) hlaw.2
      have hsplit : (splitChecks w).orders = split := horders
      refine ⟨_, hexec, fun hex => ?_, fun ha => ?_, fun a ha hrange => ?_⟩
      · exact reassess_latched _ _ (hevent hex)
      · have hnone : (splitChecks w).cutter.agreement = none := by
          obtain ⟨⟨u, p, v, h, he, -⟩, -⟩ := hmoved
          rw [he]
          exact ha
        rw [reassess_none hnone]
        refine ⟨hsplit, ?_, splitChecks_planner w, ?_⟩
        all_goals
          obtain ⟨⟨u, p, v, h, he, -⟩, -⟩ := hmoved
          rw [he]
          rfl
      · intro v c lead declined
        have hseq := hmoved.seq
        have htable := congrArg Planner.table (splitChecks_planner w)
        obtain ⟨⟨u, p, e, h, he, -⟩, -⟩ := hmoved
        set w' : State := splitChecks w with hw'
        have ha' : w'.cutter.agreement = some a := by
          rw [he]
          exact ha
        have hterms : (⟨a.cap, v, c, lead⟩ : Agreement) = termsOf w'.planner.params w'.pos.geometry.maxSpeed a.cap := by
          rw [he]
          rfl
        have hparams : w'.planner.params = s.planner.params := by rw [he]
        have hpos : w'.pos = written := by rw [he]
        have hgrader : w'.grader = s.grader := by rw [he]
        have hmode : w'.port.mode ≠ .produce := by
          rw [he]
          simp [w, hm]
        have hdeclined (r : DeclineReason) (hrec : w'.declineRecord r a.cap = .decline r v c lead) (hd : reassess w' =
            { declinedState r a.cap w' with port := { w'.port with events := w'.port.events ||| Event.agreementChanged.single } }) :
            declined r := by
          refine ⟨?_, ?_, ?_, ?_⟩
          · rw [hd, he]
            rfl
          · rw [hd]
            change w'.out.cutter ++ [w'.declineRecord r a.cap] = _
            rw [hrec, he]
          · rw [hd]
            exact hsplit
          · rw [hd]
            exact latched_raised .agreementChanged (declinedState r a.cap w')
        have hrec (r : DeclineReason) (h : r = .minCull ∨ r = .travel ∨ r = .destinations) :
            w'.declineRecord r a.cap = .decline r v c lead := by
          rcases h with rfl | rfl | rfl <;> simp only [State.declineRecord, terms_eq, ← hterms]
        have hdgc : w'.pos.geometry.dgc = f.dgc := by rw [hpos]
        have hmax : w'.planner.params.maxCull = s.planner.params.maxCull := by rw [hparams]
        have hguard : w'.planner.params.guard = s.planner.params.guard := by rw [hparams]
        have hids : (w'.orders.queue.map Order.id).Nodup := by
          have hsub : (split.queue.map Order.id).Sublist (s.orders.queue.map Order.id) := by
            have hfilter : split.queue = s.orders.queue.filter inside :=
              congrFun List.filterMap_eq_filter s.orders.queue
            rw [hfilter]
            exact List.filter_sublist.map _
          rw [hsplit]
          exact hlaw.2.sublist hsub
        refine ⟨fun hc => hdeclined _ (hrec _ (.inl rfl)) (reassess_minCull ha' hrange hterms (by rwa [hmax])),
          fun hc ht => hdeclined _ (hrec _ (.inr (.inl rfl))) (reassess_travel ha' hrange hterms (by rwa [hmax]) (by rwa [hdgc, hguard])),
          fun hc ht => ⟨fun hd => hdeclined _ (hrec _ (.inr (.inr rfl)))
            (reassess_destinations ha' hrange hterms (by rwa [hmax]) (by rwa [hdgc, hguard]) (by rwa [hgrader])), fun hd => ?_⟩⟩
        obtain ⟨hmoved', horders', -⟩ := reassess_fitted ha' hrange hterms (by rwa [hmax]) (by rwa [hdgc, hguard]) (by rwa [hgrader])
          hmode hids
        have hlatched := hmoved'.latched _ (agreedState_latched ..)
        obtain ⟨⟨u', p', e', h', he', -⟩, -⟩ := hmoved'
        refine ⟨?_, ?_, horders'.trans ?_, hlatched⟩
        · rw [he', he]
          rfl
        · rw [he', he]
          rfl
        · simp only [State.fitted, hparams, hdgc, hseq, htable]
          rw [show w'.orders = split from hsplit]
  · intro s tag p hl hm inRange
    have htaken : takenIn .setCutParameters s.mode = true := by simp [takenIn, State.mode, hm]
    refine ⟨fun hr => exec_refused hl rfl htaken (if_neg fun h => hr ((cutParametersOk_iff p).1 h)), fun hr ha => ?_, fun hr a ha => ?_⟩
    all_goals
      set w : State := { s with planner := { s.planner with params := p, configured := true } } with hw
      have hexec : exec (.setCutParameters tag (.fields p)) s = .next ((reassess w).answered .setCutParameters tag .ok .empty) := by
        rw [exec_taken hl (c := .setCutParameters tag (.fields p)) rfl htaken, setCutParametersBody, if_pos ((cutParametersOk_iff p).2 hr)]
        exact congrArg Host.Outcome.next (answer_ok ..)
    · rw [hexec, reassess_none (s := w) ha]
    · intro v c lead hrange
      have hterms : (⟨a.cap, v, c, lead⟩ : Agreement) = termsOf w.planner.params w.pos.geometry.maxSpeed a.cap := rfl
      refine ⟨fun hc => ?_, fun hc ht hd hoff hnone => ?_, fun hlaw hc ht hd => ?_⟩
      · rw [hexec, reassess_minCull (s := w) ha hrange hterms hc]
        rfl
      · have hfit : fitChecks (agreedState ⟨a.cap, v, c, lead⟩ w) = agreedState ⟨a.cap, v, c, lead⟩ w :=
          fitOrders_stay fun o ho _ => by
            have hmem : o ∈ s.orders.queue := ho
            rw [hnone] at hmem
            cases hmem
        have hroom : testRoom (agreedState ⟨a.cap, v, c, lead⟩ w) = agreedState ⟨a.cap, v, c, lead⟩ w := by
          have htest : w.planner.planning.testing = false := by
            rw [show w.planner.planning = .off from hoff]
            rfl
          exact if_neg (by simpa [agreedState] using htest)
        rw [hexec, reassess_agreed (s := w) ha hrange hterms hc ht hd, hfit, hroom]
        rfl
      · obtain ⟨hmoved, horders, hev⟩ := reassess_fitted (s := w) ha hrange hterms hc ht hd (by simp [w, hm]) hlaw.2
        obtain ⟨⟨u, q, e, h, he, -⟩, -⟩ := hmoved
        refine ⟨_, hexec, ?_, ?_, ?_, horders, hev, ?_⟩
        all_goals
          rw [he]
          rfl

end Sys2Proof.Machine
end

section
/-!
What the work of a digest or of a trigger leaves alone: the position, the triggers and the control state in every case, and while the line goes
on inspecting the mode, the switch, the delayed requests and the lanes and tables that the work does not name.
-/

namespace Sys2Proof.Machine

/-! ### The relation -/

/-- What stays in every case: the position but for the two marks that a line reset clears, the triggers sent, the control state; and the mode
and the whole position while the line goes on inspecting. -/
structure Stays (s t : State) : Prop where
  pos : ∃ o b, t.pos = { s.pos with overspeed := o, breakMarking := b }
  triggers : t.out.triggers = s.out.triggers
  ctl : t.ctl = s.ctl
  mode : t.port.mode.scanning = true → t.port.mode = s.port.mode
  livePos : t.port.mode.scanning = true → t.pos = s.pos

/-- What stays besides while the line goes on inspecting: the switch, the delayed requests, the lanes outside `L` and the tables outside `T`. -/
structure Undisturbed (L T : LaneId → Prop) (s t : State) : Prop where
  apply : t.tracker.apply = s.tracker.apply
  active : t.tracker.active = s.tracker.active
  outgoing : t.tracker.outgoing = s.tracker.outgoing
  delayed : t.port.delayed = s.port.delayed
  replies : t.out.replies = s.out.replies
  frontier : s.tracker.frontier ≤ t.tracker.frontier
  lanes : ∀ i : LaneId, ¬ L i → t.lanes[i.val] = s.lanes[i.val]
  tables : ∀ i : LaneId, ¬ T i → t.tracker.tables[i.val] = s.tracker.tables[i.val]

structure Works (L T : LaneId → Prop) (s t : State) : Prop extends Stays s t where
  live : t.port.mode.scanning = true → Undisturbed L T s t

/-- No lane. -/
def noLane : LaneId → Prop := fun _ => False

theorem Stays.refl (s : State) : Stays s s := ⟨⟨_, _, rfl⟩, rfl, rfl, fun _ => rfl, fun _ => rfl⟩

theorem Stays.trans {s t u : State} (h : Stays s t) (g : Stays t u) : Stays s u where
  pos := by
    obtain ⟨o, b, h⟩ := h.pos
    obtain ⟨o', b', g⟩ := g.pos
    exact ⟨o', b', by rw [g, h]⟩
  triggers := g.triggers.trans h.triggers
  ctl := g.ctl.trans h.ctl
  mode hu := (g.mode hu).trans (h.mode (g.mode hu ▸ hu))
  livePos hu := (g.livePos hu).trans (h.livePos (g.mode hu ▸ hu))

section
variable {L T : LaneId → Prop} {s t u : State}

theorem Undisturbed.refl (L T : LaneId → Prop) (s : State) : Undisturbed L T s s :=
  ⟨rfl, rfl, rfl, rfl, rfl, le_rfl, fun _ _ => rfl, fun _ _ => rfl⟩

theorem Undisturbed.trans (h : Undisturbed L T s t) (g : Undisturbed L T t u) : Undisturbed L T s u :=
  ⟨g.apply.trans h.apply, g.active.trans h.active, g.outgoing.trans h.outgoing, g.delayed.trans h.delayed, g.replies.trans h.replies,
    h.frontier.trans g.frontier, fun i hi => (g.lanes i hi).trans (h.lanes i hi), fun i hi => (g.tables i hi).trans (h.tables i hi)⟩

theorem Undisturbed.mono {L' T' : LaneId → Prop} (h : Undisturbed L T s t) (hL : ∀ i, L i → L' i) (hT : ∀ i, T i → T' i) :
    Undisturbed L' T' s t :=
  { h with lanes := fun i hi => h.lanes i fun hl => hi (hL i hl), tables := fun i hi => h.tables i fun ht => hi (hT i ht) }

theorem Works.refl (L T : LaneId → Prop) (s : State) : Works L T s s := { Stays.refl s with live := fun _ => .refl L T s }

theorem Works.trans (h : Works L T s t) (g : Works L T t u) : Works L T s u :=
  { h.toStays.trans g.toStays with live := fun hu => (h.live (g.mode hu ▸ hu)).trans (g.live hu) }

theorem Works.mono {L' T' : LaneId → Prop} (h : Works L T s t) (hL : ∀ i, L i → L' i) (hT : ∀ i, T i → T' i) : Works L' T' s t :=
  { h.toStays with live := fun ht => (h.live ht).mono hL hT }

/-- What changes no lane and no table, for any names. -/
theorem Works.wider (h : Works noLane noLane s t) : Works L T s t := h.mono (fun _ h => h.elim) (fun _ h => h.elim)

theorem Works.widerTables (h : Works L noLane s t) : Works L T s t := h.mono (fun _ => id) (fun _ h => h.elim)

theorem Works.widerLanes (h : Works noLane T s t) : Works L T s t := h.mono (fun _ h => h.elim) (fun _ => id)

/-- One piece of work after another, over a list. -/
theorem works_foldl {α : Type} {f : State → α → State} (h : ∀ s x, Works L T s (f s x)) (xs : List α) (s : State) :
    Works L T s (xs.foldl f s) := by
  induction xs generalizing s with
  | nil => exact .refl ..
  | cons x xs ih => exact (h s x).trans (ih _)

end

/-- What changes none of these blocks. -/
theorem works_same {L T : LaneId → Prop} {s t : State} (pos : t.pos = s.pos) (lanes : t.lanes = s.lanes) (tracker : t.tracker = s.tracker)
    (mode : t.port.mode = s.port.mode) (delayed : t.port.delayed = s.port.delayed) (ctl : t.ctl = s.ctl)
    (replies : t.out.replies = s.out.replies) (triggers : t.out.triggers = s.out.triggers) : Works L T s t where
  pos := ⟨_, _, pos⟩
  triggers := triggers
  ctl := ctl
  mode _ := mode
  livePos _ := pos
  live _ := ⟨by rw [tracker], by rw [tracker], by rw [tracker], delayed, replies, by rw [tracker], fun _ _ => by rw [lanes],
    fun _ _ => by rw [tracker]⟩

/-! ### Operations on one block -/

theorem raise_works (e : Event) (s : State) : Works noLane noLane s (raise e s) := works_same rfl rfl rfl rfl rfl rfl rfl rfl

theorem modMap_works (g : MapUnit → MapUnit) (s : State) : Works noLane noLane s (s.modMap g) := works_same rfl rfl rfl rfl rfl rfl rfl rfl

theorem tally_works (g : Shift → Shift) (s : State) : Works noLane noLane s (tally g s) := works_same rfl rfl rfl rfl rfl rfl rfl rfl

theorem testRoom_works (s : State) : Works noLane noLane s (testRoom s) := by
  obtain ⟨p, hp, -⟩ := testRoom_spec s
  rw [hp]
  exact works_same rfl rfl rfl rfl rfl rfl rfl rfl

theorem recomputeK_works (s : State) : Works noLane noLane s (recomputeK s) := by
  obtain ⟨k, p, hk, h⟩ := recomputeK_spec s
  rw [h]
  exact ⟨⟨⟨_, _, rfl⟩, rfl, rfl, fun _ => rfl, fun _ => rfl⟩, fun _ => ⟨rfl, rfl, rfl, rfl, rfl, hk, fun _ _ => rfl, fun _ _ => rfl⟩⟩

theorem report1_works (k : FaultKind) (it : ReportItems) (s : State) : Works noLane noLane s (report1 k it s) := by
  obtain ⟨f, v, h⟩ := report1_frame k it s
  rw [h]
  exact works_same rfl rfl rfl rfl rfl rfl rfl rfl

theorem modLane_works (i : LaneId) (g : Lane → Lane) (s : State) : Works (· = i) noLane s (s.modLane i g) :=
  ⟨⟨⟨_, _, rfl⟩, rfl, rfl, fun _ => rfl, fun _ => rfl⟩,
    fun _ => ⟨rfl, rfl, rfl, rfl, rfl, le_rfl, fun j hj => lane_modLane_other i j g s hj, fun _ _ => rfl⟩⟩

theorem modTable_works (i : LaneId) (g : FlawTable → FlawTable) (s : State) : Works noLane (· = i) s (s.modTable i g) :=
  ⟨⟨⟨_, _, rfl⟩, rfl, rfl, fun _ => rfl, fun _ => rfl⟩,
    fun _ => ⟨rfl, rfl, rfl, rfl, rfl, le_rfl, fun _ _ => rfl, fun j hj => table_modTable_other i j g s hj⟩⟩

/-! ### A class 2 report ends the inspection -/

theorem stays_of_idle {s t : State} (pos : ∃ o b, t.pos = { s.pos with overspeed := o, breakMarking := b })
    (triggers : t.out.triggers = s.out.triggers) (ctl : t.ctl = s.ctl) (h : t.port.mode.scanning = false) : Stays s t :=
  ⟨pos, triggers, ctl, fun hm => by simp [h] at hm, fun hm => by simp [h] at hm⟩

theorem lineReset_stays (s : State) : Stays s (lineReset s) := by
  have hmode : (lineReset s).port.mode.scanning = false := by
    rw [(lineReset_lineResetOf s).mode]
    rfl
  obtain ⟨v, e, f, b, d, o, he, -⟩ := lineCleared_frame s
  cases hheld : s.cutter.held with
  | none =>
    have hs := (lineReset_noneHeld hheld).trans he
    exact stays_of_idle ⟨false, false, by rw [hs]⟩ (by rw [hs]) (by rw [hs]) hmode
  | some c =>
    obtain ⟨u, p, x, a, k, e', o', heval⟩ := evaluate_frame s.cutter.ready c (lineCleared s).unheld
    have hs := (lineReset_held hheld).trans heval
    rw [he] at hs
    exact stays_of_idle ⟨false, false, by rw [hs]; rfl⟩ (by rw [hs]; rfl) (by rw [hs]; rfl) hmode

/-- What a class 2 report does, by the slot and the mode. -/
theorem report2_cases (k : FaultKind) (it : ReportItems) (s : State) :
    (∃ f, report2 k it s = (lineReset (raise .faultCaptured s)).modFault f) ∨
    (s.port.mode.scanning = true ∧ report2 k it s = captureHalt k it s) ∨
    (s.port.mode.scanning = false ∧ ∃ f v, report2 k it s = { s with fault := f, port := { s.port with events := v } }) := by
  by_cases hr : ∃ r, s.fault.slot = .haltHeld r
  · obtain ⟨r, hr⟩ := hr
    exact .inl ⟨_, report2_haltHeld k it s r hr⟩
  · have hr' : ∀ r, s.fault.slot ≠ .haltHeld r := fun r h => hr ⟨r, h⟩
    cases hm : s.port.mode.scanning with
    | true => exact .inr (.inl ⟨rfl, report2_scanning k it s hr' hm⟩)
    | false =>
      refine .inr (.inr ⟨rfl, ?_⟩)
      rw [report2_idle k it s hr' hm]
      unfold reportIdle
      split
      · exact ⟨_, _, rfl⟩
      · exact ⟨_, s.port.events, rfl⟩
      · exact ⟨_, s.port.events, rfl⟩

theorem report2_notScanning (k : FaultKind) (it : ReportItems) (s : State) : (report2 k it s).port.mode.scanning = false := by
  rcases report2_cases k it s with ⟨f, h⟩ | ⟨-, h⟩ | ⟨hm, f, v, h⟩
  · rw [h, State.modFault_port, (lineReset_lineResetOf _).mode]
    rfl
  · rw [h, (captureHalt_halted k it s).mode]
    rfl
  · rw [h]
    exact hm

theorem report2_stays (k : FaultKind) (it : ReportItems) (s : State) : Stays s (report2 k it s) := by
  have hmode := report2_notScanning k it s
  rcases report2_cases k it s with ⟨f, h⟩ | ⟨-, h⟩ | ⟨-, f, v, h⟩
  · have hreset := lineReset_stays (raise .faultCaptured s)
    exact stays_of_idle (by rw [h, State.modFault_pos]; exact hreset.pos) (by rw [h, State.modFault_out]; exact hreset.triggers)
      (by rw [h, State.modFault_ctl]; exact hreset.ctl) hmode
  · have hhalt := captureHalt_halted k it s
    rw [h] at hmode ⊢
    exact stays_of_idle ⟨_, _, hhalt.pos⟩ hhalt.triggers hhalt.ctl hmode
  · rw [h] at hmode ⊢
    exact stays_of_idle ⟨_, _, rfl⟩ rfl rfl hmode

theorem report2_works (k : FaultKind) (it : ReportItems) {L T : LaneId → Prop} (s : State) : Works L T s (report2 k it s) :=
  { report2_stays k it s with live := fun h => by simp [report2_notScanning] at h }

/-! ### The blind list, the map and the Tracker -/

section
variable {L T : LaneId → Prop}

theorem openInterval_works (r : BlindReason) (lane : Option LaneId) (a b y : Nat) (s : State) :
    Works L T s (openInterval r lane a b y s) := by
  unfold openInterval
  split
  · exact report2_works ..
  · exact works_same rfl rfl rfl rfl rfl rfl rfl rfl

theorem noteMapFullEnd_works (n : Nat) (s : State) : Works L T s (noteMapFullEnd n s) := by
  unfold noteMapFullEnd
  split
  · exact (modMap_works _ s).wider
  · exact .refl ..

theorem closeAll_works (label : Nat) (s : State) : Works L T s (closeAll label s) := by
  unfold closeAll
  split
  · exact .refl ..
  · exact works_same rfl rfl rfl rfl rfl rfl rfl rfl

theorem mapFullEnd_works (s : State) : Works L T s (mapFullEnd s) := by
  unfold mapFullEnd
  split
  · exact .refl ..
  split
  · dsimp only
    split
    · exact (modMap_works _ s).wider
    · exact (modMap_works _ s).wider.trans (closeAll_works ..)
  · exact .refl ..

theorem coverRefused_works (b : Nat) (s : State) : Works L T s (coverRefused b s) := by
  unfold coverRefused
  split
  · exact openInterval_works ..
  split
  · exact (modMap_works _ s).wider
  · exact .refl ..

theorem insertAlone_works (e : MapEntry) (s : State) : Works L T s (insertAlone e s) := by
  unfold insertAlone
  split
  · unfold noteHigh
    split
    · exact works_same rfl rfl rfl rfl rfl rfl rfl rfl
    · exact (modMap_works _ s).wider
  · exact (modMap_works _ s).wider.trans (coverRefused_works ..)

theorem mapInsert_works (set : DetectionSet) (i : LaneId) (e : MapEntry) (s : State) : Works L T s (mapInsert set i e s) := by
  unfold mapInsert
  split
  · exact insertAlone_works ..
  split
  · exact (modMap_works _ s).wider
  · exact insertAlone_works ..

end

theorem closeFlaw_works (set : DetectionSet) (i : LaneId) (cause : CloseCause) (s : State) (f : OpenFlaw) :
    Works noLane (· = i) s (closeFlaw set i cause s f) := by
  unfold closeFlaw
  split
  · exact .refl ..
  · exact ((modTable_works i _ s).trans (mapInsert_works ..)).trans (recomputeK_works _).wider

theorem closeWhere_works (set : DetectionSet) (i : LaneId) (cause : CloseCause) (p : OpenFlaw → Bool) (s : State) :
    Works noLane (· = i) s (closeWhere set i cause p s) := works_foldl (closeFlaw_works set i cause) _ s

theorem dropMarks_works (i : LaneId) (p : Mark → Bool) (s : State) : Works noLane (· = i) s (dropMarks i p s) := by
  unfold dropMarks
  split
  · exact .refl ..
  · exact modTable_works ..

theorem truncateLane_works (i : LaneId) (s : State) : Works noLane (· = i) s (truncateLane i s) := by
  unfold truncateLane
  split
  · exact .refl ..
  · exact (closeWhere_works ..).trans (dropMarks_works ..)

theorem continueFlaw_works (set : DetectionSet) (i : LaneId) (s : State) (f : OpenFlaw) :
    Works noLane (· = i) s (continueFlaw set i s f) := by
  unfold continueFlaw
  split
  · exact .refl ..
  · exact (closeFlaw_works ..).trans (modTable_works ..)

theorem lengthCheck_works (set : DetectionSet) (i : LaneId) (s : State) : Works noLane (· = i) s (lengthCheck set i s) :=
  works_foldl (continueFlaw_works set i) _ s

/-! ### The lanes -/

theorem setLaneState_works (i : LaneId) (st : LaneState) (s : State) : Works (· = i) noLane s (setLaneState i st s) := by
  unfold setLaneState
  split
  · exact .refl ..
  · exact (modLane_works ..).trans (raise_works ..).wider

theorem enterState_works (i : LaneId) (st : LaneState) (s : State) : Works (· = i) noLane s (enterState i st s) := by
  have hstate : Works (· = i) noLane s (noteFaulted i st (setLaneState i st s)) := by
    refine (setLaneState_works i st s).trans ?_
    unfold noteFaulted
    split
    · exact (tally_works ..).wider
    · exact .refl ..
  unfold enterState
  split
  · exact hstate
  · exact hstate.trans (modLane_works ..)

theorem placeInterval_works (i : LaneId) (old : LaneState) (s : State) : Works (· = i) noLane s (placeInterval i old s) := by
  unfold placeInterval
  split
  · unfold openLaneInterval
    split
    · exact .refl ..
    · exact (modLane_works ..).trans (openInterval_works ..)
  · unfold renameLaneInterval
    split
    · exact .refl ..
    · exact works_same rfl rfl rfl rfl rfl rfl rfl rfl

theorem laneTo_works (i : LaneId) (st : LaneState) (s : State) : Works (· = i) (· = i) s (laneTo i st s) := by
  have hplaced := ((enterState_works i st s).trans (placeInterval_works i (s.lane i).state _)).widerTables (T := (· = i))
  rw [laneTo_eq]
  split
  · exact (hplaced.trans (truncateLane_works i _).widerLanes).trans (recomputeK_works _).wider
  · exact hplaced

theorem faultLane_works (k : FaultKind) (i : LaneId) (line : Nat) (s : State) : Works (· = i) (· = i) s (faultLane k i line s) :=
  (report1_works ..).wider.trans (laneTo_works ..)

theorem laneDeadline_works (t : Nat) (i : LaneId) (s : State) : Works (· = i) (· = i) s (laneDeadline t i s) := by
  unfold laneDeadline
  dsimp only
  split
  · exact faultLane_works ..
  · exact .refl ..

theorem laneSwitch_works (d : DetectionSet) (i : LaneId) (s : State) : Works (· = i) (· = i) s (laneSwitch d i s) := by
  unfold laneSwitch
  split
  · exact .refl ..
  dsimp only
  split
  · exact (modLane_works ..).widerTables.trans (laneTo_works ..)
  · exact (modLane_works ..).widerTables

/-! ### What follows a trigger -/

theorem forLanes_stays {f : LaneId → State → State} (h : ∀ i s, Stays s (f i s)) (s : State) : Stays s (forLanes f s) :=
  forLanes_keeps (fun t => Stays s t) f s (.refl s) fun i _ ht => ht.trans (h i _)

theorem answerDelayed_stays (k : Request) (r : Result) (b : ReplyBody) (s : State) : Stays s (answerDelayed k r b s) := by
  obtain ⟨d, o, h, -⟩ := answerDelayed_frame k r b s
  rw [h]
  exact ⟨⟨_, _, rfl⟩, rfl, rfl, fun _ => rfl, fun _ => rfl⟩

theorem digestDeadline_stays (s : State) : Stays s (digestDeadline s) := by
  unfold digestDeadline
  split
  · exact .refl s
  split
  · exact .refl s
  · exact forLanes_stays (fun i s => (laneDeadline_works _ i s).toStays) s

theorem modTracker_stays (g : Tracker → Tracker) (s : State) : Stays s (s.modTracker g) :=
  ⟨⟨_, _, rfl⟩, rfl, rfl, fun _ => rfl, fun _ => rfl⟩

theorem detectionSwitch_stays (s : State) : Stays s (detectionSwitch s) := by
  unfold detectionSwitch
  split
  · exact .refl s
  split
  · exact .refl s
  · exact ((modTracker_stays ..).trans (forLanes_stays (fun i s => (laneSwitch_works _ i s).toStays) _)).trans (answerDelayed_stays ..)

theorem switchComplete_stays (s : State) : Stays s (switchComplete s) := by
  unfold switchComplete
  split
  · exact .refl s
  · exact modTracker_stays ..

theorem followTrigger_stays (s : State) : Stays s (followTrigger s) :=
  ((detectionSwitch_stays s).trans (digestDeadline_stays _)).trans (switchComplete_stays _)

theorem takeTriggerWork_stays (s : State) : Stays s (takeTriggerWork s) :=
  (followTrigger_stays s).trans (mapFullEnd_works (L := noLane) (T := noLane) _).toStays

end Sys2Proof.Machine
end

section
/-!
Encoder changes: the arithmetic of a pulse, the Y increment, and what a phase error and a full reverse debt report.
-/

namespace Sys2Proof.Machine

/-! ### The classification of a change -/

section
variable {p q a b : Bool}

theorem classifyMove_forward (h : a = !q ∧ b = p) : classifyMove (p, q) (a, b) = .forward := by
  obtain ⟨rfl, rfl⟩ := h
  revert b q
  decide

theorem classifyMove_reverse (h : a = q ∧ b = !p) : classifyMove (p, q) (a, b) = .reverse := by
  obtain ⟨rfl, rfl⟩ := h
  revert p a
  decide

theorem classifyMove_same (h : a = p ∧ b = q) : classifyMove (p, q) (a, b) = .same := by
  obtain ⟨rfl, rfl⟩ := h
  exact if_pos rfl

theorem classifyMove_error (h : a ≠ p ∧ b ≠ q) : classifyMove (p, q) (a, b) = .error := by
  revert p q a b
  decide

end

theorem exec_encoder {s : State} (a b late : Bool) (hl : s.ctl.held = false) (hc : s.pos.configured = true) :
    exec (.encoderStateChange a b late) s =
      .next (followTrigger (takeMove (classifyMove (s.pos.phaseA, s.pos.phaseB) (a, b)) late (setPhase a b (takeTriggerWork s)))) := by
  change Host.Outcome.next (encoderChange a b late s) = _
  simp only [encoderChange, hl, hc, Bool.not_true, Bool.or_false, Bool.false_eq_true, if_false]

/-! ### A forward pulse (R2) -/

theorem forwardPulse_debt {s : State} (h : 0 < s.pos.debt) : forwardPulse s = s.modPos fun p => { p with debt := p.debt - 1 } := if_pos h

section
variable {s : State} (hdebt : s.pos.debt = 0)
include hdebt

theorem forwardPulse_below (h : s.pos.rem + 10000 < s.pos.geometry.ppm) :
    forwardPulse s = s.modPos fun p => { p with rem := p.rem + 10000 } := by
  unfold forwardPulse
  rw [if_neg (by omega)]
  exact if_pos h

variable (hrem : s.pos.geometry.ppm ≤ s.pos.rem + 10000)
include hrem

theorem forwardPulse_last (h : 2 ^ 48 - 1 ≤ s.pos.y) : forwardPulse s = s.modPos fun p => { p with rem := 0 } := by
  unfold forwardPulse
  rw [if_neg (by omega), if_neg (show ¬ s.pos.rem + Config.pulseUnit < s.geo.ppm from Nat.not_lt.2 hrem)]
  exact if_pos h

theorem forwardPulse_increment (h : s.pos.y < 2 ^ 48 - 1) :
    forwardPulse s = yIncrement (s.modPos fun p => { p with rem := p.rem + 10000 - p.geometry.ppm }) := by
  unfold forwardPulse
  rw [if_neg (by omega), if_neg (show ¬ s.pos.rem + Config.pulseUnit < s.geo.ppm from Nat.not_lt.2 hrem)]
  exact if_neg (Nat.not_le.2 h)

end

/-! ### A Y increment (R2, R10, R12, R171) -/

/-- What a Y increment changes in every mode. -/
def incremented (s : State) : State :=
  { s with
    pos := { s.pos with y := s.pos.y + 1, windowCount := min 65535 (s.pos.windowCount + 1), stallRunning := true, ribbon := .moving },
    port := { s.port with events := if s.pos.ribbon = .stopped then s.port.events ||| Event.ribbonState.single else s.port.events },
    report := { s.report with shift := { s.report.shift with
      inspected := if s.port.mode.scanning then min (2 ^ 64 - 1) (s.report.shift.inspected + 1) else s.report.shift.inspected } } }

/-- The same, with the retirement test called for. -/
def retesting (s : State) : State := (incremented s).modMap fun m => { m with testDue := true }

theorem countInspected_ribbonMoves (s : State) :
    countInspected (ribbonMoves (s.modPos fun p => { p with y := p.y + 1, windowCount := satAdd Config.max16 p.windowCount 1 })) =
      incremented s := by
  unfold countInspected ribbonMoves incremented
  by_cases hr : s.pos.ribbon = .stopped
  · rw [if_pos (show (s.modPos fun p => { p with y := p.y + 1, windowCount := satAdd Config.max16 p.windowCount 1 }).pos.ribbon = .stopped
      from hr), if_pos hr]
    cases hm : s.port.mode.scanning with
    | true => exact if_pos hm
    | false => exact if_neg (Bool.eq_false_iff.1 hm)
  · rw [if_neg (show ¬ (s.modPos fun p => { p with y := p.y + 1, windowCount := satAdd Config.max16 p.windowCount 1 }).pos.ribbon = .stopped
      from hr), if_neg hr]
    cases hm : s.port.mode.scanning with
    | true => exact if_pos hm
    | false => exact if_neg (Bool.eq_false_iff.1 hm)

theorem yIncrement_idle {s : State} (h : s.port.mode = .idle) : yIncrement s = incremented s := by
  unfold yIncrement
  dsimp only
  rw [countInspected_ribbonMoves]
  exact if_neg (by simp [State.mode, incremented, h, Mode.triggers])

theorem yIncrement_running {s : State} (h : s.port.mode ≠ .idle) : yIncrement s =
    testRoom (if (s.pos.y + 1) % s.pos.geometry.pitch = 0 then trigger ((s.pos.y + 1) / s.pos.geometry.pitch) (retesting s)
      else retesting s) := by
  unfold yIncrement
  dsimp only
  rw [countInspected_ribbonMoves]
  refine if_pos ?_
  change s.port.mode.triggers = true
  revert h
  cases s.port.mode <;> simp [Mode.triggers]

/-- A trigger sets the last triggered line and sends its word; besides it may move K, the planning state and the mark of a full map. -/
theorem trigger_frame (n : Nat) (s : State) : ∃ k p m, trigger n s =
    { issueTrigger n s with tracker := { s.tracker with frontier := k }, planner := { s.planner with planning := p }, map := m } := by
  have hfrontier : ∃ k p, triggerFrontier (issueTrigger n s) =
      { issueTrigger n s with tracker := { s.tracker with frontier := k }, planner := { s.planner with planning := p } } := by
    unfold triggerFrontier
    split
    · exact ⟨_, _, rfl⟩
    · obtain ⟨k, p, -, h⟩ := recomputeK_spec (issueTrigger n s)
      exact ⟨k, p, h⟩
  obtain ⟨k, p, h⟩ := hfrontier
  rw [trigger_eq, h]
  split
  · exact ⟨k, p, s.map, rfl⟩
  · unfold noteMapFullEnd
    split
    · exact ⟨k, p, _, rfl⟩
    · exact ⟨k, p, s.map, rfl⟩

/-- A Y increment moves the position but for the last triggered line, which a trigger may move. -/
theorem yIncrement_pos (s : State) : ∃ l, (yIncrement s).pos = { (incremented s).pos with lastLine := l } := by
  by_cases hm : s.port.mode = .idle
  · rw [yIncrement_idle hm]
    exact ⟨_, rfl⟩
  rw [yIncrement_running hm]
  obtain ⟨p, hp, -⟩ := testRoom_spec (if (s.pos.y + 1) % s.pos.geometry.pitch = 0
    then trigger ((s.pos.y + 1) / s.pos.geometry.pitch) (retesting s) else retesting s)
  rw [hp]
  dsimp only
  split
  · obtain ⟨k, q, m, h⟩ := trigger_frame ((s.pos.y + 1) / s.pos.geometry.pitch) (retesting s)
    rw [h]
    exact ⟨_, rfl⟩
  · exact ⟨_, rfl⟩

/-! ### O12 -/

/-- What a pulse reads and writes of the position. -/
structure PulseOf (p : Position) (a b : Bool) (y rem debt : Nat) : Prop where
  phaseA : p.phaseA = a
  phaseB : p.phaseB = b
  y : p.y = y
  rem : p.rem = rem
  debt : p.debt = debt

theorem PulseOf.stays {s t : State} {a b : Bool} {y rem debt : Nat} (h : PulseOf s.pos a b y rem debt) (hs : Stays s t) :
    PulseOf t.pos a b y rem debt := by
  obtain ⟨o, m, hp⟩ := hs.pos
  exact ⟨by rw [hp]; exact h.phaseA, by rw [hp]; exact h.phaseB, by rw [hp]; exact h.y, by rw [hp]; exact h.rem, by rw [hp]; exact h.debt⟩

theorem yIncrement_pulse {s : State} {a b : Bool} {y rem debt : Nat} (h : PulseOf s.pos a b y rem debt) :
    PulseOf (yIncrement s).pos a b (y + 1) rem debt := by
  obtain ⟨l, hp⟩ := yIncrement_pos s
  rw [hp]
  exact ⟨h.phaseA, h.phaseB, congrArg (· + 1) h.y, h.rem, h.debt⟩

theorem forwardPulse_pulse {s : State} {a b : Bool} {y rem debt : Nat} (h : PulseOf s.pos a b y rem debt) :
    ∃ y' rem' debt', PulseOf (forwardPulse s).pos a b y' rem' debt' := by
  obtain ⟨rfl, rfl, rfl, rfl, rfl⟩ := h
  unfold forwardPulse
  split
  · exact ⟨_, _, _, rfl, rfl, rfl, rfl, rfl⟩
  split
  · exact ⟨_, _, _, rfl, rfl, rfl, rfl, rfl⟩
  split
  · exact ⟨_, _, _, rfl, rfl, rfl, rfl, rfl⟩
  · exact ⟨_, _, _, yIncrement_pulse ⟨rfl, rfl, rfl, rfl, rfl⟩⟩

theorem reversePulse_pulse {s : State} {a b late : Bool} {y rem debt : Nat} (h : PulseOf s.pos a b y rem debt) :
    PulseOf (reversePulse late s).pos a b y rem (if debt < 4096 then debt + 1 else debt) := by
  unfold reversePulse
  by_cases hd : s.pos.debt < Config.maxDebt
  · rw [if_pos hd, if_pos (show debt < 4096 from h.debt ▸ hd)]
    exact ⟨h.phaseA, h.phaseB, h.y, h.rem, congrArg (· + 1) h.debt⟩
  · rw [if_neg hd, if_neg (show ¬ debt < 4096 from h.debt ▸ hd)]
    split
    · exact h.stays (report2_stays ..)
    · exact h

theorem phaseError_pulse {s : State} {a b late : Bool} {y rem debt : Nat} (h : PulseOf s.pos a b y rem debt) :
    PulseOf (phaseError late s).pos a b y rem debt := by
  unfold phaseError
  split
  · exact h.stays (report2_stays ..)
  · exact h

theorem takeMove_pulse {s : State} {a b : Bool} {y rem debt : Nat} (m : PhaseMove) (late : Bool) (h : PulseOf s.pos a b y rem debt) :
    ∃ y' rem' debt', PulseOf (takeMove m late s).pos a b y' rem' debt' := by
  cases m with
  | same => exact ⟨_, _, _, h⟩
  | forward => exact forwardPulse_pulse h
  | reverse => exact ⟨_, _, _, reversePulse_pulse h⟩
  | error => exact ⟨_, _, _, phaseError_pulse h⟩

/-- Settles O12. -/
theorem encoderArithmetic : Obligations.EncoderArithmetic := by
  unfold Obligations.EncoderArithmetic
  intro s a b late hl hc
  obtain ⟨o, m, hpos⟩ := (takeTriggerWork_stays s).pos
  have hset : (setPhase a b (takeTriggerWork s)).pos = { s.pos with overspeed := o, breakMarking := m, phaseA := a, phaseB := b } := by
    change { (takeTriggerWork s).pos with phaseA := a, phaseB := b } = _
    rw [hpos]
  refine ⟨_, exec_encoder a b late hl hc, ?_⟩
  generalize setPhase a b (takeTriggerWork s) = u at hset
  have hu : PulseOf u.pos a b s.pos.y s.pos.rem s.pos.debt := by
    rw [hset]
    exact ⟨rfl, rfl, rfl, rfl, rfl⟩
  have hppm : u.pos.geometry.ppm = s.pos.geometry.ppm := by rw [hset]
  obtain ⟨y', rem', debt', hany⟩ := takeMove_pulse (classifyMove (s.pos.phaseA, s.pos.phaseB) (a, b)) late hu
  have hfollowed := hany.stays (followTrigger_stays _)
  have hmove : ∀ {mv y rem debt}, classifyMove (s.pos.phaseA, s.pos.phaseB) (a, b) = mv → PulseOf (takeMove mv late u).pos a b y rem debt →
      PulseOf (followTrigger (takeMove (classifyMove (s.pos.phaseA, s.pos.phaseB) (a, b)) late u)).pos a b y rem debt := by
    rintro mv y rem debt rfl h
    exact h.stays (followTrigger_stays _)
  refine ⟨hfollowed.phaseA, hfollowed.phaseB, fun hf hd => ?_, fun hf hd hr => ?_, fun hf hd hr hy => ?_, fun hf hd hr hy => ?_,
    fun hf => ?_, fun hf => ?_⟩
  · have h : PulseOf (forwardPulse u).pos a b s.pos.y s.pos.rem (s.pos.debt - 1) := by
      rw [forwardPulse_debt (hu.debt ▸ hd)]
      exact ⟨hu.phaseA, hu.phaseB, hu.y, hu.rem, congrArg (· - 1) hu.debt⟩
    have ht := hmove (classifyMove_forward hf) h
    exact ⟨ht.y, ht.rem, ht.debt⟩
  · have h : PulseOf (forwardPulse u).pos a b s.pos.y (s.pos.rem + 10000) 0 := by
      rw [forwardPulse_below (hu.debt.trans hd) (by rw [hu.rem, hppm]; exact hr)]
      exact ⟨hu.phaseA, hu.phaseB, hu.y, congrArg (· + 10000) hu.rem, hu.debt.trans hd⟩
    have ht := hmove (classifyMove_forward hf) h
    exact ⟨ht.y, ht.rem, ht.debt⟩
  · have h : PulseOf (forwardPulse u).pos a b (s.pos.y + 1) (s.pos.rem + 10000 - s.pos.geometry.ppm) 0 := by
      rw [forwardPulse_increment (hu.debt.trans hd) (by rw [hu.rem, hppm]; exact hr) (hu.y ▸ hy)]
      refine yIncrement_pulse ⟨hu.phaseA, hu.phaseB, hu.y, ?_, hu.debt.trans hd⟩
      change u.pos.rem + 10000 - u.pos.geometry.ppm = _
      rw [hu.rem, hppm]
    have ht := hmove (classifyMove_forward hf) h
    exact ⟨ht.y, ht.rem, ht.debt⟩
  · have h : PulseOf (forwardPulse u).pos a b s.pos.y 0 0 := by
      rw [forwardPulse_last (hu.debt.trans hd) (by rw [hu.rem, hppm]; exact hr) (hu.y ▸ hy)]
      exact ⟨hu.phaseA, hu.phaseB, hu.y, rfl, hu.debt.trans hd⟩
    have ht := hmove (classifyMove_forward hf) h
    exact ⟨ht.y, ht.rem, ht.debt⟩
  · have ht := hmove (classifyMove_reverse hf) (reversePulse_pulse hu)
    exact ⟨ht.y, ht.rem, ht.debt⟩
  · rcases hf with hf | hf
    · have ht := hmove (classifyMove_error hf) (phaseError_pulse hu)
      exact ⟨ht.y, ht.rem, ht.debt⟩
    · have ht := hmove (classifyMove_same hf) hu
      exact ⟨ht.y, ht.rem, ht.debt⟩

/-! ### O13 -/

theorem dueSwitch_notScanning {s : State} (h : s.port.mode.scanning = false) : s.dueSwitch = none := by
  unfold State.dueSwitch
  cases s.tracker.apply with
  | none => rfl
  | switched l => rfl
  | waiting d l => exact if_neg (by simp [State.mode, h])

theorem deadlineDue_notScanning {s : State} (h : s.port.mode.scanning = false) : s.deadlineDue = false := by
  simp [State.deadlineDue, State.mode, h]

theorem switchDue_congr {s t : State} (happly : t.tracker.apply = s.tracker.apply) (hline : t.pos.lastLine = s.pos.lastLine) :
    t.switchDue = s.switchDue := by
  unfold State.switchDue
  rw [happly, hline]

theorem switchDue_none {s : State} (h : s.tracker.apply = .none) : s.switchDue = false := by
  unfold State.switchDue
  rw [h]

/-- A class 2 report makes no switch due to complete. -/
theorem report2_switchDue (k : FaultKind) (it : ReportItems) {s : State} (h : s.switchDue = false) : (report2 k it s).switchDue = false := by
  rcases report2_cases k it s with ⟨f, hr⟩ | ⟨-, hr⟩ | ⟨-, f, v, hr⟩
  · refine switchDue_none ?_
    rw [hr, State.modFault_tracker]
    exact (lineReset_lineResetOf _).noSwitch
  · have hh := captureHalt_halted k it s
    rw [hr, switchDue_congr (s := s) (by rw [hh.tracker]; rfl) (by rw [hh.pos]; rfl)]
    exact h
  · rw [hr]
    exact h

/-- Nothing follows a class 2 report at an encoder change. -/
theorem followTrigger_report2 (k : FaultKind) (it : ReportItems) {s : State} (h : s.switchDue = false) :
    followTrigger (report2 k it s) = report2 k it s :=
  followTrigger_id (dueSwitch_notScanning (report2_notScanning ..)) (deadlineDue_notScanning (report2_notScanning ..)) (report2_switchDue k it h)

theorem seenMode_now (s : State) : seenMode false s = s.port.mode := seenMode_eq false s

theorem phaseError_now (s : State) :
    phaseError false s = if s.port.mode.scanning then report2 .encoderPhase s.here s else s := by rw [phaseError, seenMode_now]

theorem reversePulse_now {s : State} (h : s.pos.debt = 4096) :
    reversePulse false s = if s.port.mode.scanning then report2 .ribbonReversal s.here s else s := by
  rw [reversePulse, seenMode_now, if_neg (show ¬ s.pos.debt < Config.maxDebt by rw [h]; exact lt_irrefl _)]

/-- What a change reports in INSPECT, PRODUCE and DRAINING, and ignores in IDLE and HALTED. -/
theorem exec_encoder_reported {s : State} {a b : Bool} {k : FaultKind} (hl : s.ctl.held = false) (hc : s.pos.configured = true)
    (hnone : NoTriggerWork s)
    (hmove : takeMove (classifyMove (s.pos.phaseA, s.pos.phaseB) (a, b)) false (setPhase a b s) =
      if s.port.mode.scanning then report2 k s.here (setPhase a b s) else setPhase a b s) :
    (s.port.mode.scanning = true → exec (.encoderStateChange a b false) s = .next (report2 k s.here (setPhase a b s))) ∧
    (s.port.mode.scanning = false → exec (.encoderStateChange a b false) s = .next (setPhase a b s)) := by
  rw [exec_encoder a b false hl hc, hnone.take, hmove]
  refine ⟨fun hm => ?_, fun hm => ?_⟩
  · rw [if_pos hm, followTrigger_report2 k s.here (s := setPhase a b s) hnone.noCompletion]
  · rw [if_neg (Bool.eq_false_iff.1 hm)]
    exact congrArg Host.Outcome.next (followTrigger_id hnone.noSwitch hnone.noDeadline hnone.noCompletion)

/-- Settles O13. -/
theorem encoderFaults : Obligations.EncoderFaults := by
  refine fun s a b hl => ⟨fun hc late => ?_, fun hc hnone => ⟨fun hm => ?_, fun hm hd => ?_⟩⟩
  · exact congrArg Host.Outcome.next (show encoderChange a b late s = setPhase a b s from if_pos (by simp [hc]))
  · refine exec_encoder_reported hl hc hnone ?_
    rw [classifyMove_error hm]
    exact phaseError_now _
  · refine exec_encoder_reported hl hc hnone ?_
    rw [classifyMove_reverse hm]
    exact reversePulse_now hd

/-! ### O14 -/

theorem testRoom_eq (s : State) : testRoom s = { s with planner := { s.planner with planning :=
    if s.planner.planning = .ready ∨ s.planner.planning = .waiting then
      if s.planner.yPrev + s.planner.params.maxCull + s.plateLength ≤ s.tracker.frontier ∧ 127 ≤ s.planner.table.length then .waiting
      else .ready
    else s.planner.planning } } := by
  have htesting : s.planner.planning.testing = true ↔ s.planner.planning = .ready ∨ s.planner.planning = .waiting := by
    cases s.planner.planning <;> simp [PlanningState.testing]
  have hmet : (s.normalTrigger && decide (Config.tableCapacity ≤ s.planner.table.length + 1)) = true ↔
      s.planner.yPrev + s.planner.params.maxCull + s.plateLength ≤ s.tracker.frontier ∧ 127 ≤ s.planner.table.length :=
    Bool.and_eq_true_iff.trans (and_congr decide_eq_true_iff (decide_eq_true_iff.trans Nat.succ_le_succ_iff))
  unfold testRoom
  by_cases h : s.planner.planning.testing = true
  · rw [if_pos h, if_pos (htesting.1 h)]
    simp only [State.modPlanner, hmet]
  · rw [if_neg h, if_neg (fun hp => h (htesting.2 hp))]

/-- Settles O14. -/
theorem yIncrementBetweenLines : Obligations.YIncrementBetweenLines := by
  intro s a b late hl hc hnone ha hb hdebt hrem hy hline
  rw [exec_encoder a b late hl hc, classifyMove_forward ⟨ha, hb⟩, hnone.take]
  refine congrArg Host.Outcome.next ?_
  have hpulse := forwardPulse_increment (s := setPhase a b s) hdebt hrem hy
  change followTrigger (forwardPulse (setPhase a b s)) = _
  rw [hpulse]
  by_cases hm : s.port.mode = .idle
  · rw [yIncrement_idle (s := State.modPos _ (setPhase a b s)) hm, followTrigger_id (by exact hnone.noSwitch) (by exact hnone.noDeadline) (by exact hnone.noCompletion)]
    rw [show (s.port.mode != .idle) = false by rw [hm]; rfl, Bool.or_false, if_neg (fun h => h.1 hm)]
    rfl
  · rw [yIncrement_running (s := State.modPos _ (setPhase a b s)) hm]
    change followTrigger (testRoom (if (s.pos.y + 1) % s.pos.geometry.pitch = 0 then _ else _)) = _
    rw [if_neg (hline.resolve_left hm), testRoom_eq,
      followTrigger_id (by exact hnone.noSwitch) (by exact hnone.noDeadline) (by exact hnone.noCompletion)]
    simp only [bne_iff_ne.2 hm, Bool.or_true, ne_eq, hm, not_false_eq_true, true_and]
    rfl

end Sys2Proof.Machine
end

section
/-!
The sweeps of the lanes at a scan trigger: what one lane's turn does, the digest deadline (R26) and the detection switch (R41, R62).
-/

namespace Sys2Proof.Machine

/-! ### One lane's turn -/

theorem allLanes_split (i : LaneId) : ∃ before after, allLanes = before ++ i :: after ∧ i ∉ before ∧ i ∉ after := by
  obtain ⟨before, after, h⟩ := List.append_of_mem (mem_allLanes i)
  have hnodup : allLanes.Nodup := by decide
  rw [h, List.nodup_append] at hnodup
  obtain ⟨-, hafter, hdisjoint⟩ := hnodup
  exact ⟨before, after, h, fun hi => hdisjoint i hi i (by simp) rfl, (List.nodup_cons.1 hafter).1⟩

/-- The turns of other lanes leave a lane alone. -/
theorem turns_works {f : LaneId → State → State} (hf : ∀ i s, Works (· = i) (· = i) s (f i s)) {i : LaneId} :
    ∀ (xs : List LaneId) (s : State), i ∉ xs → Works (· ≠ i) (· ≠ i) s (xs.foldl (fun s j => f j s) s)
  | [], s, _ => .refl ..
  | j :: xs, s, h => by
    obtain ⟨hj, hxs⟩ := not_or.1 (fun hm => h (List.mem_cons.2 hm))
    exact ((hf j s).mono (fun k hk => hk ▸ Ne.symm hj) (fun k hk => hk ▸ Ne.symm hj)).trans (turns_works hf xs (f j s) hxs)

/-- A lane's turn in a sweep: the turns before it and those after it leave the lane alone. -/
theorem forLanes_turn {f : LaneId → State → State} (hf : ∀ i s, Works (· = i) (· = i) s (f i s)) (i : LaneId) (s : State) :
    ∃ u, Works (· ≠ i) (· ≠ i) s u ∧ Works (· ≠ i) (· ≠ i) (f i u) (forLanes f s) := by
  obtain ⟨before, after, h, hbefore, hafter⟩ := allLanes_split i
  refine ⟨before.foldl (fun s j => f j s) s, turns_works hf before s hbefore, ?_⟩
  rw [forLanes, h, List.foldl_append, List.foldl_cons]
  exact turns_works hf after _ hafter

/-- A sweep in which no lane but one does anything is that lane's turn. -/
theorem forLanes_one {f : LaneId → State → State} {i : LaneId} {s : State} (hbefore : ∀ j, j ≠ i → f j s = s)
    (hafter : ∀ j, j ≠ i → f j (f i s) = f i s) : forLanes f s = f i s := by
  have hid : ∀ (u : State), (∀ j, j ≠ i → f j u = u) → ∀ xs : List LaneId, i ∉ xs → xs.foldl (fun s j => f j s) u = u := by
    intro u hu xs
    induction xs with
    | nil => exact fun _ => rfl
    | cons j xs ih =>
      intro h
      obtain ⟨hj, hxs⟩ := not_or.1 (fun hm => h (List.mem_cons.2 hm))
      rw [List.foldl_cons, hu j (Ne.symm hj), ih hxs]
  obtain ⟨before, after, h, hb, ha⟩ := allLanes_split i
  rw [forLanes, h, List.foldl_append, List.foldl_cons, hid s hbefore before hb, hid _ hafter after ha]

theorem forLanes_works {f : LaneId → State → State} {L T : LaneId → Prop} (hf : ∀ i s, Works L T s (f i s)) (s : State) :
    Works L T s (forLanes f s) := works_foldl (fun s i => hf i s) allLanes s

/-- While the line goes on inspecting, what leaves a lane alone leaves it as it was. -/
theorem Works.lane {L T : LaneId → Prop} {s t : State} {i : LaneId} (h : Works L T s t) (ht : t.port.mode.scanning = true) (hi : ¬ L i) :
    t.lanes[i.val] = s.lanes[i.val] := (h.live ht).lanes i hi

theorem Stays.scanning {s t : State} (h : Stays s t) (ht : t.port.mode.scanning = true) : s.port.mode.scanning = true := h.mode ht ▸ ht

/-! ### A lane that changes its state -/

theorem setLaneState_lane (i : LaneId) (st : LaneState) (s : State) : (setLaneState i st s).lane i = { s.lane i with state := st } := by
  unfold setLaneState
  split
  · rename_i h
    rw [← h]
  · exact (lane_modLane_same i (fun l => { l with state := st }) s :)

theorem enterState_lane (i : LaneId) (st : LaneState) (s : State) : (enterState i st s).lane i =
    { s.lane i with state := st, persistence := if st.following then (s.lane i).persistence else [] } := by
  have hnoted : (noteFaulted i st (setLaneState i st s)).lane i = { s.lane i with state := st } := by
    rw [← setLaneState_lane]
    unfold noteFaulted
    split <;> rfl
  unfold enterState
  split
  · exact hnoted
  · rw [forgetNarrow, lane_modLane_same, hnoted]

theorem placeInterval_lane {i : LaneId} {old : LaneState} {s : State} (h : (placeInterval i old s).port.mode.scanning = true) :
    ∃ v, (placeInterval i old s).lane i = { s.lane i with interval := v } := by
  by_cases hold : old = .active
  · rw [placeInterval, if_pos hold] at h ⊢
    unfold openLaneInterval at h ⊢
    split
    · exact ⟨_, rfl⟩
    · rename_i x hx
      rw [hx] at h
      exact ⟨if s.blindFull then none else some s.map.nextId,
        ((openInterval_works (L := noLane) (T := noLane) ..).lane h id).trans (lane_modLane_same ..)⟩
  · rw [placeInterval, if_neg hold, renameLaneInterval_eq]
    exact ⟨_, rfl⟩

/-- While the line goes on inspecting, a change of state touches the lane's state, its persistence tracker and its interval. -/
theorem laneTo_lane {i : LaneId} {st : LaneState} {s : State} (h : (laneTo i st s).port.mode.scanning = true) :
    ∃ v, (laneTo i st s).lanes[i.val] =
      { s.lanes[i.val] with state := st, persistence := if st.following then s.lanes[i.val].persistence else [], interval := v } := by
  have hplaced : ∀ t : State, Works noLane (· = i) (placeInterval i (s.lane i).state (enterState i st s)) t → t.port.mode.scanning = true →
      ∃ v, t.lanes[i.val] =
        { s.lanes[i.val] with state := st, persistence := if st.following then s.lanes[i.val].persistence else [], interval := v } := by
    intro t ht hm
    obtain ⟨v, hv⟩ := placeInterval_lane (ht.toStays.scanning hm)
    exact ⟨v, by rw [ht.lane hm id]; exact hv.trans (by rw [enterState_lane]; rfl)⟩
  rw [laneTo_eq] at h ⊢
  split
  · rename_i hf
    rw [if_pos hf] at h
    exact hplaced _ ((truncateLane_works i _).trans (recomputeK_works _).wider) h
  · rename_i hf
    rw [if_neg hf] at h
    exact hplaced _ (.refl ..) h

/-! ### O24: the digest deadline -/

/-- R26: the lane's digest is overdue at the trigger for line `t`. -/
def State.overdueLane (s : State) (t : Nat) (i : LaneId) : Prop :=
  s.lanes[i.val].state ∈ [LaneState.settling, .active, .crowded] ∧ s.lanes[i.val].expected + 2 ≤ t

theorem laneDeadline_overdue {s : State} {t : Nat} {i : LaneId} (hm : s.port.mode.scanning = true) (h : s.overdueLane t i) :
    laneDeadline t i s = faultLane .digestMissing i s.lanes[i.val].expected s :=
  if_pos (Bool.and_eq_true_iff.2 ⟨Bool.and_eq_true_iff.2 ⟨hm, (examining_iff _).2 h.1⟩, decide_eq_true h.2⟩)

theorem laneDeadline_stays {s : State} {t : Nat} {i : LaneId} (h : s.port.mode.scanning = false ∨ ¬ s.overdueLane t i) :
    laneDeadline t i s = s := by
  refine if_neg fun hc => ?_
  simp only [Bool.and_eq_true, decide_eq_true_eq] at hc
  obtain ⟨⟨hm, hst⟩, ht⟩ := hc
  rcases h with h | h
  · rw [State.mode, h] at hm
    cases hm
  · exact h ⟨(examining_iff _).1 hst, ht⟩

theorem digestDeadline_sweep {s : State} {t : Nat} (hl : s.ctl.held = false) (ht : s.pos.lastLine = some t) :
    digestDeadline s = forLanes (laneDeadline t) s := by simp only [digestDeadline, hl, ht, Bool.false_eq_true, if_false]

/-- The report and the departure of one overdue lane. -/
theorem faultLane_eq (k : FaultKind) (i : LaneId) (line : Nat) (s : State) :
    faultLane k i line s = laneTo i .faulted (report1 k ⟨s.pos.y, some line, some i, none, none, none, none⟩ s) := rfl

theorem faultLane_lane {k : FaultKind} {i : LaneId} {line : Nat} {s : State} (h : (faultLane k i line s).port.mode.scanning = true) :
    (faultLane k i line s).lanes[i.val].state = .faulted := by
  rw [faultLane_eq] at h ⊢
  obtain ⟨v, hv⟩ := laneTo_lane h
  rw [hv]

/-- While the line goes on inspecting, a lane is FAULTED by the deadline exactly if it was overdue. -/
theorem digestDeadline_lane {s : State} {t : Nat} (hl : s.ctl.held = false) (ht : s.pos.lastLine = some t)
    (hm : (digestDeadline s).port.mode.scanning = true) (i : LaneId) :
    (s.overdueLane t i → (digestDeadline s).lanes[i.val].state = .faulted) ∧
    (¬ s.overdueLane t i → (digestDeadline s).lanes[i.val] = s.lanes[i.val]) := by
  rw [digestDeadline_sweep hl ht] at hm ⊢
  obtain ⟨u, hbefore, hafter⟩ := forLanes_turn (laneDeadline_works t) i s
  have hmf := hafter.toStays.scanning hm
  have hmu := (laneDeadline_works t i u).toStays.scanning hmf
  have hlane : u.lanes[i.val] = s.lanes[i.val] := hbefore.lane hmu (fun h => h rfl)
  have hoverdue : u.overdueLane t i ↔ s.overdueLane t i := by simp only [State.overdueLane, hlane]
  rw [hafter.lane hm (fun h => h rfl)]
  refine ⟨fun h => ?_, fun h => ?_⟩
  · rw [laneDeadline_overdue hmu (hoverdue.2 h)] at hmf ⊢
    exact faultLane_lane hmf
  · rw [laneDeadline_stays (.inr fun hu => h (hoverdue.1 hu)), hlane]

/-- Settles O24. -/
theorem digestDeadlineFaultsOverdueLanes : Obligations.DigestDeadlineFaultsOverdueLanes := by
  intro s t hl ht overdue
  refine ⟨fun h => congrArg Host.Outcome.next ?_, fun hm i hi halone => congrArg Host.Outcome.next ?_,
    fun _ => ⟨_, rfl, fun hm i => ?_⟩⟩
  · rw [digestDeadline_sweep hl ht]
    exact forLanes_id _ _ fun i => laneDeadline_stays (h.imp id fun h => h i)
  · rw [digestDeadline_sweep hl ht]
    refine (forLanes_one (i := i) (fun j hj => laneDeadline_stays (.inr (halone j hj))) fun j hj => ?_).trans (laneDeadline_overdue hm hi)
    cases hmt : (laneDeadline t i s).port.mode.scanning with
    | false => exact laneDeadline_stays (.inl hmt)
    | true =>
      refine laneDeadline_stays (.inr fun h => halone j hj ?_)
      rwa [State.overdueLane, (laneDeadline_works t i s).lane hmt hj] at h
  · obtain ⟨hfault, hsame⟩ := digestDeadline_lane hl ht hm i
    exact ⟨hfault, fun h => congrArg Lane.state (hsame h)⟩

/-! ### O29: the detection switch -/

theorem holdsKind_iff (d : DetectionSet) (k : ViewKind) : d.holdsKind k = true ↔ ∃ q : Slot, q ∈ d.slots ∧ q.kind = k := by
  simp [DetectionSet.holdsKind]

theorem mem_kinds (d : DetectionSet) (k : ViewKind) : k ∈ d.kinds ↔ ∃ q : Slot, q ∈ d.slots ∧ q.kind = k := by
  rw [DetectionSet.kinds, List.mem_filter, holdsKind_iff]
  cases k <;> simp

theorem keep_get {d : DetectionSet} {k : ViewKind} (r : Rings) (h : k ∈ d.kinds) : (r.keep d).get k = r.get k := by
  have hk := (List.mem_filter.1 h).2
  cases k <;> simp [Rings.keep, Rings.get, hk]

theorem keep_eq (d : DetectionSet) (r : Rings) : r.keep d =
    ⟨if ∃ q : Slot, q ∈ d.slots ∧ q.kind = .bright then r.bright else [],
     if ∃ q : Slot, q ∈ d.slots ∧ q.kind = .dark then r.dark else [],
     if ∃ q : Slot, q ∈ d.slots ∧ q.kind = .oblique then r.oblique else []⟩ := by simp only [Rings.keep, holdsKind_iff]

/-- R41: a lane that follows flaws and lacks samples of a kind of the set `d`. -/
def State.lacking (s : State) (d : DetectionSet) (i : LaneId) : Prop :=
  (s.lanes[i.val].state = .active ∨ s.lanes[i.val].state = .crowded) ∧ ∃ q : Slot, q ∈ d.slots ∧ s.lanes[i.val].rings.get q.kind = []

/-- A lane with the rings and the counters that a switch to the set `d` leaves it. -/
def Lane.switched (d : DetectionSet) (l : Lane) : Lane := { l with rings := l.rings.keep d, limitRuns := Vector.replicate 5 0 }

theorem lacking_iff (s : State) (d : DetectionSet) (i : LaneId) : s.lacking d i ↔
    (s.lane i).state.following = true ∧ d.kinds.any (fun k => (((s.lane i).rings.keep d).get k).isEmpty) = true := by
  rw [State.lacking, following_iff, List.any_eq_true]
  refine and_congr .rfl ⟨fun ⟨q, hq, hempty⟩ => ?_, fun ⟨k, hk, hempty⟩ => ?_⟩
  · have hk : q.kind ∈ d.kinds := (mem_kinds d _).2 ⟨q, hq, rfl⟩
    exact ⟨q.kind, hk, by rw [keep_get _ hk, State.lane, hempty]; rfl⟩
  · obtain ⟨q, hq, rfl⟩ := (mem_kinds d k).1 hk
    exact ⟨q, hq, by rw [keep_get _ hk] at hempty; exact List.isEmpty_iff.1 hempty⟩

section
variable {d : DetectionSet} {i : LaneId} {s : State} (hm : s.port.mode ≠ .halted)
include hm

theorem laneSwitch_lacking (h : s.lacking d i) : laneSwitch d i s = laneTo i .settling (s.modLane i (Lane.switched d)) := by
  rw [laneSwitch, if_neg (show ¬ s.mode = .halted from hm)]
  refine if_pos ?_
  rw [lane_modLane_same, Bool.and_eq_true]
  exact (lacking_iff s d i).1 h

theorem laneSwitch_stays (h : ¬ s.lacking d i) : laneSwitch d i s = s.modLane i (Lane.switched d) := by
  rw [laneSwitch, if_neg (show ¬ s.mode = .halted from hm)]
  refine if_neg ?_
  rw [lane_modLane_same, Bool.and_eq_true]
  exact fun hc => h ((lacking_iff s d i).2 hc)

end

/-- The state in which the lanes take a switch. -/
def setSwitched (d : DetectionSet) (l : Nat) (s : State) : State :=
  s.modTracker fun t => { t with outgoing := t.active, active := some d, apply := .switched l }

theorem detectionSwitch_none {s : State} (h : s.dueSwitch = none) : detectionSwitch s = s := by simp [detectionSwitch, h]

theorem detectionSwitch_due {s : State} {d : DetectionSet} {l : Nat} (hl : s.ctl.held = false) (h : s.dueSwitch = some (d, l)) :
    detectionSwitch s = answerDelayed .applyDetection .ok (.switchLine l) (forLanes (laneSwitch d) (setSwitched d l s)) := by
  simp [detectionSwitch, hl, h, setSwitched]

theorem triggered_some {s : State} {t : Nat} (h : s.pos.lastLine = some t) (l : Nat) : s.triggered l = decide (l ≤ t) := by
  rw [State.triggered, h]

/-- While the line goes on inspecting, every lane has been switched, and the lacking ones have gone to SETTLING. -/
theorem switchLanes_lane {d : DetectionSet} {s : State} (hm : (forLanes (laneSwitch d) s).port.mode.scanning = true) (i : LaneId) :
    (forLanes (laneSwitch d) s).lanes[i.val].limitRuns = Vector.replicate 5 0 ∧
    (forLanes (laneSwitch d) s).lanes[i.val].rings = s.lanes[i.val].rings.keep d ∧
    (s.lacking d i → (forLanes (laneSwitch d) s).lanes[i.val].state = .settling) ∧
    (¬ s.lacking d i → (forLanes (laneSwitch d) s).lanes[i.val].state = s.lanes[i.val].state) := by
  obtain ⟨u, hbefore, hafter⟩ := forLanes_turn (laneSwitch_works d) i s
  have hmf := hafter.toStays.scanning hm
  have hmu := (laneSwitch_works d i u).toStays.scanning hmf
  have hrun : u.port.mode ≠ .halted := fun h => by simp [h, Mode.scanning] at hmu
  have hlane : u.lanes[i.val] = s.lanes[i.val] := hbefore.lane hmu (fun h => h rfl)
  have hlacking : u.lacking d i ↔ s.lacking d i := by simp only [State.lacking, hlane]
  have hswitched : (u.modLane i (Lane.switched d)).lanes[i.val] = Lane.switched d s.lanes[i.val] := by
    rw [← hlane]
    exact lane_modLane_same ..
  rw [hafter.lane hm (fun h => h rfl)]
  by_cases h : s.lacking d i
  · rw [laneSwitch_lacking hrun (hlacking.2 h)] at hmf ⊢
    obtain ⟨v, hv⟩ := laneTo_lane hmf
    rw [hv, hswitched]
    exact ⟨rfl, rfl, fun _ => rfl, fun hn => absurd h hn⟩
  · rw [laneSwitch_stays hrun (fun hc => h (hlacking.1 hc)), hswitched]
    exact ⟨rfl, rfl, fun hc => absurd hc h, fun _ => rfl⟩

/-- A switch at which no lane lacks samples keeps the mode. -/
theorem switchLanes_mode {d : DetectionSet} {s : State} (hm : s.port.mode.scanning = true) (h : ∀ i, ¬ s.lacking d i) :
    (forLanes (laneSwitch d) s).port.mode = s.port.mode := by
  have hkept := forLanes_keeps (fun u => u.port.mode = s.port.mode ∧ ∀ i, ¬ u.lacking d i) (laneSwitch d) s ⟨rfl, h⟩ ?_
  · exact hkept.1
  rintro i u ⟨hmode, hnone⟩
  rw [laneSwitch_stays (fun hh => by simp [← hmode, hh, Mode.scanning] at hm) (hnone i)]
  refine ⟨hmode, fun j hj => ?_⟩
  by_cases hji : j = i
  · subst hji
    rw [lacking_iff, lane_modLane_same] at hj
    obtain ⟨hfollow, hempty⟩ := hj
    refine hnone j ((lacking_iff u d j).2 ⟨hfollow, ?_⟩)
    obtain ⟨k, hk, hk'⟩ := List.any_eq_true.1 hempty
    refine List.any_eq_true.2 ⟨k, hk, ?_⟩
    rw [keep_get _ hk] at hk'
    exact hk'
  · exact hnone j ((lacking_iff u d j).2 (by rw [lacking_iff, lane_modLane_other i j _ u hji] at hj; exact hj))

/-- Settles O29. -/
theorem detectionSwitchAtItsLine : Obligations.DetectionSwitchAtItsLine := by
  intro s hl
  refine ⟨fun d l ha hwait => congrArg Host.Outcome.next (detectionSwitch_none ?_), fun ha => congrArg Host.Outcome.next (detectionSwitch_none ?_),
    ?_, fun l t ha ht => ⟨fun h => ?_, fun h => ?_⟩, fun h => ?_⟩
  · simp only [State.dueSwitch, ha]
    refine if_neg fun hc => ?_
    obtain ⟨hm, htr⟩ := Bool.and_eq_true_iff.1 hc
    rcases hwait with hw | hw
    · rw [State.mode, hw] at hm
      cases hm
    · unfold State.triggered at htr
      split at htr
      · cases htr
      · rename_i t ht
        exact absurd (of_decide_eq_true htr) (Nat.not_le.2 (hw t ht))
  · rcases ha with ha | ⟨l, ha⟩ <;> simp only [State.dueSwitch, ha]
  · intro d l t tag ha hm ht hlt hfind lacking
    have hdue : s.dueSwitch = some (d, l) := by
      simp only [State.dueSwitch, ha]
      exact if_pos (Bool.and_eq_true_iff.2 ⟨hm, by rw [triggered_some ht]; exact decide_eq_true hlt⟩)
    obtain ⟨dl, o, hframe, -⟩ := answerDelayed_frame .applyDetection .ok (.switchLine l) (forLanes (laneSwitch d) (setSwitched d l s))
    refine ⟨_, congrArg Host.Outcome.next (detectionSwitch_due hl hdue), fun hnone => ?_, fun hmu => ?_⟩
    · rw [answerDelayed_mode]
      exact switchLanes_mode hm hnone
    · rw [answerDelayed_mode] at hmu
      have hworks : Works (fun _ => True) (fun _ => True) (setSwitched d l s) (forLanes (laneSwitch d) (setSwitched d l s)) :=
        forLanes_works (fun i s => (laneSwitch_works d i s).mono (fun _ _ => trivial) (fun _ _ => trivial)) _
      have hlive := hworks.live hmu
      have hctl : (forLanes (laneSwitch d) (setSwitched d l s)).ctl = s.ctl := hworks.ctl
      have hlanes := switchLanes_lane hmu
      generalize forLanes (laneSwitch d) (setSwitched d l s) = v at hframe hlive hctl hlanes ⊢
      refine ⟨by rw [hframe]; exact hlive.outgoing, by rw [hframe]; exact hlive.active, by rw [hframe]; exact hlive.apply,
        fun hr => ?_, fun hr => ?_, fun i => ?_⟩
      · rw [answerDelayed_some (d := ⟨.applyDetection, tag⟩) (by rw [hctl]; exact hr) (by rw [hlive.delayed]; exact hfind)]
        exact ⟨congrArg (· ++ [_]) hlive.replies, congrArg (List.filter _) hlive.delayed⟩
      · rw [answerDelayed_resetting (by rw [hctl]; exact hr)]
        exact ⟨hlive.replies, hlive.delayed⟩
      · obtain ⟨hruns, hrings, hgone, hkept⟩ := hlanes i
        rw [hframe]
        exact ⟨hruns, hrings.trans (keep_eq ..), hgone, hkept⟩
  · refine congrArg Host.Outcome.next (show switchComplete s = s from if_pos ?_)
    simp only [State.switchDue, ha, ht, hl, Bool.false_or, Bool.not_eq_true', decide_eq_false_iff_not]
    omega
  · refine congrArg Host.Outcome.next (show switchComplete s = _ from if_neg ?_)
    simp only [State.switchDue, ha, ht, hl, Bool.false_or, Bool.not_eq_true', decide_eq_false_iff_not]
    omega
  · refine congrArg Host.Outcome.next (show switchComplete s = s from if_pos ?_)
    have hnot : s.switchDue = false := by
      unfold State.switchDue
      split
      · rename_i l t ha ht
        rcases h with h | h
        · exact absurd ha (h l)
        · rw [h] at ht
          cases ht
      · rfl
    rw [hnot]
    exact Bool.or_true _

end Sys2Proof.Machine
end

section
/-!
The scan trigger of an encoder change (R9), and what has been done with it (R26, R61 to R63).
-/

namespace Sys2Proof.Machine

/-! ### What a change does to the last triggered line and the triggers sent -/

/-- What a change that reaches no new Y leaves. -/
structure Unmoved (s t : State) : Prop where
  y : t.pos.y = s.pos.y
  lastLine : t.pos.lastLine = s.pos.lastLine
  triggers : t.out.triggers = s.out.triggers
  ctl : t.ctl = s.ctl

theorem Stays.unmoved {s t : State} (h : Stays s t) : Unmoved s t := by
  obtain ⟨o, b, hp⟩ := h.pos
  exact ⟨by rw [hp], by rw [hp], h.triggers, h.ctl⟩

/-- A change either increments Y or leaves it. -/
theorem takeMove_cases (m : PhaseMove) (late : Bool) (s : State) :
    takeMove m late s = yIncrement (s.modPos fun p => { p with rem := p.rem + 10000 - p.geometry.ppm }) ∨ Unmoved s (takeMove m late s) := by
  cases m with
  | same => exact .inr ⟨rfl, rfl, rfl, rfl⟩
  | reverse =>
    refine .inr ?_
    change Unmoved s (reversePulse late s)
    unfold reversePulse
    split
    · exact ⟨rfl, rfl, rfl, rfl⟩
    split
    · exact (report2_stays ..).unmoved
    · exact ⟨rfl, rfl, rfl, rfl⟩
  | error =>
    refine .inr ?_
    change Unmoved s (phaseError late s)
    unfold phaseError
    split
    · exact (report2_stays ..).unmoved
    · exact ⟨rfl, rfl, rfl, rfl⟩
  | forward =>
    change forwardPulse s = _ ∨ Unmoved s (forwardPulse s)
    unfold forwardPulse
    split
    · exact .inr ⟨rfl, rfl, rfl, rfl⟩
    split
    · exact .inr ⟨rfl, rfl, rfl, rfl⟩
    split
    · exact .inr ⟨rfl, rfl, rfl, rfl⟩
    · exact .inl rfl

theorem yIncrement_y (s : State) : (yIncrement s).pos.y = s.pos.y + 1 := by
  obtain ⟨l, h⟩ := yIncrement_pos s
  rw [h]
  rfl

theorem yIncrement_ctl (s : State) : (yIncrement s).ctl = s.ctl := by
  by_cases hm : s.port.mode = .idle
  · rw [yIncrement_idle hm]
    rfl
  rw [yIncrement_running hm]
  obtain ⟨p, hp, -⟩ := testRoom_spec (if (s.pos.y + 1) % s.pos.geometry.pitch = 0
    then trigger ((s.pos.y + 1) / s.pos.geometry.pitch) (retesting s) else retesting s)
  rw [hp]
  dsimp only
  split
  · obtain ⟨k, q, m, h⟩ := trigger_frame ((s.pos.y + 1) / s.pos.geometry.pitch) (retesting s)
    rw [h]
    rfl
  · rfl

/-- An increment that reaches no line, or in IDLE, issues no trigger. -/
theorem yIncrement_noTrigger {s : State} (h : s.port.mode = .idle ∨ (s.pos.y + 1) % s.pos.geometry.pitch ≠ 0) :
    (yIncrement s).pos.lastLine = s.pos.lastLine ∧ (yIncrement s).out.triggers = s.out.triggers := by
  by_cases hm : s.port.mode = .idle
  · rw [yIncrement_idle hm]
    exact ⟨rfl, rfl⟩
  · rw [yIncrement_running hm, if_neg (h.resolve_left hm)]
    obtain ⟨p, hp, -⟩ := testRoom_spec (retesting s)
    rw [hp]
    exact ⟨rfl, rfl⟩

/-- R9: an increment that reaches a line issues its trigger. -/
theorem yIncrement_trigger {s : State} {d : DetectionSet} (hm : s.port.mode ≠ .idle) (h : (s.pos.y + 1) % s.pos.geometry.pitch = 0)
    (happly : s.tracker.apply = .none) (hset : s.tracker.active = some d) :
    (yIncrement s).pos.lastLine = some ((s.pos.y + 1) / s.pos.geometry.pitch) ∧
    (yIncrement s).out.triggers = s.out.triggers ++
      [⟨(s.pos.y + 1) / s.pos.geometry.pitch % 65536, (s.pos.y + 1) / s.pos.geometry.pitch % d.slots.length⟩] := by
  rw [yIncrement_running hm, if_pos h]
  generalize (s.pos.y + 1) / s.pos.geometry.pitch = n
  obtain ⟨p, hp, -⟩ := testRoom_spec (trigger n (retesting s))
  obtain ⟨k, q, m, hframe⟩ := trigger_frame n (retesting s)
  have hset' : (retesting s).setFor n = some d := by
    unfold State.setFor
    rw [show (retesting s).tracker.apply = .none from happly]
    exact hset
  rw [hp, hframe]
  refine ⟨rfl, ?_⟩
  change s.out.triggers ++ [(⟨n % 65536, (((retesting s).setFor n).map fun d => d.slotNumber n).getD 0⟩ : Trigger)] = _
  rw [hset']
  rfl

/-! ### A trigger's work leaves nothing outstanding -/

theorem switchComplete_cases (s : State) : switchComplete s = s ∨
    switchComplete s = { s with tracker := { s.tracker with outgoing := none, apply := .none } } := by
  unfold switchComplete
  split
  · exact .inl rfl
  · exact .inr rfl

/-- R63: afterwards no switch is due to complete. -/
theorem switchComplete_done {s : State} {l n : Nat} (hl : s.ctl.held = false) (hline : s.pos.lastLine = some n)
    (h : (switchComplete s).tracker.apply = .switched l) : n ≤ l := by
  unfold switchComplete at h
  split at h
  · rename_i hdue
    rw [hl, Bool.false_or, Bool.not_eq_true'] at hdue
    unfold State.switchDue at hdue
    rw [h, hline] at hdue
    exact Nat.lt_succ_iff.1 (Nat.not_le.1 (of_decide_eq_false hdue))
  · cases h

/-- R62: while the line goes on inspecting, a switch that still waits waits for a later line. -/
theorem detectionSwitch_waits {s : State} {d : DetectionSet} {l n : Nat} (hl : s.ctl.held = false) (hline : s.pos.lastLine = some n)
    (hm : (detectionSwitch s).port.mode.scanning = true) (h : (detectionSwitch s).tracker.apply = .waiting d l) : n < l := by
  cases hdue : s.dueSwitch with
  | none =>
    rw [detectionSwitch_none hdue] at hm h
    simp only [State.dueSwitch, h] at hdue
    split at hdue
    · cases hdue
    · rename_i hwait
      rw [State.mode, hm, triggered_some hline, Bool.true_and, decide_eq_true_iff] at hwait
      exact Nat.not_le.1 hwait
  | some p =>
    obtain ⟨d', l'⟩ := p
    rw [detectionSwitch_due hl hdue] at hm h
    obtain ⟨dl, o, hframe, -⟩ := answerDelayed_frame .applyDetection .ok (.switchLine l') (forLanes (laneSwitch d') (setSwitched d' l' s))
    have hworks : Works (fun _ => True) (fun _ => True) (setSwitched d' l' s) (forLanes (laneSwitch d') (setSwitched d' l' s)) :=
      forLanes_works (fun i s => (laneSwitch_works d' i s).mono (fun _ _ => trivial) (fun _ _ => trivial)) _
    generalize forLanes (laneSwitch d') (setSwitched d' l' s) = v at hm h hframe hworks
    rw [hframe] at hm h
    have happly : v.tracker.apply = .switched l' := (hworks.live hm).apply
    exact ApplyState.noConfusion (h.symm.trans happly)

theorem digestDeadline_works (s : State) : Works (fun _ => True) (fun _ => True) s (digestDeadline s) := by
  unfold digestDeadline
  split
  · exact .refl ..
  split
  · exact .refl ..
  · exact forLanes_works (fun i s => (laneDeadline_works _ i s).mono (fun _ _ => trivial) (fun _ _ => trivial)) _

/-- The part of O15 about the switch and the deadline. -/
theorem followTrigger_done {s : State} {n : Nat} (hl : s.ctl.held = false) (hline : s.pos.lastLine = some n) :
    ((followTrigger s).port.mode.scanning = true →
      (∀ d l, (followTrigger s).tracker.apply = .waiting d l → n < l) ∧
      ∀ i : LaneId, (followTrigger s).lanes[i.val].state ∈ [LaneState.settling, .active, .crowded] →
        n < (followTrigger s).lanes[i.val].expected + 2) ∧
    ∀ l, (followTrigger s).tracker.apply = .switched l → n ≤ l := by
  have hswitch := (detectionSwitch_stays s).unmoved
  have hdeadline := (digestDeadline_stays (detectionSwitch s)).unmoved
  have hla : (detectionSwitch s).ctl.held = false := by rw [hswitch.ctl, hl]
  have hna : (detectionSwitch s).pos.lastLine = some n := by rw [hswitch.lastLine, hline]
  refine ⟨fun hm => ?_, fun l h => switchComplete_done (by rw [hdeadline.ctl, hla]) (by rw [hdeadline.lastLine, hna]) h⟩
  rw [followTrigger] at hm ⊢
  have hmb : (digestDeadline (detectionSwitch s)).port.mode.scanning = true := (switchComplete_stays _).scanning hm
  have hma := (digestDeadline_stays (detectionSwitch s)).scanning hmb
  have hwaits : ∀ d l, (digestDeadline (detectionSwitch s)).tracker.apply = .waiting d l → n < l := fun d l h =>
    detectionSwitch_waits hl hline hma (((digestDeadline_works _).live hmb).apply ▸ h)
  have hlanes : ∀ i : LaneId, (digestDeadline (detectionSwitch s)).lanes[i.val].state ∈ [LaneState.settling, .active, .crowded] →
      n < (digestDeadline (detectionSwitch s)).lanes[i.val].expected + 2 := by
    intro i hst
    obtain ⟨hfault, hsame⟩ := digestDeadline_lane hla hna hmb i
    have hnot : ¬ (detectionSwitch s).overdueLane n i := fun h => by simp [hfault h] at hst
    rw [hsame hnot] at hst ⊢
    exact Nat.not_le.1 fun h => hnot ⟨hst, h⟩
  rcases switchComplete_cases (digestDeadline (detectionSwitch s)) with h | h
  · rw [h]
    exact ⟨hwaits, hlanes⟩
  · rw [h]
    exact ⟨fun d l h => (by cases h), hlanes⟩

/-! ### The mode in which a line is reached -/

/-- A line that is stopped or goes on, with no switch in progress: in IDLE it can only be by a return from HALTED, which no work of a
trigger makes. -/
structure Unreset (d : DetectionSet) (s : State) : Prop where
  law : HaltLaw s
  running : s.port.mode ≠ .idle
  noSwitch : s.tracker.apply = .none
  active : s.tracker.active = some d

section
variable {d : DetectionSet}

theorem Unreset.of_eq {s t : State} (h : Unreset d s) (hslot : t.fault.slot = s.fault.slot) (hmode : t.port.mode = s.port.mode)
    (happly : t.tracker.apply = s.tracker.apply) (hactive : t.tracker.active = s.tracker.active) : Unreset d t :=
  ⟨by rw [HaltLaw, hslot, hmode]; exact h.law, by rw [hmode]; exact h.running, by rw [happly]; exact h.noSwitch,
    by rw [hactive]; exact h.active⟩

theorem Unreset.scanning {s : State} (h : Unreset d s) (hm : s.port.mode ≠ .halted) : s.port.mode.scanning = true := by
  have hidle := h.running
  revert hm hidle
  cases s.port.mode <;> simp [Mode.scanning]

theorem report1_unreset {s : State} (k : FaultKind) (it : ReportItems) (h : Unreset d s) : Unreset d (report1 k it s) :=
  ⟨(report1_keeps k it s).halt h.law, by
    obtain ⟨f, v, hr⟩ := report1_frame k it s
    rw [hr]
    exact h.running, by
    obtain ⟨f, v, hr⟩ := report1_frame k it s
    rw [hr]
    exact h.noSwitch, by
    obtain ⟨f, v, hr⟩ := report1_frame k it s
    rw [hr]
    exact h.active⟩

/-- A class 2 report of a line that goes on halts it and no more. -/
theorem report2_unreset {s : State} (k : FaultKind) (it : ReportItems) (hm : s.port.mode.scanning = true) (h : Unreset d s) :
    Unreset d (report2 k it s) := by
  have hslot : ∀ r, s.fault.slot ≠ .haltHeld r := fun r hr => by
    rw [h.law.2 ⟨r, hr⟩] at hm
    cases hm
  rw [report2_scanning k it s hslot hm]
  have hhalt := captureHalt_halted k it s
  refine ⟨⟨fun _ => ⟨_, hhalt.slot⟩, fun _ => hhalt.mode⟩, by rw [hhalt.mode]; decide, ?_, ?_⟩
  · rw [hhalt.tracker]
    exact h.noSwitch
  · rw [hhalt.tracker]
    exact h.active

theorem openInterval_unreset {s : State} (r : BlindReason) (lane : Option LaneId) (a b y : Nat) (hm : s.port.mode.scanning = true)
    (h : Unreset d s) : Unreset d (openInterval r lane a b y s) := by
  unfold openInterval
  split
  · exact report2_unreset _ _ hm h
  · exact h.of_eq rfl rfl rfl rfl

theorem insertAlone_unreset {s : State} (e : MapEntry) (hm : s.port.mode.scanning = true) (h : Unreset d s) :
    Unreset d (insertAlone e s) := by
  unfold insertAlone
  split
  · unfold noteHigh
    split <;> exact h.of_eq rfl rfl rfl rfl
  · unfold refuseFlaw coverRefused
    dsimp only
    split
    · exact openInterval_unreset _ _ _ _ _ hm (h.of_eq rfl rfl rfl rfl)
    split <;> exact h.of_eq rfl rfl rfl rfl

theorem mapInsert_unreset {s : State} (set : DetectionSet) (i : LaneId) (e : MapEntry) (hm : s.port.mode.scanning = true)
    (h : Unreset d s) : Unreset d (mapInsert set i e s) := by
  unfold mapInsert
  split
  · exact insertAlone_unreset _ hm h
  split
  · exact h.of_eq rfl rfl rfl rfl
  · exact insertAlone_unreset _ hm h

theorem recomputeK_unreset {s : State} (h : Unreset d s) : Unreset d (recomputeK s) := by
  obtain ⟨k, p, -, hk⟩ := recomputeK_spec s
  rw [hk]
  exact h.of_eq rfl rfl rfl rfl

theorem closeFlaw_unreset (set : DetectionSet) (i : LaneId) (cause : CloseCause) (f : OpenFlaw) {s : State} (h : Unreset d s) :
    Unreset d (closeFlaw set i cause s f) := by
  unfold closeFlaw
  split
  · exact h
  · rename_i hm
    exact recomputeK_unreset (mapInsert_unreset _ _ _ (h.scanning hm) (h.of_eq rfl rfl rfl rfl))

theorem truncateLane_unreset {s : State} (i : LaneId) (h : Unreset d s) : Unreset d (truncateLane i s) := by
  unfold truncateLane
  split
  · exact h
  · have hclosed : ∀ (set : DetectionSet) (fs : List OpenFlaw) (s : State), Unreset d s →
        Unreset d (fs.foldl (closeFlaw set i .truncated) s) := by
      intro set fs
      induction fs with
      | nil => exact fun _ => id
      | cons f fs ih => exact fun s hs => ih _ (closeFlaw_unreset set i _ f hs)
    unfold dropMarks
    split
    · exact hclosed _ _ _ h
    · exact (hclosed _ _ _ h).of_eq rfl rfl rfl rfl

theorem enterState_unreset {s : State} (i : LaneId) (st : LaneState) (h : Unreset d s) : Unreset d (enterState i st s) := by
  unfold enterState noteFaulted setLaneState
  split <;> split <;> split <;> exact h.of_eq rfl rfl rfl rfl

theorem laneTo_unreset {s : State} (i : LaneId) (st : LaneState) (hm : s.port.mode.scanning = true) (h : Unreset d s) :
    Unreset d (laneTo i st s) := by
  have hentered := enterState_unreset i st h
  have hme : (enterState i st s).port.mode.scanning = true := by
    unfold enterState noteFaulted setLaneState
    split <;> split <;> split <;> exact hm
  have hplaced : Unreset d (placeInterval i (s.lane i).state (enterState i st s)) := by
    unfold placeInterval
    split
    · unfold openLaneInterval
      split
      · exact hentered
      · exact openInterval_unreset _ _ _ _ _ hme (hentered.of_eq rfl rfl rfl rfl)
    · rw [renameLaneInterval_eq]
      exact hentered.of_eq rfl rfl rfl rfl
  rw [laneTo_eq]
  split
  · exact recomputeK_unreset (truncateLane_unreset i hplaced)
  · exact hplaced

theorem laneDeadline_unreset {s : State} (t : Nat) (i : LaneId) (h : Unreset d s) : Unreset d (laneDeadline t i s) := by
  unfold laneDeadline
  dsimp only
  split
  · rename_i hc
    have hm : s.port.mode.scanning = true := (Bool.and_eq_true_iff.1 (Bool.and_eq_true_iff.1 hc).1).1
    refine laneTo_unreset i _ ?_ (report1_unreset _ _ h)
    obtain ⟨f, v, hr⟩ := report1_frame .digestMissing { s.here with line := some (s.lane i).expected, lane := some i } s
    rw [hr]
    exact hm
  · exact h

end

theorem mapFullEnd_frame (s : State) : ∃ m, mapFullEnd s = { s with map := m } := by
  unfold mapFullEnd
  split
  · exact ⟨_, rfl⟩
  split
  · dsimp only
    split
    · exact ⟨_, rfl⟩
    · unfold closeAll
      split <;> exact ⟨_, rfl⟩
  · exact ⟨_, rfl⟩

theorem switchComplete_none {s : State} (h : s.tracker.apply = .none) : switchComplete s = s :=
  if_pos (by rw [switchDue_none h]; exact Bool.or_true _)

theorem takeTriggerWork_unreset {d : DetectionSet} {s : State} (h : Unreset d s) : Unreset d (takeTriggerWork s) := by
  have hdeadline : Unreset d (digestDeadline s) := by
    unfold digestDeadline
    split
    · exact h
    split
    · exact h
    · exact forLanes_keeps (Unreset d) _ s h fun i u hu => laneDeadline_unreset _ i hu
  have hfollow : followTrigger s = digestDeadline s := by
    rw [followTrigger, detectionSwitch_none (by simp only [State.dueSwitch, h.noSwitch]), switchComplete_none hdeadline.noSwitch]
  obtain ⟨m, hm⟩ := mapFullEnd_frame (digestDeadline s)
  rw [takeTriggerWork, hfollow, hm]
  exact hdeadline.of_eq rfl rfl rfl rfl

theorem takeTriggerWork_idle {s : State} (h : s.port.mode = .idle) : (takeTriggerWork s).port.mode = .idle := by
  have hm : s.port.mode.scanning = false := by rw [h]; rfl
  have hdeadline : digestDeadline s = s := by
    unfold digestDeadline
    split
    · rfl
    split
    · rfl
    · exact forLanes_id _ _ fun i => laneDeadline_stays (.inl hm)
  obtain ⟨m, hend⟩ := mapFullEnd_frame (followTrigger s)
  rw [takeTriggerWork, hend, followTrigger, detectionSwitch_none (dueSwitch_notScanning hm), hdeadline]
  change (switchComplete s).port.mode = _
  rcases switchComplete_cases s with hc | hc <;> rw [hc]
  · exact h
  · exact h

/-! ### O15 -/

/-- Settles O15. -/
theorem triggersAtMultiplesOfThePitch : Obligations.TriggersAtMultiplesOfThePitch := by
  refine ⟨fun s a b late hl hc => ⟨_, exec_encoder a b late hl hc, fun n hn => ?_⟩, fun s a b late d hlaw hl hc happly hactive =>
    ⟨_, exec_encoder a b late hl hc, ?_⟩⟩
  · have hu : (setPhase a b (takeTriggerWork s)).ctl = s.ctl := (takeTriggerWork_stays s).ctl
    generalize setPhase a b (takeTriggerWork s) = u at hn hu ⊢
    generalize classifyMove (s.pos.phaseA, s.pos.phaseB) (a, b) = m at hn ⊢
    have hw : (takeMove m late u).ctl.held = false := by
      rcases takeMove_cases m late u with h | h
      · rw [h, yIncrement_ctl]
        exact (congrArg Control.held hu).trans hl
      · rw [h.ctl, hu, hl]
    have hfollowed := (followTrigger_stays (takeMove m late u)).unmoved
    exact followTrigger_done hw (hfollowed.lastLine ▸ hn)
  · generalize classifyMove (s.pos.phaseA, s.pos.phaseB) (a, b) = m
    obtain ⟨o, mk, hpos⟩ := (takeTriggerWork_stays s).pos
    have hu : Unmoved s (setPhase a b (takeTriggerWork s)) := by
      obtain ⟨hy, hline, htriggers, hctl⟩ := (takeTriggerWork_stays s).unmoved
      exact ⟨hy, hline, htriggers, hctl⟩
    have hpitch : (setPhase a b (takeTriggerWork s)).pos.geometry = s.pos.geometry := by
      change (takeTriggerWork s).pos.geometry = _
      rw [hpos]
    have hrun : s.port.mode ≠ .idle → Unreset d (setPhase a b (takeTriggerWork s)) := fun hm =>
      (takeTriggerWork_unreset ⟨hlaw, hm, happly, hactive⟩).of_eq rfl rfl rfl rfl
    have hidle : s.port.mode = .idle → (setPhase a b (takeTriggerWork s)).port.mode = .idle := takeTriggerWork_idle
    generalize setPhase a b (takeTriggerWork s) = u at hu hpitch hrun hidle ⊢
    have ht := (followTrigger_stays (takeMove m late u)).unmoved
    rw [ht.y, ht.lastLine, ht.triggers]
    rcases takeMove_cases m late u with h | h
    · have hv : Unmoved s (u.modPos fun p => { p with rem := p.rem + 10000 - p.geometry.ppm }) := ⟨hu.y, hu.lastLine, hu.triggers, hu.ctl⟩
      have hvpitch : (u.modPos fun p => { p with rem := p.rem + 10000 - p.geometry.ppm }).pos.geometry = s.pos.geometry := hpitch
      have hvrun : s.port.mode ≠ .idle → Unreset d (u.modPos fun p => { p with rem := p.rem + 10000 - p.geometry.ppm }) := fun hm =>
        (hrun hm).of_eq rfl rfl rfl rfl
      have hvidle : s.port.mode = .idle → (u.modPos fun p => { p with rem := p.rem + 10000 - p.geometry.ppm }).port.mode = .idle := hidle
      rw [h, yIncrement_y]
      generalize (u.modPos fun p => { p with rem := p.rem + 10000 - p.geometry.ppm }) = v at hv hvpitch hvrun hvidle ⊢
      rw [← hv.y, ← hv.lastLine, ← hv.triggers, ← hvpitch]
      refine ⟨fun hm _ hline => yIncrement_trigger (hvrun hm).running hline (hvrun hm).noSwitch (hvrun hm).active, fun hno => ?_⟩
      rcases hno with hno | hno | hno
      · exact yIncrement_noTrigger (.inl (hvidle hno))
      · omega
      · exact yIncrement_noTrigger (.inr hno)
    · rw [h.y, h.lastLine, h.triggers, hu.y, hu.lastLine, hu.triggers]
      exact ⟨fun _ hy => absurd hy (by omega), fun _ => ⟨rfl, rfl⟩⟩

end Sys2Proof.Machine
end

section
/-!
A lane that leaves ACTIVE or CROWDED (R42, R43, R54): its interval, its open flaws while the map has room for them, and a full blind list.
-/

namespace Sys2Proof.Machine

/-! ### What a halt leaves of the map and the blind list -/

/-- Every interval left is one that was held, with its lane and its end, and the map-full condition stays. -/
structure HaltedMap (m m' : MapUnit) : Prop where
  blind : ∀ b ∈ m'.blind, ∃ q ∈ m.blind, q.id = b.id ∧ q.lane = b.lane ∧ q.yEnd = b.yEnd
  full : m'.full = m.full
  fullEnd : m'.fullEnd = m.fullEnd
  refused : m'.refused = m.refused

theorem HaltedMap.refl (m : MapUnit) : HaltedMap m m := ⟨fun b hb => ⟨b, hb, rfl, rfl, rfl⟩, rfl, rfl, rfl⟩

theorem HaltedMap.trans {m m' m'' : MapUnit} (h : HaltedMap m m') (g : HaltedMap m' m'') : HaltedMap m m'' := by
  refine ⟨fun b hb => ?_, g.full.trans h.full, g.fullEnd.trans h.fullEnd, g.refused.trans h.refused⟩
  obtain ⟨q, hq, hid, hlane, hend⟩ := g.blind b hb
  obtain ⟨p, hp, hid', hlane', hend'⟩ := h.blind q hq
  exact ⟨p, hp, hid'.trans hid, hlane'.trans hlane, hend'.trans hend⟩

theorem voidRecord_map (r : PlateRecord) {s : State} (h : s.port.mode ≠ .idle) :
    HaltedMap s.map (voidRecord r s).map ∧ (voidRecord r s).port = s.port := by
  obtain ⟨f, hf⟩ := releaseReferences_eq r.flawRefs r.blindRefs
    (s := s.modPlanner fun p => { p with table := p.table.filter fun q => q.id != r.id }) h
  rw [voidRecord, stopCounting_eq, hf]
  refine ⟨⟨fun b hb => ?_, rfl, rfl, rfl⟩, rfl⟩
  obtain ⟨q, hq, rfl⟩ := List.mem_map.1 (List.mem_filter.1 hb).1
  exact ⟨q, hq, by split <;> exact ⟨rfl, rfl, rfl⟩⟩

theorem voidRecords_map (rs : List PlateRecord) (s : State) (h : s.port.mode ≠ .idle) :
    HaltedMap s.map (rs.foldl (fun s r => voidRecord r s) s).map := by
  induction rs generalizing s with
  | nil => exact .refl _
  | cons r rs ih =>
    obtain ⟨hr, hport⟩ := voidRecord_map r h
    exact hr.trans (ih _ (by rw [hport]; exact h))

theorem captureHalt_map (k : FaultKind) (it : ReportItems) (s : State) : HaltedMap s.map (captureHalt k it s).map := by
  obtain ⟨r, v, d, o, hclose, -⟩ := makePendingClose_frame (sendCutterHalt (voidAll (setMode .halted
    ((fillSlot (.haltHeld (s.record k it s.fault.slot.number)) s).modFault fun f => { f with before := some ⟨s.mode,
      (fillSlot (.haltHeld (s.record k it s.fault.slot.number)) s).overrunDue, false⟩ }))))
  have hhalt : captureHalt k it s = _ := hclose
  rw [hhalt]
  exact voidRecords_map s.planner.table (setMode .halted
    ((fillSlot (.haltHeld (s.record k it s.fault.slot.number)) s).modFault fun f => { f with before := some ⟨s.mode,
      (fillSlot (.haltHeld (s.record k it s.fault.slot.number)) s).overrunDue, false⟩ })) (fun h => by cases h)

/-! ### The closing of flaws while the map has room -/

/-- What stays as flaws are closed in a map with room. -/
structure Calm (s t : State) : Prop where
  mode : t.port.mode = s.port.mode
  fault : t.fault = s.fault
  blind : t.map.blind = s.map.blind
  refused : t.map.refused = s.map.refused
  report : t.report = s.report
  latched : ∀ e, s.latched e = true → t.latched e = true

theorem Calm.refl (s : State) : Calm s s := ⟨rfl, rfl, rfl, rfl, rfl, fun _ => id⟩

theorem Calm.trans {s t u : State} (h : Calm s t) (g : Calm t u) : Calm s u :=
  ⟨g.mode.trans h.mode, g.fault.trans h.fault, g.blind.trans h.blind, g.refused.trans h.refused, g.report.trans h.report,
    fun e he => g.latched e (h.latched e he)⟩

theorem recomputeK_calm (s : State) : Calm s (recomputeK s) ∧ (recomputeK s).map = s.map := by
  obtain ⟨k, p, -, h⟩ := recomputeK_spec s
  rw [h]
  exact ⟨⟨rfl, rfl, rfl, rfl, rfl, fun _ => id⟩, rfl⟩

theorem insertAlone_calm {e : MapEntry} {s : State} (h : s.map.entries.length < 1024) :
    Calm s (insertAlone e s) ∧ (insertAlone e s).map.entries.length = s.map.entries.length + 1 := by
  have hplaced : insertAlone e s = noteHigh (s.modMap (placeEntry e)) := if_pos h
  have hlength : (s.modMap (placeEntry e)).map.entries.length = s.map.entries.length + 1 := insertByKey_length ..
  rw [hplaced]
  unfold noteHigh
  split
  · refine ⟨⟨rfl, rfl, rfl, rfl, rfl, fun f hf => ?_⟩, hlength⟩
    rw [latched_raise]
    exact Bool.or_eq_true_iff.2 (.inl hf)
  · exact ⟨⟨rfl, rfl, rfl, rfl, rfl, fun _ => id⟩, hlength⟩

theorem mapInsert_calm {set : DetectionSet} {i : LaneId} {e : MapEntry} {s : State} (h : s.map.entries.length < 1024) :
    Calm s (mapInsert set i e s) ∧ (mapInsert set i e s).map.entries.length ≤ s.map.entries.length + 1 := by
  unfold mapInsert
  split
  · exact (insertAlone_calm h).imp id le_of_eq
  split
  · refine ⟨⟨rfl, rfl, rfl, rfl, rfl, fun _ => id⟩, (insertByKey_length ..).trans_le ?_⟩
    exact Nat.succ_le_succ (List.length_filter_le ..)
  · exact (insertAlone_calm h).imp id le_of_eq

theorem closeFlaw_calm {set : DetectionSet} {i : LaneId} {cause : CloseCause} {s : State} {f : OpenFlaw}
    (h : s.map.entries.length < 1024) :
    Calm s (closeFlaw set i cause s f) ∧ (closeFlaw set i cause s f).map.entries.length ≤ s.map.entries.length + 1 := by
  unfold closeFlaw
  split
  · exact ⟨.refl s, Nat.le_succ _⟩
  · obtain ⟨hcalm, hlength⟩ := mapInsert_calm (set := set) (i := i) (e := s.closedFlaw set i cause f)
      (s := s.modTable i fun t => { t with flaws := t.flaws.filter fun q => q.id != f.id }) h
    obtain ⟨hk, hmap⟩ := recomputeK_calm (mapInsert set i (s.closedFlaw set i cause f)
      (s.modTable i fun t => { t with flaws := t.flaws.filter fun q => q.id != f.id }))
    refine ⟨Calm.trans ⟨hcalm.mode, hcalm.fault, hcalm.blind, hcalm.refused, hcalm.report, hcalm.latched⟩ hk, ?_⟩
    rw [hmap]
    exact hlength

theorem closeFlaws_calm {set : DetectionSet} {i : LaneId} {cause : CloseCause} (fs : List OpenFlaw) (s : State)
    (h : s.map.entries.length + fs.length ≤ 1024) : Calm s (fs.foldl (closeFlaw set i cause) s) := by
  induction fs generalizing s with
  | nil => exact .refl s
  | cons f fs ih =>
    rw [List.length_cons] at h
    obtain ⟨hcalm, hlength⟩ := closeFlaw_calm (set := set) (i := i) (cause := cause) (s := s) (f := f) (by omega)
    exact hcalm.trans (ih _ (by omega))

theorem dropMarks_calm (i : LaneId) (p : Mark → Bool) (s : State) : Calm s (dropMarks i p s) := by
  unfold dropMarks
  split
  · exact .refl s
  · exact ⟨rfl, rfl, rfl, rfl, rfl, fun _ => id⟩

/-! ### The table of a lane whose flaws are closed -/

/-- While the line goes on inspecting, a flaw that closes leaves its table, and nothing else does. -/
theorem closeFlaw_table {set : DetectionSet} {i : LaneId} {cause : CloseCause} {s : State} {f : OpenFlaw}
    (h : (closeFlaw set i cause s f).port.mode.scanning = true) : (closeFlaw set i cause s f).tracker.tables[i.val] =
      { s.tracker.tables[i.val] with flaws := s.tracker.tables[i.val].flaws.filter fun q => q.id != f.id } := by
  have hm := (closeFlaw_works set i cause s f).toStays.scanning h
  have hrun : ¬ s.mode = .halted := fun hh => by
    rw [show s.port.mode = .halted from hh] at hm
    cases hm
  have hdef : closeFlaw set i cause s f = recomputeK (mapInsert set i (s.closedFlaw set i cause f)
      (s.modTable i fun t => { t with flaws := t.flaws.filter fun q => q.id != f.id })) := if_neg hrun
  rw [hdef] at h ⊢
  have hworks : Works noLane noLane (s.modTable i fun t => { t with flaws := t.flaws.filter fun q => q.id != f.id })
      (recomputeK (mapInsert set i (s.closedFlaw set i cause f)
        (s.modTable i fun t => { t with flaws := t.flaws.filter fun q => q.id != f.id }))) :=
    (mapInsert_works set i _ _).trans (recomputeK_works _)
  exact ((hworks.live h).tables i id).trans (table_modTable_same ..)

theorem closeFlaws_table {set : DetectionSet} {i : LaneId} {cause : CloseCause} (fs : List OpenFlaw) (s : State)
    (h : (fs.foldl (closeFlaw set i cause) s).port.mode.scanning = true) : (fs.foldl (closeFlaw set i cause) s).tracker.tables[i.val] =
      { s.tracker.tables[i.val] with flaws := s.tracker.tables[i.val].flaws.filter fun q => fs.all fun f => q.id != f.id } := by
  induction fs generalizing s with
  | nil => simp
  | cons f fs ih =>
    have hf := (works_foldl (L := noLane) (T := (· = i)) (closeFlaw_works set i cause) fs _).toStays.scanning h
    rw [List.foldl_cons, ih _ h, closeFlaw_table hf, List.filter_filter]
    simp only [List.all_cons, Bool.and_comm]

theorem dropMarks_table {i : LaneId} {p : Mark → Bool} {s : State} (h : s.port.mode.scanning = true) :
    (dropMarks i p s).tracker.tables[i.val] =
      { s.tracker.tables[i.val] with marks := s.tracker.tables[i.val].marks.filter fun m => !p m } := by
  have hdef : dropMarks i p s = s.modTable i fun t => { t with marks := t.marks.filter fun m => !p m } :=
    if_neg fun hh => by
      rw [show s.port.mode = .halted from hh] at h
      cases h
  rw [hdef]
  exact table_modTable_same ..

theorem setFor_noSwitch {s : State} (h : s.tracker.apply = .none) (n : Nat) : s.setFor n = s.tracker.active := by
  rw [State.setFor, h]

/-- R54: in a map with room, and with no switch in progress, a lane's flaws and marks all leave. -/
theorem truncateLane_calm {i : LaneId} {s : State} {d : DetectionSet} (hm : s.port.mode.scanning = true)
    (hroom : s.map.entries.length + s.tracker.tables[i.val].flaws.length ≤ 1024) (happly : s.tracker.apply = .none)
    (hset : s.tracker.active = some d) :
    Calm s (truncateLane i s) ∧ (truncateLane i s).tracker.tables[i.val] = ⟨[], []⟩ := by
  have hdef : truncateLane i s = dropMarks i (fun _ => true) (closeWhere d i .truncated (fun _ => true) s) := by
    simp only [truncateLane, setFor_noSwitch happly, hset]
  have hclosed : Calm s (closeWhere d i .truncated (fun _ => true) s) :=
    closeFlaws_calm _ s (by rw [List.filter_true]; exact hroom)
  have hmc : (closeWhere d i .truncated (fun _ => true) s).port.mode.scanning = true := by rw [hclosed.mode, hm]
  have htable : (closeWhere d i .truncated (fun _ => true) s).tracker.tables[i.val].flaws = [] := by
    rw [closeWhere, List.filter_true] at hmc ⊢
    rw [closeFlaws_table _ s hmc]
    refine List.filter_eq_nil_iff.2 fun q hq hall => ?_
    simpa using List.all_eq_true.1 hall q hq
  rw [hdef]
  refine ⟨hclosed.trans (dropMarks_calm ..), ?_⟩
  rw [dropMarks_table hmc]
  dsimp only
  rw [htable]
  simp

/-! ### A lane that has changed its state -/

/-- What a lane's change of state leaves before its flaws are truncated: `p` is the state with the lane's interval placed. -/
structure Placed (i : LaneId) (st : LaneState) (s p : State) : Prop where
  state : p.lanes[i.val].state = st
  persistence : st.following = false → p.lanes[i.val].persistence = []
  others : ∀ j : LaneId, j ≠ i → p.lanes[j.val] = s.lanes[j.val]
  tracker : p.tracker = s.tracker
  mode : p.port.mode = s.port.mode
  fault : p.fault = s.fault
  entries : p.map.entries = s.map.entries
  refused : p.map.refused = s.map.refused
  changed : p.latched .laneChanged = true
  faults : p.report.shift.laneFaults[i.val] =
    if st = .faulted then min 4294967295 (s.report.shift.laneFaults[i.val] + 1) else s.report.shift.laneFaults[i.val]

/-- The lane with its new state, before its interval is placed. -/
structure Entered (i : LaneId) (st : LaneState) (s e : State) : Prop extends Placed i st s e where
  interval : e.lanes[i.val].interval = s.lanes[i.val].interval
  owned : e.lanes[i.val].owned = s.lanes[i.val].owned
  expected : e.lanes[i.val].expected = s.lanes[i.val].expected
  acceptance : e.lanes[i.val].acceptance = s.lanes[i.val].acceptance
  pos : e.pos = s.pos
  blind : e.map.blind = s.map.blind
  nextId : e.map.nextId = s.map.nextId

theorem enterState_entered {i : LaneId} {st : LaneState} {s : State} (h : st ≠ s.lanes[i.val].state) : Entered i st s (enterState i st s) := by
  have hlanes : (enterState i st s).lanes = (s.modLane i fun l =>
      { l with state := st, persistence := if st.following then l.persistence else [] }).lanes := by
    rw [enterState_eq (Ne.symm h)]
    unfold noteFaulted
    split <;> rfl
  have hlane := lane_modLane_same i (fun l => { l with state := st, persistence := if st.following then l.persistence else [] }) s
  have hother := fun j => lane_modLane_other i j (fun l => { l with state := st, persistence := if st.following then l.persistence else [] }) s
  rw [State.lane, ← hlanes] at hlane
  refine ⟨⟨congrArg Lane.state hlane, fun hf => ?_, fun j hj => ?_, ?_, ?_, ?_, ?_, ?_, ?_, ?_⟩, (congrArg Lane.interval hlane :),
    (congrArg Lane.owned hlane :), (congrArg Lane.expected hlane :), (congrArg Lane.acceptance hlane :), ?_, ?_, ?_⟩
  · rw [hlane]
    exact if_neg (by simp [hf])
  · rw [hlanes]
    exact hother j hj
  all_goals
    rw [enterState_eq (Ne.symm h)]
    unfold noteFaulted
  · split <;> rfl
  · split <;> rfl
  · split <;> rfl
  · split <;> rfl
  · split <;> rfl
  · have hraised : ∀ t : State, (raise .laneChanged t).latched .laneChanged = true := fun t => by rw [latched_raise]; simp
    split <;> exact hraised _
  · by_cases hst : st = .faulted
    · rw [if_pos hst, if_pos hst]
      exact Vector.getElem_set_self ..
    · rw [if_neg hst, if_neg hst]
      rfl
  · split <;> rfl
  · split <;> rfl
  · split <;> rfl

theorem Entered.netSpan {i : LaneId} {st : LaneState} {s e : State} (h : Entered i st s e) : e.netSpan i = s.netSpan i := by
  have howned : (e.lane i).owned = (s.lane i).owned := h.owned
  have hgeo : e.geo = s.geo := congrArg Position.geometry h.pos
  unfold State.netSpan
  rw [howned, hgeo]

theorem Entered.horizon {i : LaneId} {st : LaneState} {s e : State} (h : Entered i st s e) : e.horizon i = s.horizon i := by
  simp only [State.horizon, State.lane, State.geo, h.expected, h.acceptance, h.pos]

theorem netSpan_meets {s : State} {i : LaneId} {o : Span} (ho : s.lanes[i.val].owned = some o)
    (h : max o.start s.pos.geometry.xL < min o.stop s.pos.geometry.xR) :
    s.netSpan i = some ⟨max o.start s.pos.geometry.xL, min o.stop s.pos.geometry.xR⟩ := by
  simp only [State.netSpan, State.lane, ho]
  exact if_pos h

theorem netSpan_none {s : State} {i : LaneId}
    (h : ∀ o, s.lanes[i.val].owned = some o → ¬ max o.start s.pos.geometry.xL < min o.stop s.pos.geometry.xR) : s.netSpan i = none := by
  cases ho : s.lanes[i.val].owned with
  | none => simp only [State.netSpan, State.lane, ho]
  | some o =>
    simp only [State.netSpan, State.lane, ho]
    exact if_neg (h o ho)

section
variable {i : LaneId} {st : LaneState} {s : State} {d : DetectionSet}

/-- R54, R58: what is left once the flaws of the lane have been truncated, if they are. -/
theorem laneTo_left {p : State} (hp : Placed i st s p) (hm : s.port.mode.scanning = true) (hactive : st ≠ .active)
    (hfollow : s.lanes[i.val].state.following = true) (hne : st ≠ s.lanes[i.val].state)
    (hdef : placeInterval i s.lanes[i.val].state (enterState i st s) = p)
    (hroom : s.map.entries.length + s.tracker.tables[i.val].flaws.length ≤ 1024) (happly : s.tracker.apply = .none)
    (hset : s.tracker.active = some d) :
    (((laneTo i st s).lanes[i.val].state = st ∧ (laneTo i st s).latched .laneChanged = true ∧
      (laneTo i st s).port.mode = s.port.mode ∧ (laneTo i st s).fault = s.fault ∧
      s.tracker.frontier ≤ (laneTo i st s).tracker.frontier ∧
      (∀ j : LaneId, j ≠ i → (laneTo i st s).lanes[j.val] = s.lanes[j.val] ∧
        (laneTo i st s).tracker.tables[j.val] = s.tracker.tables[j.val]) ∧
      (st = .crowded → (laneTo i st s).tracker = s.tracker ∧ (laneTo i st s).map.entries = s.map.entries) ∧
      (st ≠ .crowded → (laneTo i st s).tracker.tables[i.val] = ⟨[], []⟩ ∧ (laneTo i st s).lanes[i.val].persistence = [] ∧
        (laneTo i st s).map.refused = s.map.refused) ∧
      (laneTo i st s).report.shift.laneFaults[i.val] = if st = .faulted then min 4294967295 (s.report.shift.laneFaults[i.val] + 1)
        else s.report.shift.laneFaults[i.val]) ∧
      (laneTo i st s).lanes[i.val].interval = p.lanes[i.val].interval ∧ (laneTo i st s).map.blind = p.map.blind ∧
      ∀ e, p.latched e = true → (laneTo i st s).latched e = true) := by
  by_cases hcrowded : st = .crowded
  · subst hcrowded
    have ht : laneTo i .crowded s = p := by
      rw [laneTo_eq, if_neg (by simp [LaneState.following])]
      exact hdef
    rw [ht]
    exact ⟨⟨hp.state, hp.changed, hp.mode, hp.fault, by rw [hp.tracker], fun j hj => ⟨hp.others j hj, by rw [hp.tracker]⟩,
      fun _ => ⟨hp.tracker, hp.entries⟩, fun h => absurd rfl h, hp.faults⟩, rfl, rfl, fun _ => id⟩
  · have hleft : st.following = false := Bool.eq_false_iff.2 fun h => ((following_iff st).1 h).elim hactive hcrowded
    have ht : laneTo i st s = recomputeK (truncateLane i p) := by
      rw [laneTo_eq, if_pos (by rw [hleft]; exact (Bool.and_true _).trans hfollow)]
      exact congrArg (fun p => recomputeK (truncateLane i p)) hdef
    obtain ⟨hcalm, htable⟩ := truncateLane_calm (i := i) (s := p) (d := d) (by rw [hp.mode, hm]) (by rw [hp.entries, hp.tracker]; exact hroom)
      (by rw [hp.tracker, happly]) (by rw [hp.tracker, hset])
    have hwhole := hcalm.trans (recomputeK_calm _).1
    have hworks : Works noLane (· = i) p (recomputeK (truncateLane i p)) := (truncateLane_works i p).trans (recomputeK_works _).wider
    have hmt : (recomputeK (truncateLane i p)).port.mode.scanning = true := by rw [hwhole.mode, hp.mode, hm]
    have hlive := hworks.live hmt
    have hcleared : (recomputeK (truncateLane i p)).tracker.tables[i.val] = ⟨[], []⟩ :=
      (((recomputeK_works _).live hmt).tables i id).trans htable
    rw [ht]
    refine ⟨⟨?_, hwhole.latched _ hp.changed, hwhole.mode.trans hp.mode, hwhole.fault.trans hp.fault, ?_, fun j hj => ⟨?_, ?_⟩,
      fun h => absurd h hcrowded, fun _ => ⟨hcleared, ?_, hwhole.refused.trans hp.refused⟩, ?_⟩, ?_, hwhole.blind, hwhole.latched⟩
    · rw [hlive.lanes i id]
      exact hp.state
    · rw [← hp.tracker]
      exact hlive.frontier
    · rw [hlive.lanes j id]
      exact hp.others j hj
    · rw [hlive.tables j hj, hp.tracker]
    · rw [hlive.lanes i id]
      exact hp.persistence hleft
    · rw [hwhole.report]
      exact hp.faults
    · rw [hlive.lanes i id]

end

/-! ### The interval a lane asks for -/

theorem openLaneInterval_none {i : LaneId} {label : Nat} {s : State} (h : s.netSpan i = none) : openLaneInterval i label s = s := by
  rw [openLaneInterval, h]

theorem openLaneInterval_room {i : LaneId} {label : Nat} {s : State} {x : Span} (h : s.netSpan i = some x) (hfree : s.map.blind.length < 64) :
    openLaneInterval i label s = enterInterval (s.lane i).state.reason (some i) x.start x.stop label
      (s.modLane i fun l => { l with interval := some s.map.nextId }) := by
  have hroom : s.blindFull = false := decide_eq_false (Nat.not_le.2 hfree)
  simp only [openLaneInterval, h, hroom, Bool.false_eq_true, if_false]
  exact if_neg (Bool.eq_false_iff.1 hroom)

theorem openLaneInterval_full {i : LaneId} {label : Nat} {s : State} {x : Span} (h : s.netSpan i = some x) (hfull : 64 ≤ s.map.blind.length) :
    openLaneInterval i label s = report2 .blindListFull { s.here with lane := some i } (s.modLane i fun l => { l with interval := none }) := by
  have hroom : s.blindFull = true := decide_eq_true hfull
  simp only [openLaneInterval, h, hroom, if_true]
  exact if_pos hroom

section
variable {i : LaneId} {st : LaneState} {s e : State}

theorem Placed.modLane (h : Placed i st s e) (v : Option Nat) : Placed i st s (e.modLane i fun l => { l with interval := v }) := by
  have hlane := lane_modLane_same i (fun l => { l with interval := v }) e
  refine ⟨(congrArg Lane.state hlane :).trans h.state, fun hf => (congrArg Lane.persistence hlane :).trans (h.persistence hf), fun j hj => ?_,
    h.tracker, h.mode, h.fault, h.entries, h.refused, h.changed, h.faults⟩
  exact (lane_modLane_other i j (fun l => { l with interval := v }) e hj :).trans (h.others j hj)

theorem Placed.enterInterval (h : Placed i st s e) (r : BlindReason) (lane : Option LaneId) (a b y : Nat) :
    Placed i st s (enterInterval r lane a b y e) :=
  ⟨h.state, h.persistence, h.others, h.tracker, h.mode, h.fault, h.entries, h.refused,
    (latched_raise ..).trans (Bool.or_eq_true_iff.2 (.inl h.changed)), h.faults⟩

theorem Placed.rename (h : Placed i st s e) : Placed i st s (renameLaneInterval i e) := by
  rw [renameLaneInterval_eq]
  exact ⟨h.state, h.persistence, h.others, h.tracker, h.mode, h.fault, h.entries, h.refused, h.changed, h.faults⟩

end

theorem closeFlaws_halted {set : DetectionSet} {i : LaneId} {cause : CloseCause} {s : State} (hm : s.port.mode = .halted)
    (fs : List OpenFlaw) : fs.foldl (closeFlaw set i cause) s = s := by
  induction fs with
  | nil => rfl
  | cons f fs ih => rw [List.foldl_cons, show closeFlaw set i cause s f = s from if_pos hm, ih]

theorem truncateLane_halted {i : LaneId} {s : State} (hm : s.port.mode = .halted) : truncateLane i s = s := by
  unfold truncateLane
  split
  · rfl
  · rw [closeWhere, closeFlaws_halted hm]
    exact if_pos hm

theorem recomputeK_halted {s : State} (hm : s.port.mode = .halted) : recomputeK s = s := recomputeK_idle (by rw [hm]; rfl)

/-- A lane whose interval finds the list full: the line halts, and its flaws are held. -/
theorem laneTo_halted {i : LaneId} {st : LaneState} {s p : State} (hm : p.port.mode = .halted)
    (hdef : placeInterval i s.lanes[i.val].state (enterState i st s) = p) : laneTo i st s = p := by
  rw [laneTo_eq, show placeInterval i (s.lane i).state (enterState i st s) = p from hdef, truncateLane_halted hm, recomputeK_halted hm, ite_self]

/-- Settles O22. -/
theorem leavingActiveOpensAnInterval : Obligations.LeavingActiveOpensAnInterval := by
  intro s i st d hm hactive hne happly hset t reason from_ meets room left
  have he := enterState_entered (i := i) (st := st) (s := s) hne
  have hreason : st.reason = reason := by cases st <;> rfl
  have hplace (hst : s.lanes[i.val].state = .active) : placeInterval i s.lanes[i.val].state (enterState i st s) =
      openLaneInterval i from_ (enterState i st s) := by
    rw [placeInterval, if_pos hst, he.horizon]
    rfl
  refine ⟨fun hst hroom => ⟨fun o ho hmeets hfree => ?_, fun hnone => ?_⟩, fun hst o ho hmeets hfull hslot => ?_, fun hst hroom => ?_⟩
  · have hdef := (hplace hst).trans (openLaneInterval_room (he.netSpan.trans (netSpan_meets ho hmeets)) (by rw [he.blind]; exact hfree))
    obtain ⟨hleft, hinterval, hblind, hlatched⟩ := laneTo_left ((he.toPlaced.modLane _).enterInterval _ _ _ _ _) hm hactive
      (by rw [hst]; rfl) hne hdef hroom happly hset
    refine ⟨hleft, hinterval.trans ?_, hlatched _ ?_, hblind.trans ?_⟩
    · exact (congrArg Lane.interval (lane_modLane_same i (fun l => { l with interval := some (enterState i st s).map.nextId }) _) :).trans
        (congrArg some he.nextId)
    · exact (latched_raise ..).trans (by simp)
    · change insertByKey Interval.yStart ⟨(enterState i st s).map.nextId, ((enterState i st s).lanes[i.val]).state.reason, some i, _, _, _, none, 0⟩
        (enterState i st s).map.blind = _
      rw [he.nextId, he.state, hreason, he.blind]
  · have hdef := (hplace hst).trans (openLaneInterval_none (he.netSpan.trans (netSpan_none hnone)))
    obtain ⟨hleft, hinterval, hblind, -⟩ := laneTo_left he.toPlaced hm hactive (by rw [hst]; rfl) hne hdef hroom happly hset
    exact ⟨hleft, hinterval.trans he.interval, hblind.trans he.blind⟩
  · have hdef := (hplace hst).trans (openLaneInterval_full (he.netSpan.trans (netSpan_meets ho hmeets)) (by rw [he.blind]; exact hfull))
    have hv := he.toPlaced.modLane none
    have hvblind : ((enterState i st s).modLane i fun l => { l with interval := none }).map.blind = s.map.blind := he.blind
    have hvinterval := (congrArg Lane.interval (lane_modLane_same i (fun l => { l with interval := none }) (enterState i st s)) :)
    have hy : (enterState i st s).here.y = s.pos.y := congrArg Position.y he.pos
    generalize ((enterState i st s).modLane i fun l => { l with interval := none }) = v at hdef hv hvblind hvinterval
    rw [report2_scanning _ _ v (by rw [hv.fault]; exact hslot) (by rw [hv.mode]; exact hm)] at hdef
    have hhalt := captureHalt_halted .blindListFull { (enterState i st s).here with lane := some i } v
    have hfrom := captureHalt_map .blindListFull { (enterState i st s).here with lane := some i } v
    have ht : t = _ := laneTo_halted hhalt.mode hdef
    rw [ht]
    generalize captureHalt .blindListFull { (enterState i st s).here with lane := some i } v = u at hhalt hfrom
    have hlanes : u.lanes = v.lanes := hhalt.lanes
    refine ⟨by rw [hlanes]; exact hv.state, by rw [hlanes]; exact hvinterval, hhalt.latched _ ?_, hhalt.mode, ?_, ?_, _, hhalt.slot, rfl, rfl, hy⟩
    · exact (latched_raise ..).trans (Bool.or_eq_true_iff.2 (.inl hv.changed))
    · rw [hhalt.tracker]
      exact hv.tracker
    · intro b hb
      obtain ⟨q, hq, hid, -⟩ := hfrom.blind b hb
      exact ⟨q, hvblind ▸ hq, hid⟩
  · have hdef : placeInterval i s.lanes[i.val].state (enterState i st s) = renameLaneInterval i (enterState i st s) := by
      rw [placeInterval, if_neg (by rw [hst]; decide)]
    obtain ⟨hleft, hinterval, hblind, -⟩ := laneTo_left he.toPlaced.rename hm hactive (by rw [hst]; rfl) hne hdef hroom happly hset
    rw [renameLaneInterval_eq] at hinterval hblind
    refine ⟨hleft, hinterval.trans he.interval, hblind.trans ?_⟩
    change renamedTo (enterState i st s).lanes[i.val].state.reason (enterState i st s).lanes[i.val].interval (enterState i st s).map.blind = _
    rw [he.state, he.interval, he.blind, hreason]
    rfl

end Sys2Proof.Machine
end

section
/-!
The Tracker's work for a line (R51, R52) and what a closed flaw carries (R54 to R57).
-/

namespace Sys2Proof.Machine

/-! ### The table of a lane through the work for a line -/

theorem filter_distinct_ids {xs : List OpenFlaw} (h : (xs.map OpenFlaw.id).Nodup) (p : OpenFlaw → Bool) :
    (xs.filter fun q => (xs.filter p).all fun f => q.id != f.id) = xs.filter fun q => !p q := by
  refine List.filter_congr fun q hq => Bool.eq_iff_iff.2 ?_
  rw [List.all_eq_true, Bool.not_eq_true']
  refine ⟨fun hall => Bool.eq_false_iff.2 fun hp => ?_, fun hp f hf => bne_iff_ne.2 fun hid => ?_⟩
  · simpa using hall q (List.mem_filter.2 ⟨hq, hp⟩)
  · obtain ⟨hf, hpf⟩ := List.mem_filter.1 hf
    have hqf : q = f := List.inj_on_of_nodup_map h hq hf hid
    rw [hqf, hpf] at hp
    cases hp

theorem closeWhere_table {set : DetectionSet} {i : LaneId} {cause : CloseCause} {p : OpenFlaw → Bool} {s : State}
    (hids : (s.tracker.tables[i.val].flaws.map OpenFlaw.id).Nodup) (h : (closeWhere set i cause p s).port.mode.scanning = true) :
    (closeWhere set i cause p s).tracker.tables[i.val] =
      { s.tracker.tables[i.val] with flaws := s.tracker.tables[i.val].flaws.filter fun f => !p f } := by
  rw [← filter_distinct_ids hids p]
  exact closeFlaws_table _ s h

/-- The mark that a flaw which reached F_max leaves. -/
def OpenFlaw.mark (f : OpenFlaw) : Mark := ⟨f.id, f.lastLine, f.seenFirst, f.seenLast⟩

theorem continueFlaw_table {set : DetectionSet} {i : LaneId} {s : State} {f : OpenFlaw}
    (h : (continueFlaw set i s f).port.mode.scanning = true) : (continueFlaw set i s f).tracker.tables[i.val] =
      ⟨s.tracker.tables[i.val].flaws.filter fun q => q.id != f.id, addMark f.mark s.tracker.tables[i.val].marks⟩ := by
  have hm := (continueFlaw_works set i s f).toStays.scanning h
  have hrun : ¬ s.mode = .halted := fun hh => by
    rw [show s.port.mode = .halted from hh] at hm
    cases hm
  have hdef : continueFlaw set i s f = (closeFlaw set i .length s f).modTable i fun t => { t with marks := addMark f.mark t.marks } :=
    if_neg hrun
  rw [hdef] at h ⊢
  refine (table_modTable_same ..).trans ?_
  rw [State.table, closeFlaw_table h]

theorem continueFlaws_table {set : DetectionSet} {i : LaneId} (fs : List OpenFlaw) (s : State)
    (h : (fs.foldl (continueFlaw set i) s).port.mode.scanning = true) : (fs.foldl (continueFlaw set i) s).tracker.tables[i.val] =
      ⟨s.tracker.tables[i.val].flaws.filter fun q => fs.all fun f => q.id != f.id,
        (fs.map OpenFlaw.mark).foldl (fun ms m => addMark m ms) s.tracker.tables[i.val].marks⟩ := by
  induction fs generalizing s with
  | nil => simp
  | cons f fs ih =>
    have hf := (works_foldl (L := noLane) (T := (· = i)) (continueFlaw_works set i) fs _).toStays.scanning h
    rw [List.foldl_cons, ih _ h, continueFlaw_table hf, List.filter_filter]
    simp only [List.all_cons, Bool.and_comm, List.map_cons, List.foldl_cons]

theorem addMarks_length (xs ms : List Mark) (h : ms.length ≤ 32) : (xs.foldl (fun ms m => addMark m ms) ms).length ≤ 32 := by
  induction xs generalizing ms with
  | nil => exact h
  | cons m xs ih => exact ih _ (addMark_length m ms h)

theorem Works.allLanes {T : LaneId → Prop} {s t : State} (h : Works noLane T s t) (ht : t.port.mode.scanning = true) : t.lanes = s.lanes :=
  Vector.ext fun k hk => (h.live ht).lanes ⟨k, hk⟩ id

/-! ### What a closed flaw carries -/

theorem onlyOblique_iff (v : Views) : v.onlyOblique = true ↔ v = ⟨false, false, true⟩ := by
  obtain ⟨a, b, c⟩ := v
  revert a b c
  decide

theorem elongated_iff (aspect a b : Nat) : elongated aspect a b = true ↔ aspect * min a b ≤ max a b := decide_eq_true_iff

theorem classify_cases (set : DetectionSet) (f : OpenFlaw) (along across : Nat) :
    (f.views = ⟨false, false, true⟩ → classify set f along across = .surface) ∧
    (f.views ≠ ⟨false, false, true⟩ → set.aspect * min along across ≤ max along across → classify set f along across = .linear) ∧
    (f.views ≠ ⟨false, false, true⟩ → ¬ set.aspect * min along across ≤ max along across → f.darkInBright = true ∧ set.stone ≤ f.peak →
      classify set f along across = .stone) ∧
    (f.views ≠ ⟨false, false, true⟩ → ¬ set.aspect * min along across ≤ max along across → ¬ (f.darkInBright = true ∧ set.stone ≤ f.peak) →
      classify set f along across = .bubble) := by
  simp only [← onlyOblique_iff, ← elongated_iff, ne_eq]
  unfold classify
  exact ⟨fun h => if_pos h, fun h1 h2 => (if_neg h1).trans (if_pos h2), fun h1 h2 h3 => (if_neg h1).trans ((if_neg h2).trans (if_pos h3)),
    fun h1 h2 h3 => (if_neg h1).trans ((if_neg h2).trans (if_neg h3))⟩

/-! ### O31 -/

/-- R51, R52 with the set `d` in force: the table of the lane and what else the work leaves. -/
theorem trackerWork_table {n : Nat} {i : LaneId} {s : State} {d : DetectionSet} (happly : s.tracker.apply = .none)
    (hset : s.tracker.active = some d) (hids : (s.tracker.tables[i.val].flaws.map OpenFlaw.id).Nodup)
    (h : (trackerWork n i s).port.mode.scanning = true) :
    Works noLane (· = i) s (trackerWork n i s) ∧ (trackerWork n i s).tracker.tables[i.val] =
      ⟨(s.tracker.tables[i.val].flaws.filter fun f => !decide (f.lastLine + d.gap < n)).filter fun f => !f.long d s.pos.geometry.pitch,
        (((s.tracker.tables[i.val].flaws.filter fun f => !decide (f.lastLine + d.gap < n)).filter fun f =>
          f.long d s.pos.geometry.pitch).map OpenFlaw.mark).foldl
            (fun ms m => addMark m ms) (s.tracker.tables[i.val].marks.filter fun m => !decide (m.lastLine + d.gap < n))⟩ := by
  have hfor : s.setFor n = some d := (setFor_noSwitch happly n).trans hset
  have hgap := closeWhere_works d i .gap (fun f => decide (f.lastLine + d.gap < n)) s
  have hgone := closeWhere_table (set := d) (i := i) (cause := .gap) (p := fun f => decide (f.lastLine + d.gap < n)) hids
  generalize hs1 : closeWhere d i .gap (fun f => decide (f.lastLine + d.gap < n)) s = s1 at hgap hgone
  have hmarks := dropMarks_works i (fun m => decide (m.lastLine + d.gap < n)) s1
  have hdropped := dropMarks_table (i := i) (p := fun m => decide (m.lastLine + d.gap < n)) (s := s1)
  generalize hs2 : dropMarks i (fun m => decide (m.lastLine + d.gap < n)) s1 = s2 at hmarks hdropped
  have hlong : Works noLane (· = i) s2 (lengthCheck d i s2) := lengthCheck_works d i s2
  have hline : lineWork d n i s = recomputeK (lengthCheck d i s2) := by rw [← hs2, ← hs1]; rfl
  have hend : Works noLane noLane (lengthCheck d i s2) (trackerWork n i s) := by
    rw [trackerWork_eq hfor, hline]
    split
    · exact recomputeK_works _
    · exact (recomputeK_works _).trans (noteMapFullEnd_works n _)
  have hm3 := hend.toStays.scanning h
  have hm2 := hlong.toStays.scanning hm3
  have hm1 := hmarks.toStays.scanning hm2
  have hpitch : s2.pos = s.pos := (hgap.trans hmarks).livePos hm2
  refine ⟨((hgap.trans hmarks).trans hlong).trans hend.wider, ((hend.live h).tables i id).trans ?_⟩
  have htable2 := hdropped hm1
  rw [hgone hm1] at htable2
  have hids2 : (s2.tracker.tables[i.val].flaws.map OpenFlaw.id).Nodup := by
    rw [htable2]
    exact hids.sublist (List.filter_sublist.map _)
  refine (continueFlaws_table _ s2 hm3).trans ?_
  rw [show s2.geo.pitch = s.pos.geometry.pitch by rw [State.geo, hpitch], State.table, filter_distinct_ids hids2, htable2]

/-- Settles O31. -/
theorem trackerWorkForALine : Obligations.TrackerWorkForALine := by
  constructor
  · intro n i s d hm happly hset hids ht long
    obtain ⟨hworks, htable⟩ := trackerWork_table happly hset hids ht
    have hstay (f : OpenFlaw) : (!f.long d s.pos.geometry.pitch && !decide (f.lastLine + d.gap < n)) =
        decide (n ≤ f.lastLine + d.gap ∧ ¬ long f) := by
      simp only [OpenFlaw.long, long, Bool.decide_and, decide_not, Bool.and_comm, ← Nat.not_lt]
    have hmark (f : OpenFlaw) : (f.long d s.pos.geometry.pitch && !decide (f.lastLine + d.gap < n)) =
        decide (n ≤ f.lastLine + d.gap ∧ long f) := by
      simp only [OpenFlaw.long, long, Bool.decide_and, decide_not, Bool.and_comm, ← Nat.not_lt]
    have hmarks (m : Mark) : (!decide (m.lastLine + d.gap < n)) = decide (n ≤ m.lastLine + d.gap) := by
      rw [← decide_not, decide_eq_decide, Nat.not_lt]
    simp only [List.filter_filter, hstay, hmark, hmarks] at htable
    rw [htable]
    exact ⟨rfl, rfl, fun hlen => addMarks_length _ _ ((List.length_filter_le ..).trans hlen), (hworks.live ht).tables,
      hworks.allLanes ht, (hworks.live ht).frontier⟩
  · intro set i cause s f g e along across surface linear stone
    obtain ⟨hsurface, hlinear, hstone, hbubble⟩ := classify_cases set f along across
    have hacross : g.columnStart (f.lastCol + 1) - g.columnStart f.firstCol = across := Nat.add_sub_add_left ..
    have hcls : e.cls = if cause = .suspect then .linear else classify set f along across := by
      rw [← hacross]
      rfl
    refine ⟨rfl, rfl, rfl, rfl, rfl, rfl, congrArg (max along) hacross, rfl, rfl, rfl, rfl, rfl, fun hc => hcls.trans (if_pos hc), fun hc => ?_,
      fun hm => if_neg hm⟩
    rw [hcls, if_neg hc]
    exact ⟨hsurface, hlinear, hstone, hbubble⟩

end Sys2Proof.Machine
end

section
/-!
The end of a map-full condition (R76, R77): how it is noted, and MAP FULL END.
-/

namespace Sys2Proof.Machine

/-! ### The set in force -/

theorem setFor_some {s : State} {n : Nat} {set now : DetectionSet} (h : InForce s n set now) : ∃ d, s.setFor n = some d := by
  obtain ⟨hactive, hout, -⟩ := h
  unfold State.setFor
  split
  · exact ⟨now, hactive⟩
  · split
    · exact ⟨_, rfl⟩
    · exact ⟨now, hactive⟩
  · rename_i l happly
    split
    · rename_i hlt
      exact ⟨set, hout l happly hlt⟩
    · exact ⟨now, hactive⟩

/-! ### The condition through the work for a line -/

/-- No end of the condition is noted, and its room mark stays while the line goes on inspecting. -/
structure Unended (s t : State) : Prop extends Stays s t where
  fullEnd : s.map.fullEnd = none → t.map.fullEnd = none
  room : t.port.mode.scanning = true → t.map.room = s.map.room

theorem Unended.refl (s : State) : Unended s s := { Stays.refl s with fullEnd := id, room := fun _ => rfl }

theorem Unended.trans {s t u : State} (h : Unended s t) (g : Unended t u) : Unended s u :=
  { h.toStays.trans g.toStays with
    fullEnd := fun hs => g.fullEnd (h.fullEnd hs)
    room := fun hu => (g.room hu).trans (h.room (g.toStays.scanning hu)) }

theorem unended_foldl {α : Type} {f : State → α → State} (h : ∀ s x, Unended s (f s x)) (xs : List α) (s : State) :
    Unended s (xs.foldl f s) := by
  induction xs generalizing s with
  | nil => exact .refl s
  | cons x xs ih => exact (h s x).trans (ih _)

theorem report2_unended (k : FaultKind) (it : ReportItems) (s : State) : Unended s (report2 k it s) where
  toStays := report2_stays k it s
  room h := by simp [report2_notScanning] at h
  fullEnd h := by
    rcases report2_cases k it s with ⟨f, hr⟩ | ⟨-, hr⟩ | ⟨-, f, v, hr⟩
    · rw [hr, State.modFault_map, (lineReset_lineResetOf _).map]
      rfl
    · rw [hr, (captureHalt_map k it s).fullEnd, h]
    · rw [hr]
      exact h

theorem openInterval_unended (r : BlindReason) (lane : Option LaneId) (a b y : Nat) (s : State) :
    Unended s (openInterval r lane a b y s) := by
  unfold openInterval
  split
  · exact report2_unended ..
  · exact ⟨⟨⟨_, _, rfl⟩, rfl, rfl, fun _ => rfl, fun _ => rfl⟩, id, fun _ => rfl⟩

theorem insertAlone_unended (e : MapEntry) (s : State) : Unended s (insertAlone e s) := by
  refine { (insertAlone_works (L := noLane) (T := noLane) e s).toStays with fullEnd := ?_, room := ?_ }
  all_goals
    unfold insertAlone
    split
  · unfold noteHigh
    split <;> exact id
  · unfold refuseFlaw coverRefused
    dsimp only
    split
    · exact fun _ => (openInterval_unended ..).fullEnd rfl
    split <;> exact fun _ => rfl
  · unfold noteHigh
    split <;> exact fun _ => rfl
  · unfold refuseFlaw coverRefused
    dsimp only
    split
    · exact fun h => ((openInterval_unended ..).room h).trans rfl
    split <;> exact fun _ => rfl

theorem mapInsert_unended (set : DetectionSet) (i : LaneId) (e : MapEntry) (s : State) : Unended s (mapInsert set i e s) := by
  unfold mapInsert
  split
  · exact insertAlone_unended ..
  split
  · exact ⟨⟨⟨_, _, rfl⟩, rfl, rfl, fun _ => rfl, fun _ => rfl⟩, id, fun _ => rfl⟩
  · exact insertAlone_unended ..

theorem recomputeK_unended (s : State) : Unended s (recomputeK s) :=
  { (recomputeK_works s).toStays with
    fullEnd := fun h => by rw [(recomputeK_calm s).2]; exact h
    room := fun _ => by rw [(recomputeK_calm s).2] }

theorem modTable_unended (i : LaneId) (g : FlawTable → FlawTable) (s : State) : Unended s (s.modTable i g) :=
  { (modTable_works i g s).toStays with fullEnd := id, room := fun _ => rfl }

theorem closeFlaw_unended (set : DetectionSet) (i : LaneId) (cause : CloseCause) (s : State) (f : OpenFlaw) :
    Unended s (closeFlaw set i cause s f) := by
  unfold closeFlaw
  split
  · exact .refl s
  · exact ((modTable_unended ..).trans (mapInsert_unended ..)).trans (recomputeK_unended _)

theorem continueFlaw_unended (set : DetectionSet) (i : LaneId) (s : State) (f : OpenFlaw) : Unended s (continueFlaw set i s f) := by
  unfold continueFlaw
  split
  · exact .refl s
  · exact (closeFlaw_unended ..).trans (modTable_unended ..)

theorem dropMarks_unended (i : LaneId) (p : Mark → Bool) (s : State) : Unended s (dropMarks i p s) := by
  unfold dropMarks
  split
  · exact .refl s
  · exact modTable_unended ..

theorem lineWork_unended (set : DetectionSet) (n : Nat) (i : LaneId) (s : State) : Unended s (lineWork set n i s) :=
  (((unended_foldl (closeFlaw_unended set i .gap) _ s).trans (dropMarks_unended ..)).trans
    (unended_foldl (continueFlaw_unended set i) _ _)).trans (recomputeK_unended _)

/-! ### A noted end while the map has room -/

theorem insertAlone_fullEnd {e : MapEntry} {s : State} (h : s.map.entries.length < 1024) : (insertAlone e s).map.fullEnd = s.map.fullEnd := by
  rw [show insertAlone e s = noteHigh (s.modMap (placeEntry e)) from if_pos h]
  unfold noteHigh
  split <;> rfl

theorem closeFlaw_fullEnd {set : DetectionSet} {i : LaneId} {cause : CloseCause} {s : State} {f : OpenFlaw}
    (h : s.map.entries.length < 1024) : (closeFlaw set i cause s f).map.fullEnd = s.map.fullEnd := by
  unfold closeFlaw
  split
  · rfl
  · rw [(recomputeK_calm _).2]
    unfold mapInsert
    split
    · exact insertAlone_fullEnd h
    split
    · rfl
    · exact insertAlone_fullEnd h

/-- A fold of closes, with room for each, keeps the noted end. -/
theorem closes_fullEnd {f : State → OpenFlaw → State}
    (hf : ∀ s x, s.map.entries.length < 1024 → (f s x).map.fullEnd = s.map.fullEnd ∧ (f s x).map.entries.length ≤ s.map.entries.length + 1)
    (xs : List OpenFlaw) (s : State) (h : s.map.entries.length + xs.length ≤ 1024) :
    (xs.foldl f s).map.fullEnd = s.map.fullEnd ∧ (xs.foldl f s).map.entries.length ≤ s.map.entries.length + xs.length := by
  induction xs generalizing s with
  | nil => exact ⟨rfl, le_rfl⟩
  | cons x xs ih =>
    rw [List.length_cons] at h ⊢
    obtain ⟨hend, hlen⟩ := hf s x (by omega)
    obtain ⟨hend', hlen'⟩ := ih (f s x) (by omega)
    exact ⟨hend'.trans hend, by rw [List.foldl_cons]; omega⟩

theorem continueFlaw_fullEnd {set : DetectionSet} {i : LaneId} {s : State} {f : OpenFlaw} (h : s.map.entries.length < 1024) :
    (continueFlaw set i s f).map.fullEnd = s.map.fullEnd ∧ (continueFlaw set i s f).map.entries.length ≤ s.map.entries.length + 1 := by
  unfold continueFlaw
  split
  · exact ⟨rfl, Nat.le_succ _⟩
  · exact ⟨closeFlaw_fullEnd h, (closeFlaw_calm h).2⟩

theorem mapInsert_tables {set : DetectionSet} {i : LaneId} {e : MapEntry} {s : State} (h : s.map.entries.length < 1024) :
    (mapInsert set i e s).tracker = s.tracker := by
  have halone : ∀ e : MapEntry, (insertAlone e s).tracker = s.tracker := fun e => by
    rw [show insertAlone e s = noteHigh (s.modMap (placeEntry e)) from if_pos h]
    unfold noteHigh
    split <;> rfl
  unfold mapInsert
  split
  · exact halone _
  split
  · rfl
  · exact halone _

/-- In a map with room a closed flaw leaves its table, in any mode but HALTED. -/
theorem closeFlaw_flaws {set : DetectionSet} {i : LaneId} {cause : CloseCause} {s : State} {f : OpenFlaw} (hm : s.port.mode ≠ .halted)
    (h : s.map.entries.length < 1024) : (closeFlaw set i cause s f).tracker.tables[i.val].flaws =
      s.tracker.tables[i.val].flaws.filter fun q => q.id != f.id := by
  rw [show closeFlaw set i cause s f = recomputeK (mapInsert set i (s.closedFlaw set i cause f)
    (s.modTable i fun t => { t with flaws := t.flaws.filter fun q => q.id != f.id })) from if_neg hm]
  obtain ⟨k, p, -, hk⟩ := recomputeK_spec (mapInsert set i (s.closedFlaw set i cause f)
    (s.modTable i fun t => { t with flaws := t.flaws.filter fun q => q.id != f.id }))
  have htracker := mapInsert_tables (set := set) (i := i) (e := s.closedFlaw set i cause f)
    (s := s.modTable i fun t => { t with flaws := t.flaws.filter fun q => q.id != f.id }) h
  rw [hk]
  dsimp only
  rw [htracker]
  exact congrArg FlawTable.flaws (table_modTable_same ..)

theorem closeFlaws_flaws {set : DetectionSet} {i : LaneId} {cause : CloseCause} (fs : List OpenFlaw) (s : State)
    (hm : s.port.mode ≠ .halted) (h : s.map.entries.length + fs.length ≤ 1024) :
    (fs.foldl (closeFlaw set i cause) s).tracker.tables[i.val].flaws =
      s.tracker.tables[i.val].flaws.filter fun q => fs.all fun f => q.id != f.id := by
  induction fs generalizing s with
  | nil => simp
  | cons f fs ih =>
    rw [List.length_cons] at h
    obtain ⟨hcalm, hlen⟩ := closeFlaw_calm (set := set) (i := i) (cause := cause) (s := s) (f := f) (by omega)
    rw [List.foldl_cons, ih _ (by rw [hcalm.mode]; exact hm) (by omega), closeFlaw_flaws hm (by omega), List.filter_filter]
    simp only [List.all_cons, Bool.and_comm]

/-- The flaws that a pass over some of them leaves, and those it took, are no more than were held. -/
theorem filter_rest_length (xs : List OpenFlaw) (p : OpenFlaw → Bool) :
    (xs.filter fun q => (xs.filter p).all fun f => q.id != f.id).length + (xs.filter p).length ≤ xs.length := by
  have hrest : (xs.filter fun q => (xs.filter p).all fun f => q.id != f.id).length ≤ (xs.filter fun q => !p q).length := by
    rw [← List.countP_eq_length_filter, ← List.countP_eq_length_filter]
    refine List.countP_mono_left fun q hq hall => ?_
    rw [Bool.not_eq_true']
    refine Bool.eq_false_iff.2 fun hp => ?_
    simpa using List.all_eq_true.1 hall q (List.mem_filter.2 ⟨hq, hp⟩)
  have hsplit : (xs.filter p).length + (xs.filter fun q => !p q).length = xs.length := (List.length_eq_length_filter_add p).symm
  omega

theorem continueFlaws_halted {set : DetectionSet} {i : LaneId} {s : State} (hm : s.port.mode = .halted) (fs : List OpenFlaw) :
    fs.foldl (continueFlaw set i) s = s := by
  induction fs with
  | nil => rfl
  | cons f fs ih => rw [List.foldl_cons, show continueFlaw set i s f = s from if_pos hm, ih]

theorem lineWork_halted {set : DetectionSet} {n : Nat} {i : LaneId} {s : State} (hm : s.port.mode = .halted) : lineWork set n i s = s := by
  rw [lineWork, closeWhere, closeFlaws_halted hm, show dropMarks i (fun m => decide (m.lastLine + set.gap < n)) s = s from if_pos hm,
    lengthCheck, continueFlaws_halted hm, recomputeK_halted hm]

theorem lineWork_fullEnd {set : DetectionSet} {n : Nat} {i : LaneId} {s : State}
    (h : s.map.entries.length + s.tracker.tables[i.val].flaws.length ≤ 1024) : (lineWork set n i s).map.fullEnd = s.map.fullEnd := by
  by_cases hm : s.port.mode = .halted
  · rw [lineWork_halted hm]
  have hrest := filter_rest_length s.tracker.tables[i.val].flaws fun f => decide (f.lastLine + set.gap < n)
  have hgap : s.map.entries.length + (s.tracker.tables[i.val].flaws.filter fun f => decide (f.lastLine + set.gap < n)).length ≤ 1024 := by omega
  obtain ⟨hend, hlen⟩ := closes_fullEnd (f := closeFlaw set i .gap) (fun s x h => ⟨closeFlaw_fullEnd h, (closeFlaw_calm h).2⟩) _ s hgap
  have hflaws := closeFlaws_flaws (set := set) (i := i) (cause := .gap) _ s hm hgap
  change (recomputeK (lengthCheck set i (dropMarks i _
    ((s.tracker.tables[i.val].flaws.filter fun f => decide (f.lastLine + set.gap < n)).foldl (closeFlaw set i .gap) s)))).map.fullEnd = _
  rw [(recomputeK_calm _).2]
  generalize (s.tracker.tables[i.val].flaws.filter fun f => decide (f.lastLine + set.gap < n)).foldl (closeFlaw set i .gap) s = s1 at *
  have hdropped : (dropMarks i (fun m => decide (m.lastLine + set.gap < n)) s1).map = s1.map ∧
      (dropMarks i (fun m => decide (m.lastLine + set.gap < n)) s1).tracker.tables[i.val].flaws = s1.tracker.tables[i.val].flaws := by
    unfold dropMarks
    split
    · exact ⟨rfl, rfl⟩
    · exact ⟨rfl, (congrArg FlawTable.flaws (table_modTable_same ..) :)⟩
  obtain ⟨hmap, hkept⟩ := hdropped
  generalize dropMarks i (fun m => decide (m.lastLine + set.gap < n)) s1 = s2 at *
  have hlong := closes_fullEnd (f := continueFlaw set i) (fun s x h => continueFlaw_fullEnd h)
    (s2.tracker.tables[i.val].flaws.filter (OpenFlaw.long set s2.geo.pitch)) s2 (by
      have := List.length_filter_le (OpenFlaw.long set s2.geo.pitch) s2.tracker.tables[i.val].flaws
      rw [hkept, hflaws] at *
      rw [hmap]
      omega)
  exact hlong.1.trans (by rw [hmap, hend])

/-! ### O36 -/

theorem noteMapFullEnd_eq (n : Nat) (s : State) : noteMapFullEnd n s =
    if s.map.full ≠ none ∧ s.map.fullEnd = none ∧ s.map.room = true then { s with map := { s.map with fullEnd := some n, room := false } }
    else s := by
  have hiff : (s.map.full.isSome && s.map.fullEnd.isNone && s.map.room) = true ↔
      s.map.full ≠ none ∧ s.map.fullEnd = none ∧ s.map.room = true := by
    rw [Bool.and_eq_true, Bool.and_eq_true, Option.isSome_iff_ne_none, Option.isNone_iff_eq_none, and_assoc]
  unfold noteMapFullEnd
  exact if_congr hiff rfl rfl

theorem anyLane_examining (s : State) : s.anyLane LaneState.examining = true ↔
    ¬ ∀ i : LaneId, s.lanes[i.val].state = .off ∨ s.lanes[i.val].state = .faulted := by
  rw [State.anyLane, List.any_eq_true]
  constructor
  · rintro ⟨i, -, hi⟩ hall
    have hst : (s.lane i).state ∈ [LaneState.off, .faulted] := by simpa [State.lane] using hall i
    rw [(not_examining_iff _).2 hst] at hi
    cases hi
  · intro h
    obtain ⟨i, hi⟩ := not_forall.1 h
    refine ⟨i, mem_allLanes i, ?_⟩
    refine Bool.not_eq_false _ ▸ fun hno => hi ?_
    simpa [State.lane] using (not_examining_iff _).1 hno

/-- A trigger with no lane examining digests may note the end of the condition; it changes no more of the map. -/
theorem trigger_map (n : Nat) (s : State) : (trigger n s).map =
    if s.anyLane LaneState.examining then s.map else (noteMapFullEnd n s).map := by
  have hfrontier : (triggerFrontier (issueTrigger n s)).map = s.map ∧ (triggerFrontier (issueTrigger n s)).lanes = s.lanes := by
    unfold triggerFrontier
    split
    · exact ⟨rfl, rfl⟩
    · obtain ⟨k, p, -, h⟩ := recomputeK_spec (issueTrigger n s)
      rw [h]
      exact ⟨rfl, rfl⟩
  rw [trigger_eq]
  generalize triggerFrontier (issueTrigger n s) = t at hfrontier
  obtain ⟨hmap, hlanes⟩ := hfrontier
  have hany : t.anyLane LaneState.examining = s.anyLane LaneState.examining := by simp only [State.anyLane, State.lane, hlanes]
  rw [hany]
  split
  · exact hmap
  · simp only [noteMapFullEnd, hmap]
    split
    · rw [State.modMap, State.modMap, hmap]
    · exact hmap

theorem noteMapFullEnd_mode (n : Nat) (s : State) : (noteMapFullEnd n s).port.mode = s.port.mode := by
  rw [noteMapFullEnd_eq]
  split <;> rfl

theorem noteMapFullEnd_full (n : Nat) (s : State) : (noteMapFullEnd n s).map.full = s.map.full := by
  rw [noteMapFullEnd_eq]
  split <;> rfl

/-- R76, R77: MAP FULL END where an end has been noted. -/
theorem mapFullEnd_noted {s : State} {h top : Nat} (hl : s.ctl.held = false) (hend : s.map.fullEnd = some h) (hfull : s.map.full = some top) :
    mapFullEnd s =
      let label := max ((h + 1) * s.pos.geometry.pitch) top
      let cleared : State := { s with map := { s.map with
        full := none, fullEnd := none, room := false, fullLabel := some (max label (s.map.fullLabel.getD 0)) } }
      if s.pos.breakMarking then cleared else closeAll (max label (s.map.breakLabel.getD 0)) cleared := by
  simp only [mapFullEnd, hl, hend, hfull, Bool.false_eq_true, if_false]
  rfl

/-- Settles O36. -/
theorem mapFullConditionEnds : Obligations.MapFullConditionEnds := by
  refine ⟨fun s hl => ⟨fun h => congrArg Host.Outcome.next ?_, ?_⟩, fun n i s set now hforce => ?_, fun fs bs s hm => ?_, fun n s => ?_⟩
  · unfold mapFullEnd
    rw [if_neg (by simp [hl])]
    split
    · rename_i line top hend hfull
      rcases h with h | h
      · rw [h] at hend
        cases hend
      · rw [h] at hfull
        cases hfull
    · rfl
  · intro h top hend hfull label
    have hdef := mapFullEnd_noted hl hend hfull
    refine ⟨fun hmark => congrArg Host.Outcome.next (hdef.trans (if_pos hmark)), fun hmark => ⟨fun hnone => ?_, fun o ho => ?_⟩⟩
    · refine congrArg Host.Outcome.next (hdef.trans ((if_neg (by simp [hmark])).trans (closeAll_none _ ?_)))
      exact openAll_none (s := s) hnone
    · refine congrArg Host.Outcome.next (hdef.trans ((if_neg (by simp [hmark])).trans ?_))
      refine (closeAll_open (s := { s with map := { s.map with
        full := none, fullEnd := none, room := false, fullLabel := some (max label (s.map.fullLabel.getD 0)) } }) _ ho).trans ?_
      simp only [beq_iff_eq]
      rfl
  · intro u
    obtain ⟨d, hfor⟩ := setFor_some hforce
    have hu : u = if (lineWork d n i s).port.mode = .halted then lineWork d n i s else noteMapFullEnd n (lineWork d n i s) :=
      trackerWork_eq hfor i
    have hmode : u.port.mode = (lineWork d n i s).port.mode := by
      rw [hu]
      split
      · rfl
      · exact noteMapFullEnd_mode ..
    have hfull : u.map.full = (lineWork d n i s).map.full := by
      rw [hu]
      split
      · rfl
      · exact noteMapFullEnd_full ..
    have hunended := lineWork_unended d n i s
    refine ⟨fun hend hm => ⟨fun hu' hopen hroom => ?_, fun hu' hclosed => ?_, fun hu' => ?_⟩, fun h hend hroom => ?_⟩
    · have hscan : (lineWork d n i s).port.mode.scanning = true := by rw [← hmode, hu', hm]
      have hrun : (lineWork d n i s).port.mode ≠ .halted := fun hh => by
        rw [hh] at hscan
        cases hscan
      rw [hu, if_neg hrun, noteMapFullEnd_eq, if_pos ⟨hfull ▸ hopen, hunended.fullEnd hend, (hunended.room hscan).trans hroom⟩]
      exact ⟨rfl, rfl⟩
    · have hscan : (lineWork d n i s).port.mode.scanning = true := by rw [← hmode, hu', hm]
      have hrun : (lineWork d n i s).port.mode ≠ .halted := fun hh => by
        rw [hh] at hscan
        cases hscan
      have hno : ¬ ((lineWork d n i s).map.full ≠ none ∧ (lineWork d n i s).map.fullEnd = none ∧ (lineWork d n i s).map.room = true) := by
        rintro ⟨hopen, -, hroom⟩
        rcases hclosed with hc | hc
        · exact hopen (hfull ▸ hc)
        · rw [hunended.room hscan, hc] at hroom
          cases hroom
      rw [hu, if_neg hrun, noteMapFullEnd_eq, if_neg hno]
      exact ⟨hunended.fullEnd hend, hunended.room hscan⟩
    · rw [hu, if_pos (hmode ▸ hu')]
      exact hunended.fullEnd hend
    · have hL : (lineWork d n i s).map.fullEnd = some h := (lineWork_fullEnd hroom).trans hend
      rw [hu]
      split
      · exact hL
      · rw [noteMapFullEnd_eq, if_neg (fun hc => by rw [hL] at hc; cases hc.2.1)]
        exact hL
  · obtain ⟨f, hf⟩ := releaseReferences_eq fs bs hm
    rw [hf]
    change (s.map.room || (s.map.full.isSome && s.map.fullEnd.isNone && decide _)) = true ↔ _
    rw [Bool.or_eq_true, Bool.and_eq_true, Bool.and_eq_true, Option.isSome_iff_ne_none, Option.isNone_iff_eq_none, decide_eq_true_iff, and_assoc]
    rfl
  · intro ends
    have hany := anyLane_examining s
    refine ⟨fun ⟨hlanes, hopen⟩ => ?_, fun hno => ?_⟩
    · rw [trigger_map, if_neg (fun hc => hany.1 hc hlanes), noteMapFullEnd_eq, if_pos hopen]
    · rw [trigger_map]
      split
      · rfl
      · rename_i hc
        rw [noteMapFullEnd_eq, if_neg (fun hopen => hno ⟨not_not.1 fun hl => hc (hany.2 hl), hopen⟩)]

end Sys2Proof.Machine
end

section
/-!
The insertion of a closed flaw into the map (R70, R71, R75, R78) and the seam check (R72 to R74).
-/

namespace Sys2Proof.Machine

/-! ### Insertion without a seam -/

theorem mapInsert_noSeam {d : DetectionSet} {i : LaneId} {e : MapEntry} {s : State}
    (h : ∀ c ∈ s.map.entries, s.seamCandidate d i e c = false) : mapInsert d i e s = insertAlone e s := by
  have hnone : s.map.entries.find? (s.seamCandidate d i e) = none := List.find?_eq_none.2 fun c hc => Bool.eq_false_iff.1 (h c hc)
  rw [mapInsert, hnone]

/-- R71, R78: an insertion in a map with room. -/
theorem insertAlone_room {e : MapEntry} {s : State} (h : s.map.entries.length < 1024) : insertAlone e s =
    { s with
      map := { s.map with entries := insertByKey MapEntry.yFirst e s.map.entries,
                          highRaised := s.map.highRaised || decide (s.map.entries.length + 1 = 896) },
      port := { s.port with events := if s.map.entries.length + 1 = 896 ∧ s.map.highRaised = false then
        s.port.events ||| Event.mapHigh.single else s.port.events } } := by
  rw [show insertAlone e s = noteHigh (s.modMap (placeEntry e)) from if_pos h]
  have hcond : ((s.modMap (placeEntry e)).map.entries.length = Config.mapHighMark ∧ (s.modMap (placeEntry e)).map.highRaised = false) ↔
      s.map.entries.length + 1 = 896 ∧ s.map.highRaised = false := by
    change (insertByKey MapEntry.yFirst e s.map.entries).length = 896 ∧ s.map.highRaised = false ↔ _
    rw [insertByKey_length]
  unfold noteHigh
  by_cases hc : s.map.entries.length + 1 = 896 ∧ s.map.highRaised = false
  · rw [if_pos (hcond.2 hc), if_pos hc, decide_eq_true hc.1, Bool.or_true]
    rfl
  · rw [if_neg (fun h => hc (hcond.1 h)), if_neg hc]
    have hraised : (s.map.highRaised || decide (s.map.entries.length + 1 = 896)) = s.map.highRaised := by
      cases hr : s.map.highRaised with
      | true => rfl
      | false => simpa [hr] using hc
    rw [hraised]
    rfl

/-- R75: the map with one more flaw refused. -/
def refusedState (e : MapEntry) (s : State) : State :=
  { s with map := { s.map with
      refused := min 65535 (s.map.refused + 1), fullEnd := none,
      full := some (match s.map.full with | none => e.yLast + 1 | some top => max (e.yLast + 1) top) } }

theorem insertAlone_refused {e : MapEntry} {s : State} (h : 1024 ≤ s.map.entries.length) :
    insertAlone e s = coverRefused (max e.yFirst s.lastAllEnd) (refusedState e s) := by
  rw [show insertAlone e s = refuseFlaw e s from if_neg (Nat.not_lt.2 h)]
  unfold refuseFlaw refusedState
  cases s.map.full with
  | none => simp only [Option.getD_none, Nat.max_zero]; rfl
  | some top => rfl

/-! ### The lower bound of the ALL interval (log 14) -/

theorem lastAllEnd_none {s : State} (h : ∀ q ∈ s.map.blind, q.lane = none → q.yEnd = none) : s.lastAllEnd = 0 := by
  have hempty : s.map.blind.filter (fun b => b.lane.isNone && b.yEnd.isSome) = [] := by
    refine List.filter_eq_nil_iff.2 fun b hb hc => ?_
    rw [Bool.and_eq_true, Option.isNone_iff_eq_none] at hc
    rw [h b hb hc.1] at hc
    simp at hc
  simp only [State.lastAllEnd, State.closedAll, hempty]
  rfl

/-- The head of a list in order of key is one whose key is below every other. -/
theorem sortByKey_head {α : Type} {key : α → Nat} {xs : List α} {c : α} (hc : c ∈ xs) (hleast : ∀ x ∈ xs, x = c ∨ key c < key x) :
    (sortByKey key xs).head? = some c := by
  have hmem : ∀ x, x ∈ sortByKey key xs ↔ x ∈ xs := fun x => (sortByKey_perm key xs).mem_iff
  have hsorted := sortByKey_sorted key xs
  cases hl : sortByKey key xs with
  | nil => exact absurd ((hmem c).2 hc) (by rw [hl]; exact List.not_mem_nil)
  | cons x rest =>
    rw [hl] at hsorted hmem
    rcases hleast x ((hmem x).1 (List.mem_cons_self ..)) with hx | hx
    · rw [hx]
      rfl
    · rcases List.mem_cons.1 ((hmem c).2 hc) with hcx | hcx
      · rw [hcx] at hx
        exact absurd hx (lt_irrefl _)
      · exact absurd ((List.pairwise_cons.1 hsorted).1 c hcx) (Nat.not_le.2 hx)

theorem lastAllEnd_some {s : State} {c : Interval} {y : Nat} (hc : c ∈ s.map.blind) (hlane : c.lane = none) (hend : c.yEnd = some y)
    (hid : c.id < s.map.nextId) (hlatest : ∀ q ∈ s.map.blind, q.lane = none → q.yEnd ≠ none → q = c ∨ q.id < c.id) :
    s.lastAllEnd = y := by
  have hage : ∀ b : Interval, b.id < s.map.nextId → s.map.age b.id = s.map.nextId - b.id := fun b hb => if_pos hb
  have hhead : s.closedAll.head? = some c := by
    refine sortByKey_head (List.mem_filter.2 ⟨hc, by simp [hlane, hend]⟩) fun q hq => ?_
    obtain ⟨hq, hclosed⟩ := List.mem_filter.1 hq
    rw [Bool.and_eq_true, Option.isNone_iff_eq_none, Option.isSome_iff_ne_none] at hclosed
    refine (hlatest q hq hclosed.1 hclosed.2).imp id fun hlt => ?_
    rw [hage c hid, hage q (hlt.trans hid)]
    omega
  rw [State.lastAllEnd, hhead]
  exact congrArg (Option.getD · 0) hend

/-- Settles O33. -/
theorem closedFlawEntersTheMap : Obligations.ClosedFlawEntersTheMap := by
  intro d i e s hseam
  rw [mapInsert_noSeam hseam]
  refine ⟨fun hroom => ?_, fun hfull b hb => ?_⟩
  · rw [insertAlone_room hroom]
    exact ⟨rfl, fun hsorted => insertByKey_split MapEntry.yFirst e _ hsorted⟩
  · have hbound : max e.yFirst s.lastAllEnd = b := by
      rcases hb with ⟨hnone, rfl⟩ | ⟨c, y, hc, hlane, hend, hid, hlatest, rfl⟩
      · rw [lastAllEnd_none hnone, Nat.max_zero]
      · rw [lastAllEnd_some hc hlane hend hid hlatest]
    have hdef := insertAlone_refused (e := e) hfull
    rw [hbound] at hdef
    intro refused
    have hr : refusedState e s = refused := rfl
    rw [hr] at hdef
    refine ⟨fun hnone => ?_, fun o ho => ?_⟩
    · have hopen : refused.openAll = none := openAll_none (s := refused) hnone
      have hcover : insertAlone e s = openInterval .mapFull none s.pos.geometry.xL s.pos.geometry.xR b refused := by
        rw [hdef, coverRefused, hopen]
        rfl
      refine ⟨fun hfree => ?_, fun hlist => ?_⟩
      · rw [hcover, openInterval_room _ _ _ _ _ refused hfree]
        rfl
      · have hreport := hcover.trans (openInterval_full _ _ _ _ _ refused hlist)
        refine ⟨hreport, fun hm hslot => ?_⟩
        rw [hreport, report2_scanning _ _ refused hslot hm]
        have hmap := captureHalt_map .blindListFull { refused.here with lane := none } refused
        exact ⟨(captureHalt_halted ..).mode, hmap.full, hmap.refused, hmap.blind⟩
    · have hopen : refused.openAll = some o := ho
      refine ⟨fun hle => ?_, fun hlt => ?_⟩
      · rw [hdef, coverRefused, hopen]
        exact if_neg (Nat.not_lt.2 hle)
      · rw [hdef, coverRefused, hopen]
        exact if_pos hlt

/-! ### The seam check -/

theorem mem_adjacent {α : Type} {xs : List α} {a b : α} : (a, b) ∈ adjacent xs ↔ ∃ pre post, xs = pre ++ a :: b :: post := by
  constructor
  · induction xs with
    | nil => simp [adjacent]
    | cons x xs ih =>
      intro h
      cases xs with
      | nil => simp [adjacent] at h
      | cons y ys =>
        rcases List.mem_cons.1 (show (a, b) ∈ (x, y) :: adjacent (y :: ys) from h) with h | h
        · obtain ⟨rfl, rfl⟩ := Prod.mk.inj h
          exact ⟨[], ys, rfl⟩
        · obtain ⟨pre, post, hsplit⟩ := ih h
          exact ⟨x :: pre, post, congrArg (x :: ·) hsplit⟩
  · rintro ⟨pre, post, rfl⟩
    induction pre with
    | nil => exact List.mem_cons_self ..
    | cons x pre ih =>
      cases pre with
      | nil => exact List.mem_cons_of_mem _ ih
      | cons y pre => exact List.mem_cons_of_mem _ ih

theorem ownFrom_length (prev : Option Span) (xs : List Span) : (ownFrom prev xs).length = xs.length := by
  induction xs generalizing prev with
  | nil => rfl
  | cons x xs ih => exact congrArg (· + 1) (ih (some x))

theorem ownedSpans_lanes (s : State) : s.ownedSpans.map Prod.fst = s.laneOrder :=
  List.map_fst_zip (by rw [ownFrom_length, List.length_map])

theorem overlap_other (o : Overlap) (i j : LaneId) :
    o.other i = some j ↔ o.left = i ∧ o.right = j ∨ o.left = j ∧ o.right = i := by
  unfold Overlap.other
  constructor
  · intro h
    split at h
    · exact .inl ⟨‹_›, Option.some.inj h⟩
    split at h
    · exact .inr ⟨Option.some.inj h, ‹_›⟩
    · cases h
  · rintro (⟨hl, hr⟩ | ⟨hl, hr⟩)
    · rw [if_pos hl, hr]
    · by_cases hli : o.left = i
      · rw [if_pos hli, hr, ← hl, hli]
      · rw [if_neg hli, if_pos hr, hl]

/-- R72: the neighbours whose overlap with the lane the hull meets. -/
theorem mem_seamNeighbours {s : State} {i j : LaneId} {e : MapEntry} : j ∈ s.seamNeighbours i e ↔
    ∃ left right, (∃ pre post, s.laneOrder = pre ++ left :: right :: post) ∧ (left = i ∧ right = j ∨ left = j ∧ right = i) ∧
      (s.lane right).geometry.x0 < (s.lane left).geometry.span.stop ∧ e.xFirst < (s.lane left).geometry.span.stop ∧
      (s.lane right).geometry.x0 ≤ e.xLast := by
  simp only [State.seamNeighbours, List.mem_filterMap, List.mem_filter, State.overlaps, List.mem_map, Bool.and_eq_true, decide_eq_true_eq,
    overlap_other]
  constructor
  · rintro ⟨o, ⟨⟨⟨⟨left, right⟩, hadj, rfl⟩, hpos⟩, h1, h2⟩, hother⟩
    exact ⟨left, right, mem_adjacent.1 hadj, hother, hpos, h1, h2⟩
  · rintro ⟨left, right, hadj, hother, hpos, h1, h2⟩
    exact ⟨_, ⟨⟨⟨(left, right), mem_adjacent.2 hadj, rfl⟩, hpos⟩, h1, h2⟩, hother⟩

theorem touches_iff (w v : Nat) (c e : MapEntry) : c.touches w v e = true ↔
    c.xFirst ≤ e.xLast + w ∧ e.xFirst ≤ c.xLast + w ∧ c.yFirst ≤ e.yLast + v ∧ e.yFirst ≤ c.yLast + v := by
  simp only [MapEntry.touches, Bool.and_eq_true, decide_eq_true_eq, and_assoc]

/-! ### Merging (R73) -/

theorem mem_uniteLanes (a b : List LaneId) (l : LaneId) : l ∈ uniteLanes a b ↔ l ∈ a ∨ l ∈ b := by
  simp [uniteLanes, mem_allLanes]

theorem mergeEntries_id (aspect : Nat) (a b : MapEntry) : (mergeEntries aspect a b).id = min a.id b.id := by
  change (if a.id ≤ b.id then a else b).id = _
  split
  · rename_i h
    exact (Nat.min_eq_left h).symm
  · rename_i h
    exact (Nat.min_eq_right (Nat.le_of_not_le h)).symm

theorem mergeEntries_pred (aspect : Nat) (a b : MapEntry) :
    (mergeEntries aspect a b).pred = if a.id ≤ b.id then a.pred <|> b.pred else b.pred <|> a.pred := by
  change ((if a.id ≤ b.id then a else b).pred.orElse fun _ => (if a.id ≤ b.id then b else a).pred) = _
  split <;> rfl

theorem mergeEntries_cls (aspect : Nat) (a b : MapEntry) : (mergeEntries aspect a b).cls =
    if (mergeEntries aspect a b).flags.columnSuspect then .linear
    else if (mergeEntries aspect a b).views = ⟨false, false, true⟩ then .surface
    else if aspect * min (mergeEntries aspect a b).along (mergeEntries aspect a b).across ≤
      max (mergeEntries aspect a b).along (mergeEntries aspect a b).across then .linear
    else if a.cls = .stone ∨ b.cls = .stone then .stone else .bubble := by
  refine (show (mergeEntries aspect a b).cls = mergedClass aspect (mergeEntries aspect a b) a.cls b.cls from rfl).trans ?_
  unfold mergedClass
  simp only [onlyOblique_iff, elongated_iff]

/-- R73: the first candidate, without a reference, and the flaw become one entry. -/
theorem mapInsert_merge {d : DetectionSet} {i : LaneId} {e c : MapEntry} {s : State}
    (h : s.map.entries.find? (s.seamCandidate d i e) = some c) (hrefs : c.refs = 0) : mapInsert d i e s =
      { s with map := { s.map with
          entries := insertByKey MapEntry.yFirst (mergeEntries d.aspect c e) (s.map.entries.filter fun q => q.id != c.id) } } := by
  rw [mapInsert, h]
  exact if_pos hrefs

/-- R74: the first candidate, with a reference, stays, and the flaw is inserted with the flag SEAM. -/
theorem mapInsert_seam {d : DetectionSet} {i : LaneId} {e c : MapEntry} {s : State}
    (h : s.map.entries.find? (s.seamCandidate d i e) = some c) (hrefs : 0 < c.refs) :
    mapInsert d i e s = insertAlone { e with flags := { e.flags with seam := true } } s := by
  rw [mapInsert, h]
  exact if_neg (Nat.pos_iff_ne_zero.1 hrefs)

theorem filter_other_length {xs : List MapEntry} {c : MapEntry} (hc : c ∈ xs) (hids : (xs.map MapEntry.id).Nodup) :
    (xs.filter fun q => q.id != c.id).length + 1 = xs.length := by
  obtain ⟨pre, post, rfl⟩ := List.append_of_mem hc
  rw [filter_unique (key := MapEntry.id) hids, List.length_append, List.length_append, List.length_cons]
  rfl

/-- Settles O34. -/
theorem seamMergesOrFlags : Obligations.SeamMergesOrFlags := by
  refine ⟨?_, fun d i e c s hfind hids => ⟨fun hrefs => ?_, fun hrefs => ⟨fun hroom q => ?_, fun hfull hfree => ?_⟩⟩⟩
  · intro d i e c s start width stop
    have hstop : ∀ l : LaneId, (s.lane l).geometry.span.stop = stop l := fun _ => rfl
    rw [State.seamCandidate, List.any_eq_true]
    simp only [mem_seamNeighbours, hstop, Bool.and_eq_true, touches_iff, List.contains_iff_mem]
    rw [show s.ownedSpans.map (fun o => o.1) = s.laneOrder from ownedSpans_lanes s]
    constructor
    · rintro ⟨j, ⟨left, right, ⟨pre, post, hsplit⟩, hside, hpos, h1, h2⟩, hc, ht⟩
      exact ⟨pre, post, left, right, j, hsplit, hside, hpos, h1, h2, hc, ht⟩
    · rintro ⟨pre, post, left, right, j, hsplit, hside, hpos, h1, h2, hc, ht⟩
      exact ⟨j, ⟨left, right, ⟨pre, post, hsplit⟩, hside, hpos, h1, h2⟩, hc, ht⟩
  · have hc := List.mem_of_find?_eq_some hfind
    have hdef := mapInsert_merge hfind hrefs
    refine ⟨mergeEntries d.aspect c e, hdef, ?_, fun q => ?_, mergeEntries_id .., mem_uniteLanes _ _, rfl, rfl, rfl, rfl, rfl, rfl, rfl, rfl,
      mergeEntries_pred .., rfl, mergeEntries_cls ..⟩
    · rw [hdef]
      exact (insertByKey_length ..).trans (filter_other_length hc hids)
    · rw [hdef]
      refine (mem_insertByKey ..).trans (or_congr .rfl ?_)
      rw [List.mem_filter, bne_iff_ne]
  · rw [mapInsert_seam hfind hrefs, insertAlone_room hroom]
    exact mem_insertByKey ..
  · rw [mapInsert_seam hfind hrefs, insertAlone_refused hfull]
    unfold coverRefused
    split
    · rw [openInterval_room _ _ _ _ _ (refusedState _ s) hfree]
      exact ⟨rfl, rfl, rfl⟩
    split <;> exact ⟨rfl, rfl, rfl⟩

end Sys2Proof.Machine
end

section
/-!
A digest received (R25): which are discarded, and which fault their lane (R25, R28, R30).
-/

namespace Sys2Proof.Machine

/-! ### The line of a digest and the set in force for it -/

theorem rebuildLine_eq {low m t : Nat} (hmt : m ≤ t) (hnear : t < m + 65536) (hlow : m % 65536 = low) : rebuildLine low t = some m := by
  have hle : low ≤ t := by omega
  rw [rebuildLine, if_pos hle]
  congr 1
  omega

/-- With no work of a trigger outstanding, the set of InForce is the one the digest is examined with. -/
theorem setFor_inForce {s : State} {m t : Nat} {set now : DetectionSet} (h : InForce s m set now) (hnone : s.dueSwitch = none)
    (hm : s.port.mode.scanning = true) (ht : s.pos.lastLine = some t) (hmt : m ≤ t) : s.setFor m = some set := by
  obtain ⟨hactive, hout, hsame⟩ := h
  unfold State.setFor
  split
  · rename_i happly
    rw [hactive, hsame fun l hl => by rw [happly] at hl; cases hl]
  · rename_i d l happly
    have hwait : ¬ l ≤ m := fun hlm => by
      simp only [State.dueSwitch, happly] at hnone
      rw [if_pos (show (s.mode.scanning && s.triggered l) = true from Bool.and_eq_true_iff.2 ⟨hm, by rw [triggered_some ht]; exact decide_eq_true (hlm.trans hmt)⟩)] at hnone
      cases hnone
    rw [if_neg fun hc => hwait hc.1, hactive, hsame fun l hl => by rw [happly] at hl; cases hl]
  · rename_i l happly
    by_cases hlt : m < l
    · rw [if_pos hlt, hout l happly hlt]
    · rw [if_neg hlt, hactive, hsame fun l' hl => by rw [happly] at hl; cases hl; exact Nat.not_lt.1 hlt]

/-! ### A digest received -/

section
variable {s : State} {i : LaneId} {d : Digest} (hl : s.ctl.held = false) (hnone : NoTriggerWork s)
include hl hnone

theorem exec_digest_ignored (h : s.port.mode.scanning = false ∨ (s.lane i).state.examining = false) :
    exec (.gantryDigest i d) s = .next s := by
  refine congrArg Host.Outcome.next (show gantryDigest i d s = s from ?_)
  simp only [gantryDigest, hl, hnone.take, Bool.false_eq_true, if_false, State.mode]
  refine if_neg fun hc => ?_
  rw [Bool.and_eq_true] at hc
  rcases h with h | h
  · rw [h] at hc
    cases hc.1
  · rw [h] at hc
    cases hc.2

theorem exec_digest_examined (hm : s.port.mode.scanning = true) (hst : (s.lane i).state.examining = true) :
    exec (.gantryDigest i d) s = .next (examineDigest i d s) := by
  refine congrArg Host.Outcome.next (show gantryDigest i d s = _ from ?_)
  simp only [gantryDigest, hl, hnone.take, Bool.false_eq_true, if_false, State.mode, hm, hst, Bool.and_self, if_true]

end

theorem examineDigest_eq {s : State} {i : LaneId} {d : Digest} {t m : Nat} {set : DetectionSet} (ht : s.pos.lastLine = some t)
    (hmt : m ≤ t) (hnear : t < m + 65536) (hlow : m % 65536 = d.line) (hset : s.setFor m = some set) : examineDigest i d s =
      if d.slot ≠ m % set.slots.length ∨ m < s.lanes[i.val].expected then s
      else if m = s.lanes[i.val].expected then processDigest set m i d s
      else faultLane .digestMissing i s.lanes[i.val].expected s := by
  have hline : s.pos.lastLine.bind (rebuildLine d.line) = some m := by rw [ht, Option.bind_some, rebuildLine_eq hmt hnear hlow]
  simp only [examineDigest, hline, hset]
  rfl

theorem examineDigest_noLine {s : State} {i : LaneId} {d : Digest} (h : s.pos.lastLine.bind (rebuildLine d.line) = none) :
    examineDigest i d s = s := by simp only [examineDigest, h]

/-! ### The sample of a digest (R29, R30) -/

theorem limitRun_eq (l : Lane) {slot : Nat} (h : slot < 5) : l.limitRun slot = l.limitRuns[slot] := by
  simp [Lane.limitRun, h]

theorem setLimitRun_of_lt (l : Lane) {slot : Nat} (h : slot < 5) (v : Nat) :
    l.setLimitRun slot v = { l with limitRuns := l.limitRuns.set slot v } := dif_pos h

theorem processDigest_head {set : DetectionSet} {n : Nat} {i : LaneId} {d : Digest} {s : State} (h : d.headFault = true) :
    processDigest set n i d s = faultLane .headFault i n s := if_pos h

theorem takeSample_outside {i : LaneId} {no level : Nat} {slot : Slot} {s : State} (h : ¬ (slot.low ≤ level ∧ level ≤ slot.high)) :
    takeSample i no slot level s = s.modLane i fun l => l.setLimitRun no (min 4 (l.limitRun no + 1)) :=
  if_neg fun hc => h ((within_iff ..).1 hc)

/-- R29, R30: a digest without HEAD FAULT, after its sample. -/
theorem processDigest_sample {set : DetectionSet} {n : Nat} {i : LaneId} {d : Digest} {s : State} {slot : Slot}
    (hhead : d.headFault = false) (hno : d.slot = n % set.slots.length) (hslot : set.slots[d.slot]? = some slot) :
    processDigest set n i d s =
      if ¬ (slot.low ≤ d.level ∧ d.level ≤ slot.high) ∧ 4 ≤ ((takeSample i d.slot slot d.level s).lane i).limitRun d.slot then
        faultLane (if d.level < slot.low then .lightLow else .lightHigh) i n (takeSample i d.slot slot d.level s)
      else processRuns set n slot i d (takeSample i d.slot slot d.level s) := by
  have hno' : set.slotNumber n = d.slot := hno.symm
  have hcond : (!within slot.low slot.high d.level && decide (Config.limitRun ≤ ((takeSample i d.slot slot d.level s).lane i).limitRun d.slot)) = true ↔
      ¬ (slot.low ≤ d.level ∧ d.level ≤ slot.high) ∧ 4 ≤ ((takeSample i d.slot slot d.level s).lane i).limitRun d.slot := by
    rw [Bool.and_eq_true, Bool.not_eq_true', ← within_iff, Bool.not_eq_true, decide_eq_true_iff]
    exact .rfl
  unfold processDigest
  rw [if_neg (by rw [hhead]; decide), hno', hslot]
  exact if_congr hcond rfl rfl

/-- Settles O23. -/
theorem digestsDiscardedOrFaulty : Obligations.DigestsDiscardedOrFaulty := by
  refine ⟨fun s i d t m set now hl hnone => ⟨fun h => ?_, fun h => ?_, fun ht hmt hnear hlow hforce hbad => ?_⟩, ?_⟩
  · refine exec_digest_ignored hl hnone ?_
    rcases h with h | h | h | h
    · exact .inl (by rw [h]; rfl)
    · exact .inl (by rw [h]; rfl)
    · exact .inr (by rw [State.lane, h]; rfl)
    · exact .inr (by rw [State.lane, h]; rfl)
  · by_cases hm : s.port.mode.scanning = true ∧ (s.lane i).state.examining = true
    · rw [exec_digest_examined hl hnone hm.1 hm.2, examineDigest_noLine]
      rcases h with h | ⟨h, hlt⟩
      · rw [h]
        rfl
      · rw [h]
        exact if_neg (Nat.not_le.2 hlt)
    · refine exec_digest_ignored hl hnone ?_
      rw [not_and_or, Bool.not_eq_true, Bool.not_eq_true] at hm
      exact hm
  · by_cases hm : s.port.mode.scanning = true ∧ (s.lane i).state.examining = true
    · rw [exec_digest_examined hl hnone hm.1 hm.2,
        examineDigest_eq ht hmt hnear hlow (setFor_inForce hforce hnone.noSwitch hm.1 ht hmt), if_pos hbad]
    · refine exec_digest_ignored hl hnone ?_
      rw [not_and_or, Bool.not_eq_true, Bool.not_eq_true] at hm
      exact hm
  · intro s i d t m set now slot hl hnone hm hst ht hmt hnear hlow hforce hno hslot items
    have hexec : exec (.gantryDigest i d) s = .next (examineDigest i d s) := exec_digest_examined hl hnone hm ((examining_iff _).2 hst)
    rw [examineDigest_eq ht hmt hnear hlow (setFor_inForce hforce hnone.noSwitch hm ht hmt)] at hexec
    have hprocess (he : s.lanes[i.val].expected = m) : exec (.gantryDigest i d) s = .next (processDigest set m i d s) := by
      rw [hexec, if_neg (not_or.2 ⟨not_not.2 hno, by omega⟩), if_pos he.symm]
    refine ⟨fun hlt => ?_, fun he hhead => ?_, ?_⟩
    · rw [hexec, if_neg (not_or.2 ⟨not_not.2 hno, by omega⟩), if_neg (by omega)]
      rfl
    · rw [hprocess he, processDigest_head hhead]
      rfl
    · intro h he hhead hruns counted
      have hcounted (hout : ¬ (slot.low ≤ d.level ∧ d.level ≤ slot.high)) : takeSample i d.slot slot d.level s = counted := by
        rw [takeSample_outside hout]
        have hset : (s.lane i).setLimitRun d.slot (min 4 ((s.lane i).limitRun d.slot + 1)) =
            { s.lane i with limitRuns := (s.lane i).limitRuns.set d.slot 4 } := by
          rw [setLimitRun_of_lt _ h, limitRun_eq _ h, State.lane, hruns]
          rfl
        simp only [State.modLane, State.modLanes]
        rw [show s.lanes[i.val] = s.lane i from rfl, hset]
        rfl
      have hfault (hout : ¬ (slot.low ≤ d.level ∧ d.level ≤ slot.high)) : exec (.gantryDigest i d) s =
          .next (faultLane (if d.level < slot.low then .lightLow else .lightHigh) i m counted) := by
        have hfour : 4 ≤ (counted.lane i).limitRun d.slot := by
          rw [limitRun_eq _ h]
          have hlane : counted.lane i = { s.lanes[i.val] with limitRuns := s.lanes[i.val].limitRuns.set d.slot 4 } :=
            Vector.getElem_set_self ..
          rw [hlane]
          exact (Vector.getElem_set_self ..).ge
        rw [hprocess he, processDigest_sample hhead hno hslot, hcounted hout, if_pos ⟨hout, hfour⟩]
      refine ⟨fun hlow => ?_, fun hle hhigh => ?_⟩
      · rw [hfault (by omega), if_pos hlow]
        rfl
      · rw [hfault (by omega), if_neg (by omega)]
        rfl

end Sys2Proof.Machine
end

section
/-!
A digest of the expected line that does not fault its lane: its sample (R29), and the whole of its work in SETTLING (R27, R31).
-/

namespace Sys2Proof.Machine

/-! ### The sample -/

/-- R29: a lane with one more sample: within the limits it joins its ring, if the active set holds its kind; outside it is counted. -/
def Lane.sampled (l : Lane) (no : Nat) (h : no < 5) (slot : Slot) (now : DetectionSet) (level : Nat) : Lane :=
  { l with
    limitRuns := l.limitRuns.set no (if slot.low ≤ level ∧ level ≤ slot.high then 0 else l.limitRuns[no] + 1),
    rings := if (slot.low ≤ level ∧ level ≤ slot.high) ∧ ∃ q ∈ now.slots, q.kind = slot.kind
      then l.rings.set slot.kind ((if 8 ≤ (l.rings.get slot.kind).length then (l.rings.get slot.kind).drop 1 else l.rings.get slot.kind) ++ [level])
      else l.rings }

/-- The state in which lane `i` has taken its sample. -/
def sampledState (s : State) (i : LaneId) (no : Nat) (h : no < 5) (slot : Slot) (now : DetectionSet) (level : Nat) : State :=
  { s with lanes := s.lanes.set i.val (s.lanes[i.val].sampled no h slot now level) }

theorem keepsKind_iff {s : State} {now : DetectionSet} (h : s.tracker.active = some now) (k : ViewKind) :
    s.keepsKind k = true ↔ ∃ q ∈ now.slots, q.kind = k := by
  simp only [State.keepsKind, h, Option.any_some]
  exact holdsKind_iff now k

theorem takeSample_eq {s : State} {i : LaneId} {no : Nat} (h : no < 5) {slot : Slot} {now : DetectionSet} {level : Nat}
    (hactive : s.tracker.active = some now) (hok : slot.low ≤ level ∧ level ≤ slot.high ∨ s.lanes[i.val].limitRuns[no] ≤ 2) :
    takeSample i no slot level s = sampledState s i no h slot now level := by
  have hset (f : Lane → Lane) (hf : f s.lanes[i.val] = s.lanes[i.val].sampled no h slot now level) :
      s.modLane i f = sampledState s i no h slot now level := by
    simp only [State.modLane, State.modLanes, hf]
    rfl
  by_cases hin : slot.low ≤ level ∧ level ≤ slot.high
  · rw [takeSample, if_pos ((within_iff ..).2 hin)]
    refine hset _ ?_
    rw [setLimitRun_of_lt _ h, Lane.sampled, if_pos hin]
    exact congrArg (fun r => { s.lanes[i.val] with limitRuns := s.lanes[i.val].limitRuns.set no 0, rings := r })
      (if_congr ((keepsKind_iff hactive _).trans (iff_and_self.2 fun _ => hin)) rfl rfl)
  · rw [takeSample_outside hin]
    refine hset _ ?_
    have hcount : min 4 (s.lanes[i.val].limitRuns[no] + 1) = s.lanes[i.val].limitRuns[no] + 1 := by
      have := hok.resolve_left hin
      omega
    rw [setLimitRun_of_lt _ h, limitRun_eq _ h, Lane.sampled, if_neg hin, if_neg fun hc => hin hc.1, hcount]

/-- R27: a digest of the expected line that does not fault its lane goes on to its runs. -/
theorem exec_digest_runs {s : State} {i : LaneId} {d : Digest} {t n : Nat} {set now : DetectionSet} {slot : Slot} (hl : s.ctl.held = false)
    (hnone : NoTriggerWork s) (hm : s.port.mode.scanning = true) (hst : s.lanes[i.val].state ∈ [LaneState.settling, .active, .crowded])
    (he : s.lanes[i.val].expected = n) (ht : s.pos.lastLine = some t) (hmt : n ≤ t) (hnear : t < n + 65536) (hlow : n % 65536 = d.line)
    (hforce : InForce s n set now) (hno : d.slot = n % set.slots.length) (hslot : set.slots[d.slot]? = some slot) (h : d.slot < 5)
    (hhead : d.headFault = false) (hok : slot.low ≤ d.level ∧ d.level ≤ slot.high ∨ s.lanes[i.val].limitRuns[d.slot] ≤ 2) :
    exec (.gantryDigest i d) s = .next (processRuns set n slot i d (sampledState s i d.slot h slot now d.level)) := by
  have hexec : exec (.gantryDigest i d) s = .next (examineDigest i d s) := exec_digest_examined hl hnone hm ((examining_iff _).2 hst)
  rw [hexec, examineDigest_eq ht hmt hnear hlow (setFor_inForce hforce hnone.noSwitch hm ht hmt),
    if_neg (not_or.2 ⟨not_not.2 hno, by omega⟩), if_pos he.symm, processDigest_sample hhead hno hslot, takeSample_eq h hforce.1 hok, if_neg]
  rintro ⟨hout, hfour⟩
  have hlane : (sampledState s i d.slot h slot now d.level).lane i = s.lanes[i.val].sampled d.slot h slot now d.level :=
    Vector.getElem_set_self ..
  have hruns : (s.lanes[i.val].sampled d.slot h slot now d.level).limitRuns[d.slot] = s.lanes[i.val].limitRuns[d.slot] + 1 :=
    (Vector.getElem_set_self ..).trans (if_neg hout)
  rw [limitRun_eq _ h, hlane, hruns] at hfour
  have := hok.resolve_left hout
  omega

/-! ### A line whose lane holds no flaw and no mark -/

theorem modTable_self {i : LaneId} {g : FlawTable → FlawTable} {s : State} (h : g s.tracker.tables[i.val] = s.tracker.tables[i.val]) :
    s.modTable i g = s := by
  simp only [State.modTable, State.modTracker, h, Vector.set_getElem_self]

theorem lineWork_empty {set : DetectionSet} {n : Nat} {i : LaneId} {s : State} (h : s.tracker.tables[i.val] = ⟨[], []⟩) :
    lineWork set n i s = recomputeK s := by
  have hclose : closeWhere set i .gap (fun f => decide (f.lastLine + set.gap < n)) s = s := by
    rw [closeWhere, State.table, h]
    rfl
  have hdrop : dropMarks i (fun m => decide (m.lastLine + set.gap < n)) s = s := by
    unfold dropMarks
    split
    · rfl
    · exact modTable_self (by rw [h]; rfl)
  have hlength : lengthCheck set i s = s := by
    rw [lengthCheck, State.table, h]
    rfl
  rw [lineWork, hclose, hdrop, hlength]

/-- What the completion of a line changes where there is nothing to track: K, the planning state and the marks of a full map. -/
structure LineNoted (s t : State) : Prop where
  frame : ∃ k p e r, t = { s with
    tracker := { s.tracker with frontier := k }, planner := { s.planner with planning := p }, map := { s.map with fullEnd := e, room := r } }

theorem recomputeK_noted (s : State) : LineNoted s (recomputeK s) := by
  obtain ⟨k, p, -, h⟩ := recomputeK_spec s
  exact ⟨k, p, s.map.fullEnd, s.map.room, h⟩

theorem trackerWork_empty {n : Nat} {i : LaneId} {s : State} (h : s.tracker.tables[i.val] = ⟨[], []⟩) :
    LineNoted s (trackerWork n i s) := by
  cases hset : s.setFor n with
  | none => exact ⟨_, _, _, _, by rw [trackerWork, hset]⟩
  | some set =>
    rw [trackerWork_eq hset, lineWork_empty h]
    obtain ⟨k, p, e, r, hk⟩ := (recomputeK_noted s).frame
    split
    · exact recomputeK_noted s
    · rw [hk, noteMapFullEnd_eq]
      split
      · exact ⟨⟨k, p, some n, false, rfl⟩⟩
      · exact ⟨⟨k, p, e, r, rfl⟩⟩

/-! ### A lane that enters ACTIVE (R31, R36) -/

/-- The blind list once an interval has closed. -/
def closedAt (interval : Option Nat) (label : Nat) (blind : List Interval) : List Interval :=
  match interval with
  | none => blind
  | some id => blind.map fun b => if b.id = id then { b with yEnd := some label } else b

/-- The state in which a lane has entered ACTIVE, before K is recomputed. -/
def activated (i : LaneId) (n : Nat) (s : State) : State :=
  let label := max ((n + 1) * s.pos.geometry.pitch) s.tracker.frontier
  { s with
    lanes := s.lanes.set i.val { s.lanes[i.val] with state := .active, acceptance := label, interval := none },
    map := { s.map with blind := closedAt s.lanes[i.val].interval label s.map.blind },
    port := { s.port with events := s.port.events ||| Event.laneChanged.single } }

theorem enterActive_eq {i : LaneId} {n : Nat} {s : State} (h : s.lanes[i.val].state ≠ .active) :
    enterActive i n s = recomputeK (activated i n s) := by
  have hset (u : State) (hu : (u.lane i).state ≠ .active) (label : Nat) :
      setLaneState i .active (u.modLane i fun l => { l with acceptance := label, interval := none }) =
        raise .laneChanged (u.modLane i fun l => { l with state := .active, acceptance := label, interval := none }) := by
    rw [setLaneState_of_ne (by rw [lane_modLane_same]; exact hu), modLane_modLane]
  unfold enterActive
  dsimp only
  cases hv : (s.lane i).interval with
  | none =>
    dsimp only
    rw [hset s h]
    have hclosed : closedAt s.lanes[i.val].interval (max ((n + 1) * s.pos.geometry.pitch) s.tracker.frontier) s.map.blind = s.map.blind := by
      rw [show s.lanes[i.val].interval = none from hv]
      rfl
    simp only [activated, hclosed]
    rfl
  | some id =>
    dsimp only
    rw [closeInterval_eq, hset _ (by exact h)]
    have hclosed : closedAt s.lanes[i.val].interval (max ((n + 1) * s.pos.geometry.pitch) s.tracker.frontier) s.map.blind =
        s.map.blind.map fun b => if b.id = id then { b with yEnd := some (max ((n + 1) * s.pos.geometry.pitch) s.tracker.frontier) } else b := by
      rw [show s.lanes[i.val].interval = some id from hv]
      rfl
    simp only [activated, hclosed]
    rfl

/-! ### The whole of a line in SETTLING -/

theorem LineNoted.trans {s t u : State} (h : LineNoted s t) (g : LineNoted t u) : LineNoted s u := by
  obtain ⟨k, p, e, r, rfl⟩ := h.frame
  obtain ⟨k', p', e', r', rfl⟩ := g.frame
  exact ⟨⟨k', p', e', r', rfl⟩⟩

theorem LineNoted.modLane {s t : State} (h : LineNoted s t) (i : LaneId) (g : Lane → Lane) : LineNoted (s.modLane i g) (t.modLane i g) := by
  obtain ⟨k, p, e, r, rfl⟩ := h.frame
  exact ⟨⟨k, p, e, r, rfl⟩⟩

theorem tryUncrowd_other {n : Nat} {i : LaneId} {d : Digest} {s : State} (h : s.lanes[i.val].state ≠ .crowded) : tryUncrowd n i d s = s :=
  if_neg fun hc => h hc.1

/-- What the lane's registers hold once a line is finished. -/
def Lane.finished (n : Nat) (l : Lane) : Lane := { l with lastProcessed := some n, expected := n + 1 }

theorem finishLine_noted {n : Nat} {i : LaneId} {d : Digest} {x y : State} (h : LineNoted y x) (htable : y.tracker.tables[i.val] = ⟨[], []⟩)
    (hst : y.lanes[i.val].state ≠ .crowded) :
    LineNoted (y.modLane i (Lane.finished n)) (tryUncrowd n i d (finishLine n i x)) := by
  have hx := h.modLane i (Lane.finished n)
  have hwork : LineNoted (y.modLane i (Lane.finished n)) (finishLine n i x) := by
    refine hx.trans (trackerWork_empty ?_)
    obtain ⟨k, p, e, r, rfl⟩ := h.frame
    exact htable
  have hlane : (finishLine n i x).lanes[i.val].state ≠ .crowded := by
    obtain ⟨k, p, e, r, hu⟩ := hwork.frame
    rw [hu]
    have := lane_modLane_same i (Lane.finished n) y
    exact (congrArg Lane.state this :) ▸ hst
  rw [tryUncrowd_other hlane]
  exact hwork

theorem settled_iff {s : State} {set now : DetectionSet} {i : LaneId} (h : s.tracker.active = some now) : s.settled set i = true ↔
    ∀ q ∈ set.slots ++ now.slots, 8 ≤ (s.lanes[i.val].rings.get q.kind).length := by
  simp only [State.settled, h, Option.map_some, Option.getD_some, List.all_eq_true, decide_eq_true_iff, List.mem_append, mem_kinds]
  constructor
  · rintro hall q hq
    exact hall q.kind (hq.imp (fun hq => ⟨q, hq, rfl⟩) fun hq => ⟨q, hq, rfl⟩)
  · rintro hall k (⟨q, hq, rfl⟩ | ⟨q, hq, rfl⟩)
    · exact hall q (.inl hq)
    · exact hall q (.inr hq)

/-- The part of O25 about SETTLING. -/
theorem settlingDigest {s : State} {i : LaneId} {d : Digest} {n : Nat} {set now : DetectionSet} {slot : Slot} {a : State} {l : Lane}
    (ha : a = { s with lanes := s.lanes.set i.val l }) (hm : s.port.mode.scanning = true) (hl : l.state = .settling)
    (hinterval : l.interval = s.lanes[i.val].interval) (htable : s.tracker.tables[i.val] = ⟨[], []⟩) (hactive : s.tracker.active = some now) :
    ((processRuns set n slot i d a).lanes[i.val].rings = l.rings ∧
      (processRuns set n slot i d a).lanes[i.val].limitRuns = l.limitRuns ∧
      (processRuns set n slot i d a).lanes[i.val].lastProcessed = some n ∧ (processRuns set n slot i d a).lanes[i.val].expected = n + 1 ∧
      (processRuns set n slot i d a).lanes[i.val].persistence = [] ∧
      (∀ j : LaneId, j ≠ i → (processRuns set n slot i d a).lanes[j.val] = s.lanes[j.val]) ∧
      (processRuns set n slot i d a).port.mode = s.port.mode ∧ (processRuns set n slot i d a).fault = s.fault ∧
      (processRuns set n slot i d a).map.entries = s.map.entries ∧ (processRuns set n slot i d a).tracker.tables = s.tracker.tables ∧
      ((∃ q ∈ set.slots ++ now.slots, (l.rings.get q.kind).length < 8) →
        (processRuns set n slot i d a).lanes[i.val].state = .settling ∧
        (processRuns set n slot i d a).lanes[i.val].interval = s.lanes[i.val].interval ∧
        (processRuns set n slot i d a).map.blind = s.map.blind) ∧
      ((∀ q ∈ set.slots ++ now.slots, 8 ≤ (l.rings.get q.kind).length) →
        (processRuns set n slot i d a).lanes[i.val].state = .active ∧ (processRuns set n slot i d a).lanes[i.val].interval = none ∧
        (processRuns set n slot i d a).lanes[i.val].acceptance = max ((n + 1) * s.pos.geometry.pitch) s.tracker.frontier ∧
        ∀ id, s.lanes[i.val].interval = some id → (processRuns set n slot i d a).map.blind = s.map.blind.map fun b =>
          if b.id = id then { b with yEnd := some (max ((n + 1) * s.pos.geometry.pitch) s.tracker.frontier) } else b)) := by
  have hrun : s.port.mode ≠ .halted := fun hh => by
    rw [hh] at hm
    cases hm
  have halane : a.lane i = l := by
    rw [ha]
    exact Vector.getElem_set_self ..
  have hstage : stageThree set n slot i d a = settle set n i a := if_pos (by rw [halane, hl])
  -- the lane with its persistence tracker emptied
  have hflane : (forgetNarrow i a).lanes[i.val] = { l with persistence := [] } := (lane_modLane_same ..).trans (by rw [halane])
  have hfother : ∀ j : LaneId, j ≠ i → (forgetNarrow i a).lanes[j.val] = s.lanes[j.val] := fun j hj => by
    refine (lane_modLane_other i j _ a hj).trans ?_
    rw [ha]
    exact Vector.getElem_set_ne i.isLt j.isLt (fun h => hj (Fin.ext h.symm))
  have hf : (forgetNarrow i a).port = s.port ∧ (forgetNarrow i a).fault = s.fault ∧ (forgetNarrow i a).map = s.map ∧
      (forgetNarrow i a).tracker = s.tracker ∧ (forgetNarrow i a).pos = s.pos := by
    rw [ha]
    exact ⟨rfl, rfl, rfl, rfl, rfl⟩
  obtain ⟨hfport, hffault, hfmap, hftracker, hfpos⟩ := hf
  have hsettle : settle set n i a = if (forgetNarrow i a).settled set i then enterActive i n (forgetNarrow i a) else forgetNarrow i a := rfl
  have hsettled := settled_iff (s := forgetNarrow i a) (set := set) (now := now) (i := i) (by rw [hftracker, hactive])
  rw [hflane] at hsettled
  generalize forgetNarrow i a = f at *
  rw [processRuns_eq, hstage, hsettle]
  by_cases hall : ∀ q ∈ set.slots ++ now.slots, 8 ≤ (l.rings.get q.kind).length
  · rw [if_pos (hsettled.2 hall), enterActive_eq (by rw [hflane]; simp [hl])]
    have hnoted := recomputeK_noted (activated i n f)
    have hylane : (activated i n f).lanes[i.val] = { f.lanes[i.val] with
      state := .active, acceptance := max ((n + 1) * f.pos.geometry.pitch) f.tracker.frontier, interval := none } := Vector.getElem_set_self ..
    have hyother : ∀ j : LaneId, j ≠ i → (activated i n f).lanes[j.val] = f.lanes[j.val] := fun j hj =>
      Vector.getElem_set_ne i.isLt j.isLt (fun h => hj (Fin.ext h.symm))
    obtain ⟨k, p, e, r, hu⟩ := (finishLine_noted (n := n) (d := d) hnoted (by rw [← htable, ← hftracker]; rfl) (by rw [hylane]; exact (by decide : LaneState.active ≠ .crowded))).frame
    have hmode : (recomputeK (activated i n f)).port.mode = s.port.mode := by
      rw [(recomputeK_calm _).1.mode, ← hfport]
      rfl
    rw [if_neg (by rw [hmode]; exact hrun), hu]
    have hulane := lane_modLane_same i (Lane.finished n) (activated i n f)
    rw [State.lane, State.lane, hylane, hflane] at hulane
    have huother : ∀ j : LaneId, j ≠ i → ((activated i n f).modLane i (Lane.finished n)).lanes[j.val] = s.lanes[j.val] := fun j hj =>
      (lane_modLane_other i j _ _ hj).trans ((hyother j hj).trans (hfother j hj))
    refine ⟨(congrArg Lane.rings hulane :), (congrArg Lane.limitRuns hulane :), (congrArg Lane.lastProcessed hulane :),
      (congrArg Lane.expected hulane :), (congrArg Lane.persistence hulane :), huother, (congrArg Port.mode hfport :), hffault,
      (congrArg MapUnit.entries hfmap :), (congrArg Tracker.tables hftracker :), fun ⟨q, hq, hlt⟩ => absurd (hall q hq) (Nat.not_le.2 hlt),
      fun _ => ⟨(congrArg Lane.state hulane :), (congrArg Lane.interval hulane :), (congrArg Lane.acceptance hulane :).trans ?_,
        fun id hid => ?_⟩⟩
    · change max ((n + 1) * f.pos.geometry.pitch) f.tracker.frontier = _
      rw [hfpos, hftracker]
    · change closedAt f.lanes[i.val].interval (max ((n + 1) * f.pos.geometry.pitch) f.tracker.frontier) f.map.blind = _
      rw [hflane, hfpos, hftracker, hfmap, show ({ l with persistence := [] } : Lane).interval = some id from hinterval.trans hid]
      rfl
  · rw [if_neg fun hc => hall (hsettled.1 hc)]
    obtain ⟨k, p, e, r, hu⟩ := (finishLine_noted (n := n) (d := d) (x := f) (y := f) ⟨⟨_, _, _, _, rfl⟩⟩ (by rw [hftracker, htable])
      (by rw [hflane]; simp [hl])).frame
    rw [if_neg (by rw [hfport]; exact hrun), hu]
    have hulane := lane_modLane_same i (Lane.finished n) f
    rw [State.lane, State.lane, hflane] at hulane
    have huother : ∀ j : LaneId, j ≠ i → (f.modLane i (Lane.finished n)).lanes[j.val] = s.lanes[j.val] := fun j hj =>
      (lane_modLane_other i j _ _ hj).trans (hfother j hj)
    exact ⟨(congrArg Lane.rings hulane :), (congrArg Lane.limitRuns hulane :), (congrArg Lane.lastProcessed hulane :),
      (congrArg Lane.expected hulane :), (congrArg Lane.persistence hulane :), huother, (congrArg Port.mode hfport :), hffault,
      (congrArg MapUnit.entries hfmap :), (congrArg Tracker.tables hftracker :),
      fun _ => ⟨(congrArg Lane.state hulane :).trans hl, (congrArg Lane.interval hulane :).trans hinterval, (congrArg MapUnit.blind hfmap :)⟩,
      fun h => absurd h hall⟩

end Sys2Proof.Machine
end

section
/-!
A digest in ACTIVE and CROWDED (R27, R35 to R37): the runs handed on one by one until the line halts, and what follows them.
-/

namespace Sys2Proof.Machine

/-! ### A lane whose runs are handed on -/

/-- A state in which lane `i` hands on its runs: what decides which runs it keeps is that of the lane `l`, and a class 2 report would halt the
line and not reset it. -/
structure Handing (i : LaneId) (now : DetectionSet) (l : Lane) (u : State) : Prop where
  geometry : (u.lane i).geometry = l.geometry
  rings : (u.lane i).rings = l.rings
  dark : (u.lane i).dark = l.dark
  staticMask : (u.lane i).staticMask = l.staticMask
  dynColumns : (u.lane i).dynColumns = l.dynColumns
  active : u.tracker.active = some now
  going : u.port.mode = .halted ∧ (u.lane i).state = .crowded ∨ u.port.mode.scanning = true ∧
    ((u.lane i).state = .crowded ∨ (u.lane i).state = .active ∧ (u.map.blind.length < 64 ∨ ∀ r, u.fault.slot ≠ .haltHeld r))

section
variable {i : LaneId} {now : DetectionSet} {l : Lane} {u : State}

theorem Handing.keep (h : Handing i now l u) (n : Nat) (slot : Slot) (r : Run) : (u.lane i).keep n slot r = l.keep n slot r := by
  have hmasked (r : Run) : (u.lane i).allMasked r = l.allMasked r := by
    simp only [Lane.allMasked, Lane.masked, h.staticMask, h.dynColumns]
  unfold Lane.keep
  rw [h.geometry, h.rings, h.dark]
  split
  · rfl
  · rw [hmasked]

/-- R35: an ACTIVE lane made CROWDED; with the list full the line halts. -/
theorem crowd_handing (h : Handing i now l u) : Handing i now l (crowd i u) := by
  by_cases hst : (u.lane i).state = .active
  · obtain ⟨hm, hfree⟩ : u.port.mode.scanning = true ∧ (u.map.blind.length < 64 ∨ ∀ r, u.fault.slot ≠ .haltHeld r) := by
      rcases h.going with ⟨-, hc⟩ | ⟨hm, hc | ⟨-, hfree⟩⟩
      · rw [hst] at hc
        cases hc
      · rw [hst] at hc
        cases hc
      · exact ⟨hm, hfree⟩
    have he : Entered i .crowded u (enterState i .crowded u) := enterState_entered (show LaneState.crowded ≠ (u.lane i).state by rw [hst]; decide)
    have hlane := enterState_lane i .crowded u
    have hcrowd : crowd i u = openLaneInterval i ((enterState i .crowded u).horizon i) (enterState i .crowded u) := by
      rw [crowd, if_pos hst, laneTo_eq, if_neg (by simp [LaneState.following]), placeInterval, if_pos hst]
    have hsame (v : State) (hv : ∃ x, v.lane i = { (enterState i .crowded u).lane i with interval := x }) (ht : v.tracker = u.tracker)
        (hgo : v.port.mode = .halted ∨ v.port.mode.scanning = true) : Handing i now l v := by
      obtain ⟨x, hx⟩ := hv
      rw [hlane] at hx
      refine ⟨by rw [hx]; exact h.geometry, by rw [hx]; exact h.rings, by rw [hx]; exact h.dark, by rw [hx]; exact h.staticMask,
        by rw [hx]; exact h.dynColumns, by rw [ht]; exact h.active, ?_⟩
      have hst' : (v.lane i).state = .crowded := by rw [hx]
      exact hgo.imp (fun hm => ⟨hm, hst'⟩) fun hm => ⟨hm, .inl hst'⟩
    rw [hcrowd]
    have hme : (enterState i .crowded u).port.mode.scanning = true := by rw [he.mode, hm]
    cases hspan : (enterState i .crowded u).netSpan i with
    | none =>
      rw [openLaneInterval_none hspan]
      exact hsame _ ⟨_, rfl⟩ he.tracker (.inr hme)
    | some x =>
      by_cases hroom : (enterState i .crowded u).map.blind.length < 64
      · rw [openLaneInterval_room hspan hroom]
        exact hsame _ ⟨some (enterState i .crowded u).map.nextId,
          (lane_modLane_same i (fun l => { l with interval := some (enterState i .crowded u).map.nextId }) _ :)⟩ he.tracker (.inr hme)
      · have hslot : ∀ r, (enterState i .crowded u).fault.slot ≠ .haltHeld r := by
          rw [he.fault]
          exact hfree.resolve_left (he.blind ▸ hroom)
        rw [openLaneInterval_full hspan (Nat.not_lt.1 hroom), report2_scanning _ _ ((enterState i .crowded u).modLane i fun l => { l with interval := none }) hslot hme]
        have hhalt := captureHalt_halted .blindListFull { (enterState i .crowded u).here with lane := some i }
          ((enterState i .crowded u).modLane i fun l => { l with interval := none })
        refine hsame _ ⟨none, ?_⟩ (hhalt.tracker.trans he.tracker) (.inl hhalt.mode)
        rw [State.lane, hhalt.lanes]
        exact (lane_modLane_same i (fun l => { l with interval := none }) _ :)
  · rw [crowd, if_neg hst]
    exact h

/-- A run handed on changes tables and ids alone. -/
theorem handRun_frame (set : DetectionSet) (i : LaneId) (r : KeptRun) (s : State) : ∃ tables next, (handRun set i r s).1 =
    { s with tracker := { s.tracker with tables := tables, nextId := next } } := by
  unfold handRun
  dsimp only
  split
  · exact ⟨_, _, rfl⟩
  split
  · exact ⟨_, _, rfl⟩
  · exact ⟨_, _, rfl⟩

theorem takeRun_handing (set : DetectionSet) (r : KeptRun) (h : Handing i now l u) : Handing i now l (takeRun set i r u) := by
  obtain ⟨tables, next, hf⟩ := handRun_frame set i r u
  have hhand : Handing i now l (handRun set i r u).1 := by
    rw [hf]
    exact ⟨h.geometry, h.rings, h.dark, h.staticMask, h.dynColumns, h.active, h.going⟩
  unfold takeRun
  dsimp only
  split
  · exact crowd_handing hhand
  · exact hhand

/-- A halt part way is final. -/
theorem takeRun_halted (set : DetectionSet) (r : KeptRun) (h : Handing i now l u) (hm : u.port.mode = .halted) :
    (takeRun set i r u).port.mode = .halted := by
  have hst : (u.lane i).state = .crowded := by
    rcases h.going with ⟨-, hst⟩ | ⟨hscan, -⟩
    · exact hst
    · rw [hm] at hscan
      cases hscan
  obtain ⟨tables, next, hf⟩ := handRun_frame set i r u
  have hcrowd : crowd i (handRun set i r u).1 = (handRun set i r u).1 := by
    refine if_neg ?_
    rw [hf]
    intro hc
    exact absurd (hst.symm.trans hc) (by decide)
  unfold takeRun
  dsimp only
  rw [hcrowd, ite_self, hf]
  exact hm

end

/-! ### The runs of a digest, one by one -/

/-- Every run handed on, the line's halts not regarded. -/
def handed (set : DetectionSet) (i : LaneId) (rs : List KeptRun) (v : State) : State := rs.foldl (fun v r => takeRun set i r v) v

/-- The runs handed on until the line halts. -/
def handOn (set : DetectionSet) (i : LaneId) (rs : List KeptRun) (v : State) : State :=
  rs.foldl (fun v r => if v.port.mode = .halted then v else takeRun set i r v) v

section
variable {set now : DetectionSet} {i : LaneId} {l : Lane}

theorem handed_handing (rs : List KeptRun) {v : State} (h : Handing i now l v) : Handing i now l (handed set i rs v) := by
  induction rs generalizing v with
  | nil => exact h
  | cons r rs ih => exact ih (takeRun_handing set r h)

theorem handed_halted (rs : List KeptRun) {v : State} (h : Handing i now l v) (hm : v.port.mode = .halted) :
    (handed set i rs v).port.mode = .halted := by
  induction rs generalizing v with
  | nil => exact hm
  | cons r rs ih => exact ih (takeRun_handing set r h) (takeRun_halted set r h hm)

theorem handOn_halted (rs : List KeptRun) {v : State} (hm : v.port.mode = .halted) : handOn set i rs v = v := by
  induction rs with
  | nil => rfl
  | cons r rs ih =>
    rw [handOn, List.foldl_cons, if_pos hm]
    exact ih

theorem handOn_eq_handed (rs : List KeptRun) {v : State} (h : Handing i now l v) (hm : (handed set i rs v).port.mode ≠ .halted) :
    handOn set i rs v = handed set i rs v := by
  induction rs generalizing v with
  | nil => rfl
  | cons r rs ih =>
    have hv : v.port.mode ≠ .halted := fun hv => hm (handed_halted _ h hv)
    rw [handOn, List.foldl_cons, if_neg hv]
    exact ih (takeRun_handing set r h) hm

/-- The runs handed on end with the first that halts the line. -/
theorem handOn_first {before after : List KeptRun} {v : State} (h : Handing i now l v) (hm : (handed set i before v).port.mode = .halted)
    (hfirst : ∀ b r, before = b ++ [r] → (handed set i b v).port.mode ≠ .halted) :
    handOn set i (before ++ after) v = handed set i before v := by
  have hbefore : handOn set i before v = handed set i before v := by
    rcases List.eq_nil_or_concat before with rfl | ⟨b, r, rfl⟩
    · rfl
    · rw [List.concat_eq_append] at *
      have hb := hfirst b r rfl
      rw [handOn, List.foldl_append, List.foldl_cons, List.foldl_nil, handed, List.foldl_append]
      have heq := handOn_eq_handed b h hb
      rw [handOn] at heq
      rw [heq, if_neg hb]
      rfl
  have happend : handOn set i (before ++ after) v = handOn set i after (handOn set i before v) := List.foldl_append ..
  rw [happend, hbefore, handOn_halted _ hm]

/-- R32 to R35: stage 3 hands on the kept runs until the line halts, and notes the first columns of the narrow ones. -/
theorem runSteps_eq {n : Nat} {slot : Slot} (rs : List Run) {v : State} (cols : List Nat) (h : Handing i now l v) :
    (rs.foldl (runStep set n slot i) (v, cols)).1 = handOn set i (rs.filterMap fun r => l.keep n slot r) v ∧
    ((handOn set i (rs.filterMap fun r => l.keep n slot r) v).port.mode ≠ .halted →
      (rs.foldl (runStep set n slot i) (v, cols)).2 =
        cols ++ ((rs.filterMap fun r => l.keep n slot r).filter KeptRun.narrow).map KeptRun.first) := by
  induction rs generalizing v cols with
  | nil => simp [handOn]
  | cons r rs ih =>
    by_cases hm : v.port.mode = .halted
    · have hstep : ∀ xs : List Run, xs.foldl (runStep set n slot i) (v, cols) = (v, cols) := by
        intro xs
        induction xs with
        | nil => rfl
        | cons x xs ihx => rw [List.foldl_cons, show runStep set n slot i (v, cols) x = (v, cols) from if_pos hm, ihx]
      rw [hstep, handOn_halted _ hm]
      exact ⟨rfl, fun hn => absurd hm hn⟩
    · cases hk : l.keep n slot r with
      | none =>
        have hstep : runStep set n slot i (v, cols) r = (v, cols) := by
          rw [runStep, if_neg (show ¬ v.mode = .halted from hm)]
          dsimp only
          rw [h.keep, hk]
        rw [List.foldl_cons, hstep, List.filterMap_cons_none hk]
        exact ih cols h
      | some k =>
        have hstep : runStep set n slot i (v, cols) r = (takeRun set i k v, if k.narrow then cols ++ [k.first] else cols) := by
          rw [runStep, if_neg (show ¬ v.mode = .halted from hm)]
          dsimp only
          rw [h.keep, hk]
        have hon : handOn set i (k :: rs.filterMap fun r => l.keep n slot r) v =
            handOn set i (rs.filterMap fun r => l.keep n slot r) (takeRun set i k v) := by
          rw [handOn, List.foldl_cons, if_neg hm]
          rfl
        rw [List.foldl_cons, hstep, List.filterMap_cons_some hk, hon]
        obtain ⟨hstate, hcols⟩ := ih (if k.narrow then cols ++ [k.first] else cols) (takeRun_handing set k h)
        refine ⟨hstate, fun hn => (hcols hn).trans ?_⟩
        cases hnarrow : k.narrow <;> simp [hnarrow]

end

/-! ### The whole of a line in ACTIVE and CROWDED -/

theorem takeOverflow_eq (i : LaneId) (d : Digest) (s : State) :
    takeOverflow i d s = if d.overflow = true ∧ s.lanes[i.val].state = .active then laneTo i .crowded s else s := by
  by_cases ho : d.overflow = true
  · by_cases hst : s.lanes[i.val].state = .active
    · exact (if_pos ho).trans ((if_pos hst).trans (if_pos ⟨ho, hst⟩).symm)
    · exact (if_pos ho).trans ((if_neg hst).trans (if_neg fun h => hst h.2).symm)
  · exact (if_neg ho).trans (if_neg fun h => ho h.1).symm

theorem takeOverflow_handing {i : LaneId} {now : DetectionSet} {l : Lane} {u : State} (d : Digest) (h : Handing i now l u) :
    Handing i now l (takeOverflow i d u) := by
  unfold takeOverflow
  split
  · exact crowd_handing h
  · exact h

theorem followNarrow_halted {n : Nat} {i : LaneId} {cols : List Nat} {s : State} (h : s.port.mode = .halted) : followNarrow n i cols s = s :=
  if_pos (.inr h)

section
variable {set now : DetectionSet} {n : Nat} {slot : Slot} {i : LaneId} {d : Digest} {a : State}

/-- Stage 3 of a line whose lane is not SETTLING. -/
theorem processRuns_used (hst : (a.lane i).state ≠ .settling) : processRuns set n slot i d a =
    if (useRuns set n slot i d a).port.mode = .halted then useRuns set n slot i d a
    else tryUncrowd n i d (finishLine n i (useRuns set n slot i d a)) := by
  have hstage : stageThree set n slot i d a = useRuns set n slot i d a := if_neg hst
  rw [processRuns_eq, hstage]

/-- R27: below the acceptance label no run is used. -/
theorem useRuns_below (h : n * a.pos.geometry.pitch < (a.lane i).acceptance) : useRuns set n slot i d a = forgetNarrow i a := by
  unfold useRuns
  exact if_neg fun hc => absurd (of_decide_eq_true hc) (Nat.not_le.2 h)

theorem useRuns_accepted (h : (a.lane i).acceptance ≤ n * a.pos.geometry.pitch) : useRuns set n slot i d a = acceptRuns set n slot i d a :=
  if_pos (decide_eq_true h)

theorem acceptRuns_kindGone {l : Lane} (h : Handing i now l a) (hgone : ∀ q ∈ now.slots, q.kind ≠ slot.kind) :
    acceptRuns set n slot i d a = forgetNarrow i (takeOverflow i d a) := by
  rw [acceptRuns_eq]
  refine if_neg fun hc => ?_
  obtain ⟨q, hq, hk⟩ := (keepsKind_iff (takeOverflow_handing d h).active _).1 hc
  exact hgone q hq hk

/-- Stage 3 with the kind held: the runs handed on until a halt, and with none the narrow ones followed. -/
theorem acceptRuns_used {l : Lane} (h : Handing i now l a) (hheld : ∃ q ∈ now.slots, q.kind = slot.kind) :
    ((handOn set i (d.runs.filterMap fun r => l.keep n slot r) (takeOverflow i d a)).port.mode = .halted →
      acceptRuns set n slot i d a = handOn set i (d.runs.filterMap fun r => l.keep n slot r) (takeOverflow i d a)) ∧
    ((handOn set i (d.runs.filterMap fun r => l.keep n slot r) (takeOverflow i d a)).port.mode ≠ .halted →
      acceptRuns set n slot i d a =
        followNarrow n i (((d.runs.filterMap fun r => l.keep n slot r).filter KeptRun.narrow).map KeptRun.first)
          (handOn set i (d.runs.filterMap fun r => l.keep n slot r) (takeOverflow i d a))) := by
  have hover := takeOverflow_handing d h
  obtain ⟨hstate, hcols⟩ := runSteps_eq (set := set) (n := n) (slot := slot) d.runs [] hover
  rw [acceptRuns_eq, if_pos ((keepsKind_iff hover.active _).2 hheld), hstate]
  exact ⟨fun hm => followNarrow_halted hm, fun hm => by rw [hcols hm, List.nil_append]⟩

end

/-! ### A run that crowds its lane, and a lane no longer crowded -/

theorem takeRun_dropped {set : DetectionSet} {i : LaneId} {r : KeptRun} {s : State} (h : (handRun set i r s).2 = true)
    (hst : s.lanes[i.val].state = .active) : takeRun set i r s = laneTo i .crowded (handRun set i r s).1 := by
  obtain ⟨tables, next, hf⟩ := handRun_frame set i r s
  rw [show takeRun set i r s = crowd i (handRun set i r s).1 from if_pos h]
  refine if_pos ?_
  rw [hf]
  exact hst

theorem takeRun_kept {set : DetectionSet} {i : LaneId} {r : KeptRun} {s : State}
    (h : (handRun set i r s).2 = false ∨ s.lanes[i.val].state ≠ .active) : takeRun set i r s = (handRun set i r s).1 := by
  obtain ⟨tables, next, hf⟩ := handRun_frame set i r s
  have hcrowd (hst : s.lanes[i.val].state ≠ .active) : crowd i (handRun set i r s).1 = (handRun set i r s).1 := by
    refine if_neg ?_
    rw [hf]
    exact hst
  unfold takeRun
  dsimp only
  rcases h with h | h
  · rw [h]
    rfl
  · rw [hcrowd h, ite_self]

theorem tryUncrowd_stays {n : Nat} {i : LaneId} {d : Digest} {s : State}
    (h : s.lanes[i.val].state ≠ .crowded ∨ d.overflow = true ∨ 24 < s.tracker.tables[i.val].flaws.length ∨ s.port.mode = .halted) :
    tryUncrowd n i d s = s := by
  refine if_neg fun ⟨hst, hover, hfew, hm⟩ => ?_
  rcases h with h | h | h | h
  · exact h hst
  · rw [hover] at h
    cases h
  · exact absurd hfew (Nat.not_le.2 h)
  · exact hm h

/-- R36: the whole of what an uncrowded lane changes. -/
theorem tryUncrowd_enters {n : Nat} {i : LaneId} {d : Digest} {s : State} (hst : s.lanes[i.val].state = .crowded) (hover : d.overflow = false)
    (hfew : s.tracker.tables[i.val].flaws.length ≤ 24) (hm : s.port.mode ≠ .halted) :
    (tryUncrowd n i d s).lanes = (activated i n s).lanes ∧ (tryUncrowd n i d s).latched .laneChanged = true ∧
      (tryUncrowd n i d s).tracker.tables = s.tracker.tables ∧ (tryUncrowd n i d s).map = (activated i n s).map := by
  have hdef : tryUncrowd n i d s = recomputeK (activated i n s) :=
    (if_pos ⟨hst, hover, hfew, hm⟩).trans (enterActive_eq (by rw [hst]; decide))
  obtain ⟨k, p, -, hk⟩ := recomputeK_spec (activated i n s)
  rw [hdef, hk]
  exact ⟨rfl, (latched_raise .laneChanged .laneChanged s).trans (by simp), rfl, rfl⟩

end Sys2Proof.Machine
end

section
/-!
Stuck columns (R37, R55): the persistence tracker after a line, and the flaws that a newly listed column closes.
-/

namespace Sys2Proof.Machine

/-! ### Closing flaws under the halt law: no report resets the line -/

/-- What an insertion into the map leaves. -/
structure Inserted (s t : State) : Prop where
  lanes : t.lanes = s.lanes
  tracker : t.tracker = s.tracker
  latched : ∀ e, s.latched e = true → t.latched e = true

theorem notHalted_slot {s : State} (hlaw : HaltLaw s) (hm : s.port.mode ≠ .halted) : ∀ r, s.fault.slot ≠ .haltHeld r :=
  fun r hr => hm (hlaw.2 ⟨r, hr⟩)

theorem report2_inserted (k : FaultKind) (it : ReportItems) {s : State} (hlaw : HaltLaw s) (hm : s.port.mode ≠ .halted) :
    Inserted s (report2 k it s) := by
  have hslot := notHalted_slot hlaw hm
  cases hscan : s.port.mode.scanning with
  | true =>
    rw [report2_scanning k it s hslot hscan]
    have hhalt := captureHalt_halted k it s
    exact ⟨hhalt.lanes, hhalt.tracker, fun e he => hhalt.latched e (by rw [latched_fillSlot, he, Bool.true_or])⟩
  | false =>
    rw [report2_idle k it s hslot hscan]
    unfold reportIdle
    split
    · exact ⟨rfl, rfl, fun e he => by rw [latched_fillSlot, he, Bool.true_or]⟩
    · exact ⟨rfl, rfl, fun _ => id⟩
    · exact ⟨rfl, rfl, fun _ => id⟩

theorem openInterval_inserted (r : BlindReason) (lane : Option LaneId) (a b y : Nat) {s : State} (hlaw : HaltLaw s)
    (hm : s.port.mode ≠ .halted) : Inserted s (openInterval r lane a b y s) := by
  unfold openInterval
  split
  · exact report2_inserted _ _ hlaw hm
  · exact ⟨rfl, rfl, fun e he => (latched_raise ..).trans (Bool.or_eq_true_iff.2 (.inl he))⟩

theorem coverRefused_inserted (b : Nat) {s : State} (hlaw : HaltLaw s) (hm : s.port.mode ≠ .halted) : Inserted s (coverRefused b s) := by
  unfold coverRefused
  split
  · exact openInterval_inserted _ _ _ _ _ hlaw hm
  split <;> exact ⟨rfl, rfl, fun _ => id⟩

theorem insertAlone_inserted (e : MapEntry) {s : State} (hlaw : HaltLaw s) (hm : s.port.mode ≠ .halted) : Inserted s (insertAlone e s) := by
  unfold insertAlone
  split
  · unfold noteHigh
    split
    · exact ⟨rfl, rfl, fun f hf => (latched_raise ..).trans (Bool.or_eq_true_iff.2 (.inl hf))⟩
    · exact ⟨rfl, rfl, fun _ => id⟩
  · rename_i hfull
    obtain ⟨hlanes, htracker, hlatched⟩ := coverRefused_inserted (max e.yFirst s.lastAllEnd) (s := refusedState e s) hlaw hm
    have hdef : refuseFlaw e s = coverRefused (max e.yFirst s.lastAllEnd) (refusedState e s) :=
      (if_neg hfull).symm.trans (insertAlone_refused (Nat.not_lt.1 hfull))
    rw [hdef]
    exact ⟨hlanes, htracker, hlatched⟩

theorem mapInsert_inserted (set : DetectionSet) (i : LaneId) (e : MapEntry) {s : State} (hlaw : HaltLaw s) (hm : s.port.mode ≠ .halted) :
    Inserted s (mapInsert set i e s) := by
  unfold mapInsert
  split
  · exact insertAlone_inserted _ hlaw hm
  split
  · exact ⟨rfl, rfl, fun _ => id⟩
  · exact insertAlone_inserted _ hlaw hm

section
variable {set : DetectionSet} {i : LaneId} {cause : CloseCause} {s : State}

/-- A flaw that closes in a mode other than HALTED leaves its table; the lanes stay and no event is cleared. -/
theorem closeFlaw_closed (f : OpenFlaw) (hlaw : HaltLaw s) :
    (closeFlaw set i cause s f).lanes = s.lanes ∧ (∀ e, s.latched e = true → (closeFlaw set i cause s f).latched e = true) ∧
    (s.port.mode ≠ .halted → (closeFlaw set i cause s f).tracker.tables[i.val] =
      { s.tracker.tables[i.val] with flaws := s.tracker.tables[i.val].flaws.filter fun q => q.id != f.id }) := by
  by_cases hm : s.port.mode = .halted
  · rw [show closeFlaw set i cause s f = s from if_pos hm]
    exact ⟨rfl, fun _ => id, fun h => absurd hm h⟩
  · rw [show closeFlaw set i cause s f = recomputeK (mapInsert set i (s.closedFlaw set i cause f)
      (s.modTable i fun t => { t with flaws := t.flaws.filter fun q => q.id != f.id })) from if_neg hm]
    have hins := mapInsert_inserted set i (s.closedFlaw set i cause f)
      (s := s.modTable i fun t => { t with flaws := t.flaws.filter fun q => q.id != f.id }) hlaw hm
    obtain ⟨k, p, -, hk⟩ := recomputeK_spec (mapInsert set i (s.closedFlaw set i cause f)
      (s.modTable i fun t => { t with flaws := t.flaws.filter fun q => q.id != f.id }))
    rw [hk]
    refine ⟨hins.lanes, hins.latched, fun _ => ?_⟩
    dsimp only
    rw [hins.tracker]
    exact (table_modTable_same i (fun t => { t with flaws := t.flaws.filter fun q => q.id != f.id }) s :)

theorem closeFlaws_closed (fs : List OpenFlaw) (hlaw : HaltLaw s) :
    (fs.foldl (closeFlaw set i cause) s).lanes = s.lanes ∧
    (∀ e, s.latched e = true → (fs.foldl (closeFlaw set i cause) s).latched e = true) ∧
    ((fs.foldl (closeFlaw set i cause) s).port.mode ≠ .halted → (fs.foldl (closeFlaw set i cause) s).tracker.tables[i.val] =
      { s.tracker.tables[i.val] with flaws := s.tracker.tables[i.val].flaws.filter fun q => fs.all fun f => q.id != f.id }) := by
  induction fs generalizing s with
  | nil => exact ⟨rfl, fun _ => id, fun _ => by simp⟩
  | cons f fs ih =>
    obtain ⟨hlanes, hlatched, htable⟩ := closeFlaw_closed (set := set) (i := i) (cause := cause) f hlaw
    obtain ⟨hlanes', hlatched', htable'⟩ := ih ((closeFlaw_keeps set i cause s f).halt hlaw)
    rw [List.foldl_cons]
    refine ⟨hlanes'.trans hlanes, fun e he => hlatched' e (hlatched e he), fun hm => ?_⟩
    have hms : s.port.mode ≠ .halted := fun hh => hm (by
      rw [show closeFlaw set i cause s f = s from if_pos hh, closeFlaws_halted hh]
      exact hh)
    rw [htable' hm, htable hms, List.filter_filter]
    simp only [List.all_cons, Bool.and_comm]

end

/-- R55: what the listing of a column closes. -/
theorem closeSuspects_closed {n : Nat} {i : LaneId} {c : Nat} {s : State} (hlaw : HaltLaw s) :
    (closeSuspects n i c s).lanes = s.lanes ∧ (∀ e, s.latched e = true → (closeSuspects n i c s).latched e = true) ∧
    ∀ d, s.tracker.apply = .none → s.tracker.active = some d → (s.tracker.tables[i.val].flaws.map OpenFlaw.id).Nodup →
      (closeSuspects n i c s).port.mode ≠ .halted → (closeSuspects n i c s).tracker.tables[i.val] =
        ⟨s.tracker.tables[i.val].flaws.filter fun f => !within f.seenFirst f.seenLast c,
          s.tracker.tables[i.val].marks.filter fun m => !within m.seenFirst m.seenLast c⟩ := by
  cases hset : s.setFor n with
  | none =>
    have hdef : closeSuspects n i c s = s := by rw [closeSuspects, hset]
    rw [hdef]
    refine ⟨rfl, fun _ => id, fun d happly hactive => ?_⟩
    rw [setFor_noSwitch happly, hactive] at hset
    cases hset
  | some set =>
    have hdef : closeSuspects n i c s = dropMarks i (fun m => within m.seenFirst m.seenLast c)
        (closeWhere set i .suspect (fun f => within f.seenFirst f.seenLast c) s) := by rw [closeSuspects, hset]
    rw [hdef]
    obtain ⟨hlanes, hlatched, htable⟩ := closeFlaws_closed (set := set) (i := i) (cause := .suspect)
      ((s.table i).flaws.filter fun f => within f.seenFirst f.seenLast c) hlaw
    rw [closeWhere]
    generalize ((s.table i).flaws.filter fun f => within f.seenFirst f.seenLast c).foldl (closeFlaw set i .suspect) s = v at hlanes hlatched htable
    have hdrop : (dropMarks i (fun m => within m.seenFirst m.seenLast c) v).lanes = v.lanes ∧
        (∀ e, v.latched e = true → (dropMarks i (fun m => within m.seenFirst m.seenLast c) v).latched e = true) ∧
        (dropMarks i (fun m => within m.seenFirst m.seenLast c) v).port.mode = v.port.mode := by
      unfold dropMarks
      split <;> exact ⟨rfl, fun _ => id, rfl⟩
    obtain ⟨hdlanes, hdlatched, hdmode⟩ := hdrop
    refine ⟨hdlanes.trans hlanes, fun e he => hdlatched e (hlatched e he), fun d _ _ hids hm => ?_⟩
    rw [hdmode] at hm
    have hgone := htable hm
    rw [show dropMarks i (fun m => within m.seenFirst m.seenLast c) v =
      v.modTable i fun t => { t with marks := t.marks.filter fun m => !within m.seenFirst m.seenLast c } from if_neg hm]
    refine (table_modTable_same ..).trans ?_
    rw [State.table, hgone, State.table, filter_distinct_ids hids]

/-! ### The persistence tracker -/

section
variable {n : Nat} {i : LaneId} {cols : List Nat} {s : State}

theorem maskColumn_unlisted {c : Nat} (hm : s.port.mode ≠ .halted)
    (h : 8 ≤ s.lanes[i.val].dynColumns.length ∨ c ∈ s.lanes[i.val].dynColumns) : maskColumn n i s c = raise .columnMasked s := by
  refine (if_neg hm).trans (if_neg ?_)
  rintro ⟨hroom, hnew⟩
  rcases h with h | h
  · exact absurd hroom (Nat.not_lt.2 h)
  · exact hnew (List.contains_iff_mem.2 h)

theorem maskColumn_listed {c : Nat} (hm : s.port.mode ≠ .halted) (hroom : s.lanes[i.val].dynColumns.length < 8)
    (hnew : c ∉ s.lanes[i.val].dynColumns) : maskColumn n i s c =
      closeSuspects n i c ((raise .columnMasked s).modLane i fun l => { l with dynColumns := s.lanes[i.val].dynColumns ++ [c] }) :=
  (if_neg hm).trans (if_pos ⟨hroom, fun hc => hnew (List.contains_iff_mem.1 hc)⟩)

theorem maskColumn_masked (c : Nat) (hlaw : HaltLaw s) :
    (maskColumn n i s c).lanes[i.val].persistence = s.lanes[i.val].persistence ∧
    (∀ e, s.latched e = true → (maskColumn n i s c).latched e = true) ∧
    (s.port.mode ≠ .halted → (maskColumn n i s c).latched .columnMasked = true) := by
  by_cases hm : s.port.mode = .halted
  · rw [show maskColumn n i s c = s from if_pos hm]
    exact ⟨rfl, fun _ => id, fun h => absurd hm h⟩
  have hold : ∀ e, s.latched e = true → (raise .columnMasked s).latched e = true := fun e he =>
    (latched_raise ..).trans (Bool.or_eq_true_iff.2 (.inl he))
  have hraised : (raise .columnMasked s).latched .columnMasked = true := (latched_raise ..).trans (by simp)
  by_cases hlist : 8 ≤ s.lanes[i.val].dynColumns.length ∨ c ∈ s.lanes[i.val].dynColumns
  · rw [maskColumn_unlisted hm hlist]
    exact ⟨rfl, hold, fun _ => hraised⟩
  · obtain ⟨hroom, hnew⟩ := not_or.1 hlist
    rw [maskColumn_listed hm (Nat.not_le.1 hroom) hnew]
    obtain ⟨hlanes, hlatched, -⟩ := closeSuspects_closed (n := n) (i := i) (c := c)
      (s := (raise .columnMasked s).modLane i fun l => { l with dynColumns := s.lanes[i.val].dynColumns ++ [c] }) hlaw
    refine ⟨?_, fun e he => hlatched e (hold e he), fun _ => hlatched _ hraised⟩
    rw [hlanes]
    exact (congrArg Lane.persistence (lane_modLane_same i (fun l => { l with dynColumns := s.lanes[i.val].dynColumns ++ [c] })
      (raise .columnMasked s)) :)

theorem maskColumns_masked (cs : List Nat) (hlaw : HaltLaw s) :
    (cs.foldl (maskColumn n i) s).lanes[i.val].persistence = s.lanes[i.val].persistence ∧
    (∀ e, s.latched e = true → (cs.foldl (maskColumn n i) s).latched e = true) := by
  induction cs generalizing s with
  | nil => exact ⟨rfl, fun _ => id⟩
  | cons c cs ih =>
    obtain ⟨hlane, hlatched, -⟩ := maskColumn_masked (n := n) (i := i) c hlaw
    obtain ⟨hlane', hlatched'⟩ := ih ((maskColumn_keeps n i s c).halt hlaw)
    exact ⟨hlane'.trans hlane, fun e he => hlatched' e (hlatched e he)⟩

/-- R37: the count of a column after a line on which a narrow run began at it. -/
def Lane.columnCount (l : Lane) (c : Nat) : Nat := ((l.persistence.find? fun e => e.1 == c).map fun e => e.2).getD 0 + 1

theorem followColumns_eq (l : Lane) (cols : List Nat) : followColumns l.persistence cols = (distinct cols).map fun c => (c, l.columnCount c) := rfl

theorem mem_followColumns {l : Lane} {cols : List Nat} {e : Nat × Nat} :
    e ∈ followColumns l.persistence cols ↔ e.1 ∈ cols ∧ e.2 = l.columnCount e.1 := by
  rw [followColumns_eq, List.mem_map]
  constructor
  · rintro ⟨c, hc, rfl⟩
    exact ⟨(mem_distinct ..).1 hc, rfl⟩
  · rintro ⟨hc, he⟩
    exact ⟨e.1, (mem_distinct ..).2 hc, Prod.ext rfl he.symm⟩

theorem followColumns_nodup (l : Lane) (cols : List Nat) : ((followColumns l.persistence cols).map Prod.fst).Nodup := by
  rw [followColumns_eq, List.map_map]
  exact (List.map_id _).symm ▸ distinct_nodup cols

/-- The columns whose count reaches 64. -/
def fullColumns (l : Lane) (cols : List Nat) : List Nat :=
  ((followColumns l.persistence cols).filter fun e => decide (64 ≤ e.2)).map Prod.fst

theorem mem_fullColumns {l : Lane} {cols : List Nat} {c : Nat} : c ∈ fullColumns l cols ↔ c ∈ cols ∧ 64 ≤ l.columnCount c := by
  simp only [fullColumns, List.mem_map, List.mem_filter, mem_followColumns, decide_eq_true_iff]
  constructor
  · rintro ⟨e, ⟨⟨hc, he⟩, hfull⟩, rfl⟩
    exact ⟨hc, he ▸ hfull⟩
  · rintro ⟨hc, hfull⟩
    exact ⟨(c, l.columnCount c), ⟨⟨hc, rfl⟩, hfull⟩, rfl⟩

theorem fullColumns_nodup (l : Lane) (cols : List Nat) : (fullColumns l cols).Nodup :=
  (followColumns_nodup l cols).sublist (List.filter_sublist.map _)

/-- The state with the counts below 64 kept. -/
def countedState (i : LaneId) (cols : List Nat) (s : State) : State :=
  s.modLane i fun l => { l with persistence := (followColumns s.lanes[i.val].persistence cols).filter fun e => decide (e.2 < 64) }

theorem followNarrow_off (h : s.lanes[i.val].dynMasking = false ∨ s.port.mode = .halted) : followNarrow n i cols s = s :=
  if_pos (h.imp (fun h => by rw [State.lane, h]; rfl) id)

theorem followNarrow_on (hdyn : s.lanes[i.val].dynMasking = true) (hm : s.port.mode ≠ .halted) :
    followNarrow n i cols s = (fullColumns s.lanes[i.val] cols).foldl (maskColumn n i) (countedState i cols s) := by
  refine if_neg ?_
  rintro (h | h)
  · rw [State.lane, hdyn] at h
    cases h
  · exact hm h

end

theorem nodup_singleton {xs : List Nat} {c : Nat} (hnodup : xs.Nodup) (hc : c ∈ xs) (halone : ∀ x ∈ xs, x = c) : xs = [c] := by
  match xs, hnodup, hc, halone with
  | [x], _, _, halone => rw [halone x (List.mem_cons_self ..)]
  | x :: y :: rest, hnodup, _, halone =>
    have hx := halone x (List.mem_cons_self ..)
    have hy := halone y (List.mem_cons_of_mem _ (List.mem_cons_self ..))
    exact absurd (List.mem_cons_self ..) (hx ▸ hy ▸ (List.nodup_cons.1 hnodup).1)

/-! ### O25 -/

section
variable {n : Nat} {i : LaneId} {cols : List Nat} {s : State}

theorem countedState_lane : (countedState i cols s).lanes[i.val] = { s.lanes[i.val] with
    persistence := (followColumns s.lanes[i.val].persistence cols).filter fun e => decide (e.2 < 64) } := lane_modLane_same ..

theorem followNarrow_persistence (hlaw : HaltLaw s) (hdyn : s.lanes[i.val].dynMasking = true) (hm : s.port.mode ≠ .halted) :
    (followNarrow n i cols s).lanes[i.val].persistence =
      (followColumns s.lanes[i.val].persistence cols).filter fun e => decide (e.2 < 64) := by
  rw [followNarrow_on hdyn hm]
  exact (maskColumns_masked (n := n) (i := i) (s := countedState i cols s) _ hlaw).1.trans (congrArg Lane.persistence countedState_lane)

/-- R37: COLUMN MASKED at a column whose count reaches 64. -/
theorem followNarrow_masks (hlaw : HaltLaw s) (hdyn : s.lanes[i.val].dynMasking = true) (hm : s.port.mode ≠ .halted)
    (hfull : ∃ c, c ∈ cols ∧ 64 ≤ s.lanes[i.val].columnCount c) : (followNarrow n i cols s).latched .columnMasked = true := by
  obtain ⟨c, hc⟩ := hfull
  rw [followNarrow_on hdyn hm]
  have hmem := mem_fullColumns.2 hc
  cases hcs : fullColumns s.lanes[i.val] cols with
  | nil => rw [hcs] at hmem; cases hmem
  | cons x xs =>
    exact (maskColumns_masked (n := n) (i := i) xs ((maskColumn_keeps n i (countedState i cols s) x).halt hlaw)).2 _
      ((maskColumn_masked (n := n) (i := i) (s := countedState i cols s) x hlaw).2.2 hm)

theorem followNarrow_none (hdyn : s.lanes[i.val].dynMasking = true) (hm : s.port.mode ≠ .halted)
    (hnone : ∀ c, ¬ (c ∈ cols ∧ 64 ≤ s.lanes[i.val].columnCount c)) : followNarrow n i cols s = countedState i cols s := by
  have hempty : fullColumns s.lanes[i.val] cols = [] := List.eq_nil_iff_forall_not_mem.2 fun c hc => hnone c (mem_fullColumns.1 hc)
  rw [followNarrow_on hdyn hm, hempty]
  rfl

/-- A line on which one column alone reaches 64. -/
theorem followNarrow_one {c : Nat} (hdyn : s.lanes[i.val].dynMasking = true) (hm : s.port.mode ≠ .halted)
    (hc : c ∈ cols ∧ 64 ≤ s.lanes[i.val].columnCount c) (halone : ∀ x, x ∈ cols ∧ 64 ≤ s.lanes[i.val].columnCount x → x = c) :
    followNarrow n i cols s = maskColumn n i (countedState i cols s) c := by
  have hone : fullColumns s.lanes[i.val] cols = [c] :=
    nodup_singleton (fullColumns_nodup ..) (mem_fullColumns.2 hc) fun x hx => halone x (mem_fullColumns.1 hx)
  rw [followNarrow_on hdyn hm, hone]
  rfl

/-- R55: the column that finds no place. -/
theorem followNarrow_unlisted {c : Nat} (hdyn : s.lanes[i.val].dynMasking = true) (hm : s.port.mode ≠ .halted)
    (hc : c ∈ cols ∧ 64 ≤ s.lanes[i.val].columnCount c) (halone : ∀ x, x ∈ cols ∧ 64 ≤ s.lanes[i.val].columnCount x → x = c)
    (h : 8 ≤ s.lanes[i.val].dynColumns.length ∨ c ∈ s.lanes[i.val].dynColumns) :
    (followNarrow n i cols s).lanes[i.val].dynColumns = s.lanes[i.val].dynColumns ∧ (followNarrow n i cols s).tracker = s.tracker ∧
      (followNarrow n i cols s).map = s.map := by
  have hdyns : (countedState i cols s).lanes[i.val].dynColumns = s.lanes[i.val].dynColumns :=
    (congrArg Lane.dynColumns (countedState_lane (i := i) (cols := cols) (s := s)) :)
  rw [followNarrow_one hdyn hm hc halone, maskColumn_unlisted (s := countedState i cols s) hm (by rw [hdyns]; exact h)]
  exact ⟨hdyns, rfl, rfl⟩

/-- R55: the column that is listed, and the flaws and marks that it closes. -/
theorem followNarrow_listed {c : Nat} {d : DetectionSet} (hlaw : HaltLaw s) (hdyn : s.lanes[i.val].dynMasking = true)
    (hm : s.port.mode ≠ .halted) (hc : c ∈ cols ∧ 64 ≤ s.lanes[i.val].columnCount c)
    (halone : ∀ x, x ∈ cols ∧ 64 ≤ s.lanes[i.val].columnCount x → x = c) (happly : s.tracker.apply = .none)
    (hactive : s.tracker.active = some d) (hroom : s.lanes[i.val].dynColumns.length < 8) (hnew : c ∉ s.lanes[i.val].dynColumns) :
    (followNarrow n i cols s).lanes[i.val].dynColumns = s.lanes[i.val].dynColumns ++ [c] ∧
      ((s.tracker.tables[i.val].flaws.map OpenFlaw.id).Nodup → (followNarrow n i cols s).port.mode = s.port.mode →
        (followNarrow n i cols s).tracker.tables[i.val] =
          ⟨s.tracker.tables[i.val].flaws.filter fun f => !within f.seenFirst f.seenLast c,
            s.tracker.tables[i.val].marks.filter fun m => !within m.seenFirst m.seenLast c⟩) := by
  have hdyns : (countedState i cols s).lanes[i.val].dynColumns = s.lanes[i.val].dynColumns :=
    (congrArg Lane.dynColumns (countedState_lane (i := i) (cols := cols) (s := s)) :)
  rw [followNarrow_one hdyn hm hc halone,
    maskColumn_listed (s := countedState i cols s) hm (by rw [hdyns]; exact hroom) (by rw [hdyns]; exact hnew), hdyns]
  obtain ⟨hlanes, -, htable⟩ := closeSuspects_closed (n := n) (i := i) (c := c)
    (s := (raise .columnMasked (countedState i cols s)).modLane i fun l => { l with dynColumns := s.lanes[i.val].dynColumns ++ [c] }) hlaw
  refine ⟨?_, fun hids hmode => htable d happly hactive hids (by rw [hmode]; exact hm)⟩
  rw [hlanes]
  exact (congrArg Lane.dynColumns (lane_modLane_same i (fun l => { l with dynColumns := s.lanes[i.val].dynColumns ++ [c] })
    (raise .columnMasked (countedState i cols s))) :)

end

theorem not_within (lo hi x : Nat) : (!within lo hi x) = decide (¬ (lo ≤ x ∧ x ≤ hi)) := by
  rw [Bool.eq_iff_iff, Bool.not_eq_true', decide_eq_true_iff, ← within_iff, Bool.not_eq_true]

/-- Settles O25. -/
theorem settlingLaneTakesADigest : Obligations.SettlingLaneTakesADigest := by
  refine ⟨?_, ?_, fun set i r d n s => ⟨takeRun_dropped, takeRun_kept, tryUncrowd_stays, fun hst hover hfew hm => ?_⟩, ?_⟩
  · intro s i d t n set now slot hl hnone hm hst he htable ht hmt hnear hlow hforce hno hslot h hhead hok
    refine ⟨_, exec_digest_runs hl hnone hm (by rw [hst]; simp) he ht hmt hnear hlow hforce hno hslot h hhead hok, ?_⟩
    exact settlingDigest rfl hm hst rfl htable hforce.1
  · intro s i d t n set now slot hl hnone hm hst he ht hmt hnear hlow hforce hno hslot h hhead hok ring sampled unused finished
    have hexec := exec_digest_runs hl hnone hm (List.mem_cons_of_mem _ hst) he ht hmt hnear hlow hforce hno hslot h hhead hok
    have hsampled : sampledState s i d.slot h slot now d.level = sampled := rfl
    rw [hsampled] at hexec
    have hlane : sampled.lane i = s.lanes[i.val].sampled d.slot h slot now d.level := Vector.getElem_set_self ..
    have hstate : (sampled.lane i).state = s.lanes[i.val].state := (congrArg Lane.state hlane :)
    have haccept : (sampled.lane i).acceptance = s.lanes[i.val].acceptance := (congrArg Lane.acceptance hlane :)
    have hnot : (sampled.lane i).state ≠ .settling := fun hc => by
      rw [hstate] at hc
      simp [hc] at hst
    have hused := processRuns_used (set := set) (n := n) (slot := slot) (d := d) hnot
    have hunused (u : State) : unused u = forgetNarrow i u := rfl
    have hrun : sampled.port.mode ≠ .halted := fun hc => by
      rw [show s.port.mode = .halted from hc] at hm
      cases hm
    refine ⟨fun hbelow => ?_, fun hat hfree => ?_⟩
    · have huse := useRuns_below (set := set) (slot := slot) (d := d) (a := sampled) (haccept ▸ hbelow)
      rw [hexec, hused, huse, if_neg (by exact hrun)]
      rfl
    · have huse := useRuns_accepted (set := set) (slot := slot) (d := d) (a := sampled) (haccept ▸ hat)
      rw [huse] at hused
      have hhanding : Handing i now (sampled.lane i) sampled := by
        refine ⟨rfl, rfl, rfl, rfl, rfl, hforce.1, .inr ⟨hm, ?_⟩⟩
        rw [hstate]
        rcases List.mem_cons.1 hst with hst | hst
        · exact .inr ⟨hst, hfree.resolve_left (by rw [hst]; decide)⟩
        · exact .inl (List.mem_singleton.1 hst)
      intro entered
      have hentered : takeOverflow i d sampled = entered := by
        rw [takeOverflow_eq]
        exact if_congr (and_congr .rfl (by rw [show sampled.lanes[i.val].state = _ from hstate])) rfl rfl
      have hgo := takeOverflow_handing d hhanding
      rw [hentered] at hgo
      refine ⟨fun hgone => ?_, fun hheld => ?_⟩
      · rw [acceptRuns_kindGone hhanding hgone, hentered] at hused
        rw [hexec, hused]
        exact ⟨fun hh => by rw [if_pos (by exact hh)]; rfl, fun hh => by rw [if_neg (by exact hh)]; rfl⟩
      · intro kept handed' u
        obtain ⟨hhalt, hgoes⟩ := acceptRuns_used (set := set) (n := n) (slot := slot) (d := d) hhanding hheld
        rw [hentered] at hhalt hgoes
        rw [hexec, hused]
        refine ⟨fun before after hsplit hh hfirst => ?_, fun hh hu => ?_, fun hh hu => ?_⟩
        · have hon : handOn set i (d.runs.filterMap fun r => (sampled.lane i).keep n slot r) entered = handed set i before entered := by
            rw [show (d.runs.filterMap fun r => (sampled.lane i).keep n slot r) = before ++ after from hsplit]
            exact handOn_first hgo hh hfirst
          rw [hon] at hhalt
          rw [hhalt hh, if_pos (by exact hh)]
          rfl
        · have hon := handOn_eq_handed (set := set) kept hgo hh
          rw [show handOn set i (d.runs.filterMap fun r => (sampled.lane i).keep n slot r) entered = _ from hon] at hgoes
          rw [hgoes hh]
          exact congrArg Host.Outcome.next (if_pos hu)
        · have hon := handOn_eq_handed (set := set) kept hgo hh
          rw [show handOn set i (d.runs.filterMap fun r => (sampled.lane i).keep n slot r) entered = _ from hon] at hgoes
          rw [hgoes hh]
          exact congrArg Host.Outcome.next (if_neg hu)
  · exact tryUncrowd_enters hst hover hfew hm
  · intro n i cols s count counted full u
    refine ⟨followNarrow_off, fun hlaw hdyn hm => ⟨⟨?_, fun e => ?_⟩, followNarrow_masks hlaw hdyn hm, fun hnone => ?_,
      fun c d hc halone happly hactive => ⟨followNarrow_unlisted hdyn hm hc halone, fun hroom hnew => ?_⟩⟩⟩
    · rw [followNarrow_persistence hlaw hdyn hm]
      exact (List.Nodup.of_map _ (followColumns_nodup ..)).filter _
    · rw [followNarrow_persistence hlaw hdyn hm, List.mem_filter, mem_followColumns, decide_eq_true_iff, and_assoc]
      rfl
    · rw [show u.lanes[i.val].persistence = _ from followNarrow_persistence hlaw hdyn hm]
      exact followNarrow_none hdyn hm hnone
    · obtain ⟨hdyns, htable⟩ := followNarrow_listed (n := n) hlaw hdyn hm hc halone happly hactive hroom hnew
      refine ⟨hdyns, fun hids hmode => ?_⟩
      rw [show u.tracker.tables[i.val] = _ from htable hids hmode]
      exact ⟨List.filter_congr fun f _ => not_within .., List.filter_congr fun m _ => not_within ..⟩

end Sys2Proof.Machine
end

section
/-!
What a kept run does to its lane's table (R47 to R50, R53): it starts a flaw, joins one, or merges several.
-/

namespace Sys2Proof.Machine

/-! ### Matching (R47) -/

/-- R47: the run meets a last-seen range within the join and the gap. -/
def KeptRun.meets (r : KeptRun) (set : DetectionSet) (a b line : Nat) : Prop :=
  r.first ≤ b + set.join ∧ a ≤ r.last + set.join ∧ r.line ≤ line + set.gap

theorem matchesRange_iff (r : KeptRun) (set : DetectionSet) (a b line : Nat) : r.matchesRange set a b line = true ↔ r.meets set a b line := by
  simp only [KeptRun.matchesRange, KeptRun.meets, Bool.and_eq_true, decide_eq_true_iff, and_assoc]

theorem matchesFlaw_iff (r : KeptRun) (set : DetectionSet) (f : OpenFlaw) :
    r.matchesFlaw set f = true ↔ r.meets set f.seenFirst f.seenLast f.lastLine := matchesRange_iff ..

theorem matchesMark_iff (r : KeptRun) (set : DetectionSet) (m : Mark) :
    r.matchesMark set m = true ↔ r.meets set m.seenFirst m.seenLast m.lastLine := matchesRange_iff ..

/-- The open flaws of a table that a run matches. -/
def KeptRun.hits (r : KeptRun) (set : DetectionSet) (t : FlawTable) : List OpenFlaw := t.flaws.filter (r.matchesFlaw set)

/-- The marks of a table that a run does not match. -/
def KeptRun.missed (r : KeptRun) (set : DetectionSet) (t : FlawTable) : List Mark := t.marks.filter fun m => !r.matchesMark set m

/-- R53: the id of the lowest mark that a run matches. -/
def KeptRun.lowestMark (r : KeptRun) (set : DetectionSet) (t : FlawTable) : Option Nat :=
  least ((t.marks.filter (r.matchesMark set)).map Mark.id)

section
variable {r : KeptRun} {set : DetectionSet} {t : FlawTable}

theorem mem_hits {f : OpenFlaw} : f ∈ r.hits set t ↔ f ∈ t.flaws ∧ r.meets set f.seenFirst f.seenLast f.lastLine := by
  rw [KeptRun.hits, List.mem_filter, matchesFlaw_iff]

theorem lowestMark_none (h : ∀ m ∈ t.marks, ¬ r.meets set m.seenFirst m.seenLast m.lastLine) : r.lowestMark set t = none := by
  rw [KeptRun.lowestMark, least_eq_none, List.map_eq_nil_iff]
  exact List.filter_eq_nil_iff.2 fun m hm hc => h m hm ((matchesMark_iff ..).1 hc)

theorem lowestMark_some {m : Mark} (hm : m ∈ t.marks) (h : r.meets set m.seenFirst m.seenLast m.lastLine) :
    ∃ p, r.lowestMark set t = some p ∧ p ≤ m.id ∧ ∃ q ∈ t.marks, q.id = p ∧ r.meets set q.seenFirst q.seenLast q.lastLine := by
  have hmem : m.id ∈ (t.marks.filter (r.matchesMark set)).map Mark.id :=
    List.mem_map_of_mem (List.mem_filter.2 ⟨hm, (matchesMark_iff ..).2 h⟩)
  cases hl : r.lowestMark set t with
  | none =>
    rw [KeptRun.lowestMark, least_eq_none] at hl
    rw [hl] at hmem
    cases hmem
  | some p =>
    obtain ⟨hp, hle⟩ := (least_eq_some ..).1 hl
    obtain ⟨q, hq, hid⟩ := List.mem_map.1 hp
    obtain ⟨hq, hmatch⟩ := List.mem_filter.1 hq
    exact ⟨p, rfl, hle _ hmem, q, hq, hid, (matchesMark_iff ..).1 hmatch⟩

end

/-! ### What a run hands on, by what it matches -/

section
variable {set : DetectionSet} {i : LaneId} {r : KeptRun} {s : State}

theorem handRun_joins {low : Nat} (h : least ((r.hits set s.tracker.tables[i.val]).map OpenFlaw.id) = some low) :
    handRun set i r s = (s.modTable i fun t => ⟨joinTable r low (r.hits set s.tracker.tables[i.val]) (r.lowestMark set s.tracker.tables[i.val]) t.flaws,
      r.missed set s.tracker.tables[i.val]⟩, false) := by
  unfold handRun
  dsimp only
  rw [show least ((((s.table i).flaws.filter (r.matchesFlaw set))).map OpenFlaw.id) = some low from h]
  rfl

theorem hits_nil (h : ∀ f ∈ s.tracker.tables[i.val].flaws, ¬ r.meets set f.seenFirst f.seenLast f.lastLine) :
    least ((((s.table i).flaws.filter (r.matchesFlaw set))).map OpenFlaw.id) = none :=
  (least_eq_none _).2 (List.map_eq_nil_iff.2 (List.filter_eq_nil_iff.2 fun f hf hc => h f hf ((matchesFlaw_iff ..).1 hc)))

theorem handRun_drops (h : ∀ f ∈ s.tracker.tables[i.val].flaws, ¬ r.meets set f.seenFirst f.seenLast f.lastLine)
    (hno : s.lanes[i.val].state ≠ .active ∨ 32 ≤ s.tracker.tables[i.val].flaws.length) :
    handRun set i r s = (s.modTable i fun t => { t with marks := r.missed set s.tracker.tables[i.val] }, true) := by
  unfold handRun
  dsimp only
  rw [hits_nil h]
  refine if_neg ?_
  rintro ⟨hst, hroom⟩
  rcases hno with hno | hno
  · exact hno hst
  · exact absurd hroom (Nat.not_lt.2 hno)

theorem handRun_starts (h : ∀ f ∈ s.tracker.tables[i.val].flaws, ¬ r.meets set f.seenFirst f.seenLast f.lastLine)
    (hst : s.lanes[i.val].state = .active) (hroom : s.tracker.tables[i.val].flaws.length < 32) :
    handRun set i r s = ((s.modTable i fun t => ⟨t.flaws ++ [r.start s.tracker.nextId (r.lowestMark set s.tracker.tables[i.val])],
      r.missed set s.tracker.tables[i.val]⟩).modTracker fun t => { t with nextId := nextId t.nextId }, false) := by
  unfold handRun
  dsimp only
  rw [hits_nil h]
  exact if_pos ⟨hst, hroom⟩

end

/-! ### Merging (R49) -/

/-- `v` is the least of the values of a field, taken by one of the flaws. -/
structure LeastOf (gs : List OpenFlaw) (field : OpenFlaw → Nat) (v : Nat) : Prop where
  taken : ∃ g ∈ gs, v = field g
  bound : ∀ g ∈ gs, v ≤ field g

/-- `v` is the greatest of the values of a field, taken by one of the flaws. -/
structure GreatestOf (gs : List OpenFlaw) (field : OpenFlaw → Nat) (v : Nat) : Prop where
  taken : ∃ g ∈ gs, v = field g
  bound : ∀ g ∈ gs, field g ≤ v

theorem LeastOf.snoc {gs : List OpenFlaw} {field : OpenFlaw → Nat} {v : Nat} (h : LeastOf gs field v) (g : OpenFlaw) :
    LeastOf (gs ++ [g]) field (min v (field g)) := by
  obtain ⟨⟨x, hx, hv⟩, hbound⟩ := h
  constructor
  · rcases Nat.le_total v (field g) with hle | hle
    · exact ⟨x, List.mem_append_left _ hx, by rw [Nat.min_eq_left hle, hv]⟩
    · exact ⟨g, by simp, Nat.min_eq_right hle⟩
  · intro y hy
    rcases List.mem_append.1 hy with hy | hy
    · exact (Nat.min_le_left ..).trans (hbound y hy)
    · rw [List.mem_singleton.1 hy]
      exact Nat.min_le_right ..

theorem GreatestOf.snoc {gs : List OpenFlaw} {field : OpenFlaw → Nat} {v : Nat} (h : GreatestOf gs field v) (g : OpenFlaw) :
    GreatestOf (gs ++ [g]) field (max v (field g)) := by
  obtain ⟨⟨x, hx, hv⟩, hbound⟩ := h
  constructor
  · rcases Nat.le_total (field g) v with hle | hle
    · exact ⟨x, List.mem_append_left _ hx, by rw [Nat.max_eq_left hle, hv]⟩
    · exact ⟨g, by simp, Nat.max_eq_right hle⟩
  · intro y hy
    rcases List.mem_append.1 hy with hy | hy
    · exact (hbound y hy).trans (Nat.le_max_left ..)
    · rw [List.mem_singleton.1 hy]
      exact Nat.le_max_right ..

/-- A flag is set exactly if one of the flaws has it. -/
def AnyOf (gs : List OpenFlaw) (field : OpenFlaw → Bool) (v : Bool) : Prop := v = true ↔ ∃ g ∈ gs, field g = true

theorem AnyOf.snoc {gs : List OpenFlaw} {field : OpenFlaw → Bool} {v : Bool} (h : AnyOf gs field v) (g : OpenFlaw) :
    AnyOf (gs ++ [g]) field (v || field g) := by
  unfold AnyOf at h ⊢
  rw [Bool.or_eq_true, h]
  simp only [List.mem_append, List.mem_singleton, or_and_right, exists_or, exists_eq_left]

/-- R49: `q` holds what the flaws `gs` hold together; the last-seen range only of those seen on line `n` or later. -/
structure Merged (n : Nat) (gs : List OpenFlaw) (q : OpenFlaw) : Prop where
  firstLine : LeastOf gs OpenFlaw.firstLine q.firstLine
  lastLine : GreatestOf gs OpenFlaw.lastLine q.lastLine
  firstCol : LeastOf gs OpenFlaw.firstCol q.firstCol
  lastCol : GreatestOf gs OpenFlaw.lastCol q.lastCol
  peak : GreatestOf gs OpenFlaw.peak q.peak
  bright : AnyOf gs (fun g => g.views.bright) q.views.bright
  dark : AnyOf gs (fun g => g.views.dark) q.views.dark
  oblique : AnyOf gs (fun g => g.views.oblique) q.views.oblique
  darkInBright : AnyOf gs OpenFlaw.darkInBright q.darkInBright
  saturated : AnyOf gs OpenFlaw.saturated q.saturated
  seen : n ≤ q.lastLine → LeastOf (gs.filter fun g => decide (n ≤ g.lastLine)) OpenFlaw.seenFirst q.seenFirst ∧
    GreatestOf (gs.filter fun g => decide (n ≤ g.lastLine)) OpenFlaw.seenLast q.seenLast

theorem merged_one (n : Nat) (f : OpenFlaw) : Merged n [f] f := by
  have hleast (gs : List OpenFlaw) (hgs : gs = [f]) (field : OpenFlaw → Nat) : LeastOf gs field (field f) := by
    rw [hgs]
    exact ⟨⟨f, by simp, rfl⟩, by simp⟩
  have hgreatest (gs : List OpenFlaw) (hgs : gs = [f]) (field : OpenFlaw → Nat) : GreatestOf gs field (field f) := by
    rw [hgs]
    exact ⟨⟨f, by simp, rfl⟩, by simp⟩
  have hany (field : OpenFlaw → Bool) : AnyOf [f] field (field f) := by simp [AnyOf]
  refine ⟨hleast _ rfl _, hgreatest _ rfl _, hleast _ rfl _, hgreatest _ rfl _, hgreatest _ rfl _, hany _, hany _, hany _, hany _, hany _,
    fun hn => ?_⟩
  have hfilter : [f].filter (fun g => decide (n ≤ g.lastLine)) = [f] := by simp [hn]
  exact ⟨hleast _ hfilter _, hgreatest _ hfilter _⟩

theorem Merged.absorb {n : Nat} {gs : List OpenFlaw} {q : OpenFlaw} (h : Merged n gs q) (g : OpenFlaw) :
    Merged n (gs ++ [g]) (q.absorb n g) := by
  refine ⟨h.firstLine.snoc g, h.lastLine.snoc g, h.firstCol.snoc g, h.lastCol.snoc g, h.peak.snoc g, h.bright.snoc g, h.dark.snoc g,
    h.oblique.snoc g, h.darkInBright.snoc g, h.saturated.snoc g, fun hn => ?_⟩
  have hn' : n ≤ max q.lastLine g.lastLine := hn
  have hone (hg : n ≤ g.lastLine) : [g].filter (fun g => decide (n ≤ g.lastLine)) = [g] := by simp [hg]
  have hnone (hg : g.lastLine < n) : [g].filter (fun g => decide (n ≤ g.lastLine)) = [] := by simp [hg]
  rw [List.filter_append]
  change LeastOf _ _ (if g.lastLine < n then q.seenFirst else if q.lastLine < n then g.seenFirst else min q.seenFirst g.seenFirst) ∧
    GreatestOf _ _ (if g.lastLine < n then q.seenLast else if q.lastLine < n then g.seenLast else max q.seenLast g.seenLast)
  by_cases hg : g.lastLine < n
  · rw [if_pos hg, if_pos hg, hnone hg, List.append_nil]
    exact h.seen (by omega)
  · rw [if_neg hg, if_neg hg, hone (Nat.not_lt.1 hg)]
    by_cases hq : q.lastLine < n
    · have hempty : gs.filter (fun g => decide (n ≤ g.lastLine)) = [] :=
        List.filter_eq_nil_iff.2 fun x hx hc => by
          have := h.lastLine.bound x hx
          have := of_decide_eq_true hc
          omega
      rw [if_pos hq, if_pos hq, hempty, List.nil_append]
      exact ⟨⟨⟨g, by simp, rfl⟩, by simp⟩, ⟨⟨g, by simp, rfl⟩, by simp⟩⟩
    · rw [if_neg hq, if_neg hq]
      obtain ⟨hfirst, hlast⟩ := h.seen (Nat.not_lt.1 hq)
      exact ⟨hfirst.snoc g, hlast.snoc g⟩

theorem merged_foldl {n : Nat} {gs : List OpenFlaw} {q : OpenFlaw} (h : Merged n gs q) (others : List OpenFlaw) :
    Merged n (gs ++ others) (others.foldl (OpenFlaw.absorb n) q) := by
  induction others generalizing gs q with
  | nil => rwa [List.append_nil]
  | cons g others ih =>
    have := ih (h.absorb g)
    rwa [List.append_assoc] at this

theorem absorb_foldl_id (n : Nat) (others : List OpenFlaw) (q : OpenFlaw) : (others.foldl (OpenFlaw.absorb n) q).id = q.id := by
  induction others generalizing q with
  | nil => rfl
  | cons g others ih => exact ih (q.absorb n g)


/-! ### What the survivor's join gives (R48, R49) -/

section
variable {gs flaws : List OpenFlaw} {P : OpenFlaw → Prop} (hmem : ∀ g, g ∈ gs ↔ g ∈ flaws ∧ P g)
include hmem

theorem LeastOf.joined {field : OpenFlaw → Nat} {v : Nat} (h : LeastOf gs field v) (x : Nat) :
    (min v x = x ∨ ∃ g ∈ flaws, P g ∧ min v x = field g) ∧ min v x ≤ x ∧ ∀ g ∈ flaws, P g → min v x ≤ field g := by
  refine ⟨?_, Nat.min_le_right .., fun g hg hp => (Nat.min_le_left ..).trans (h.bound g ((hmem g).2 ⟨hg, hp⟩))⟩
  rcases Nat.le_total x v with hle | hle
  · exact .inl (Nat.min_eq_right hle)
  · obtain ⟨g, hg, hv⟩ := h.taken
    obtain ⟨hg, hp⟩ := (hmem g).1 hg
    exact .inr ⟨g, hg, hp, (Nat.min_eq_left hle).trans hv⟩

theorem GreatestOf.joined {field : OpenFlaw → Nat} {v : Nat} (h : GreatestOf gs field v) (x : Nat) :
    (max v x = x ∨ ∃ g ∈ flaws, P g ∧ max v x = field g) ∧ x ≤ max v x ∧ ∀ g ∈ flaws, P g → field g ≤ max v x := by
  refine ⟨?_, Nat.le_max_right .., fun g hg hp => (h.bound g ((hmem g).2 ⟨hg, hp⟩)).trans (Nat.le_max_left ..)⟩
  rcases Nat.le_total v x with hle | hle
  · exact .inl (Nat.max_eq_right hle)
  · obtain ⟨g, hg, hv⟩ := h.taken
    obtain ⟨hg, hp⟩ := (hmem g).1 hg
    exact .inr ⟨g, hg, hp, (Nat.max_eq_left hle).trans hv⟩

theorem AnyOf.joined {field : OpenFlaw → Bool} {v b : Bool} {c : Prop} (h : AnyOf gs field v) (hb : b = true ↔ c) :
    (v || b) = true ↔ c ∨ ∃ g ∈ flaws, P g ∧ field g = true := by
  unfold AnyOf at h
  rw [Bool.or_eq_true, h, hb, or_comm]
  simp only [hmem, and_assoc]

theorem Merged.seen_joined {r : KeptRun} {q : OpenFlaw} (h : Merged r.line gs q) (pred : Option Nat) :
    (q.join r pred).seenFirst ≤ r.first ∧ r.last ≤ (q.join r pred).seenLast ∧
    (∀ g ∈ flaws, P g → r.line ≤ g.lastLine →
      (q.join r pred).seenFirst ≤ g.seenFirst ∧ g.seenLast ≤ (q.join r pred).seenLast) ∧
    ((q.join r pred).seenFirst = r.first ∨ ∃ g ∈ flaws, P g ∧ r.line ≤ g.lastLine ∧ (q.join r pred).seenFirst = g.seenFirst) ∧
    ((q.join r pred).seenLast = r.last ∨ ∃ g ∈ flaws, P g ∧ r.line ≤ g.lastLine ∧ (q.join r pred).seenLast = g.seenLast) := by
  have hfirst : (q.join r pred).seenFirst = if q.lastLine < r.line then r.first else min q.seenFirst r.first := by
    simp [OpenFlaw.join]
  have hlast : (q.join r pred).seenLast = if q.lastLine < r.line then r.last else max q.seenLast r.last := by
    simp [OpenFlaw.join]
  rw [hfirst, hlast]
  by_cases hnew : q.lastLine < r.line
  · rw [if_pos hnew, if_pos hnew]
    refine ⟨le_rfl, le_rfl, fun g hg hp hline => ?_, .inl rfl, .inl rfl⟩
    have := h.lastLine.bound g ((hmem g).2 ⟨hg, hp⟩)
    omega
  · rw [if_neg hnew, if_neg hnew]
    obtain ⟨hleast, hgreatest⟩ := h.seen (Nat.not_lt.1 hnew)
    have hmem' (g : OpenFlaw) : g ∈ gs.filter (fun g => decide (r.line ≤ g.lastLine)) ↔ g ∈ flaws ∧ P g ∧ r.line ≤ g.lastLine := by
      rw [List.mem_filter, hmem, decide_eq_true_iff, and_assoc]
    obtain ⟨htaken, hle, hbound⟩ := hleast.joined hmem' r.first
    obtain ⟨htaken', hle', hbound'⟩ := hgreatest.joined hmem' r.last
    simp only [and_assoc] at htaken htaken'
    exact ⟨hle, hle', fun g hg hp hline => ⟨hbound g hg ⟨hp, hline⟩, hbound' g hg ⟨hp, hline⟩⟩, htaken, htaken'⟩

end

/-! ### The table after a join -/

theorem views_add (v : Views) (k : ViewKind) :
    v.add k = ⟨v.bright || decide (k = .bright), v.dark || decide (k = .dark), v.oblique || decide (k = .oblique)⟩ := by
  cases k <;> simp [Views.add]

theorem darkInBright_eq (r : KeptRun) : r.darkInBright = decide (r.polarity = .dark ∧ r.kind = .bright) := by
  rw [KeptRun.darkInBright, Bool.decide_and]
  rfl

theorem start_eq (r : KeptRun) (id : Nat) (pred : Option Nat) : r.start id pred =
    ⟨id, r.line, r.line, r.first, r.last, r.first, r.last, r.contrast,
      ⟨decide (r.kind = .bright), decide (r.kind = .dark), decide (r.kind = .oblique)⟩,
      decide (r.polarity = .dark ∧ r.kind = .bright), r.saturated, pred⟩ := by
  rw [KeptRun.start, views_add, darkInBright_eq]
  rfl

theorem join_eq (r : KeptRun) (pred : Option Nat) (f : OpenFlaw) : f.join r pred =
    { f with lastLine := max f.lastLine r.line,
             seenFirst := if f.lastLine < r.line then r.first else min f.seenFirst r.first,
             seenLast := if f.lastLine < r.line then r.last else max f.seenLast r.last,
             firstCol := min f.firstCol r.first, lastCol := max f.lastCol r.last, peak := max f.peak r.contrast,
             views := ⟨f.views.bright || decide (r.kind = .bright), f.views.dark || decide (r.kind = .dark),
               f.views.oblique || decide (r.kind = .oblique)⟩,
             darkInBright := f.darkInBright || decide (r.polarity = .dark ∧ r.kind = .bright),
             saturated := f.saturated || r.saturated, pred := f.pred.orElse fun _ => pred } := by
  unfold OpenFlaw.join
  rw [views_add, darkInBright_eq]
  simp

/-- The flaws that merge into the survivor `f`. -/
def KeptRun.others (r : KeptRun) (set : DetectionSet) (t : FlawTable) (f : OpenFlaw) : List OpenFlaw :=
  (r.hits set t).filter fun g => g.id != f.id

section
variable {r : KeptRun} {set : DetectionSet} {t : FlawTable} {f : OpenFlaw}

theorem mem_others {g : OpenFlaw} :
    g ∈ r.others set t f ↔ g ∈ t.flaws ∧ r.meets set g.seenFirst g.seenLast g.lastLine ∧ g.id ≠ f.id := by
  rw [KeptRun.others, List.mem_filter, mem_hits, bne_iff_ne, and_assoc]

theorem least_hit (hf : f ∈ t.flaws) (hit : r.meets set f.seenFirst f.seenLast f.lastLine)
    (hleast : ∀ g ∈ t.flaws, r.meets set g.seenFirst g.seenLast g.lastLine → f.id ≤ g.id) :
    least ((r.hits set t).map OpenFlaw.id) = some f.id :=
  (least_eq_some _ _).2 ⟨List.mem_map_of_mem (mem_hits.2 ⟨hf, hit⟩), fun x hx => by
    obtain ⟨g, hg, rfl⟩ := List.mem_map.1 hx
    exact hleast g (mem_hits.1 hg).1 (mem_hits.1 hg).2⟩

/-- The survivor and its others are the flaws that the run matches. -/
theorem mem_survivors (hnd : (t.flaws.map OpenFlaw.id).Nodup) (hf : f ∈ t.flaws) (hit : r.meets set f.seenFirst f.seenLast f.lastLine)
    (g : OpenFlaw) : g ∈ f :: r.others set t f ↔ g ∈ t.flaws ∧ r.meets set g.seenFirst g.seenLast g.lastLine := by
  rw [List.mem_cons, mem_others]
  constructor
  · rintro (rfl | ⟨hg, hm, -⟩)
    · exact ⟨hf, hit⟩
    · exact ⟨hg, hm⟩
  · rintro ⟨hg, hm⟩
    by_cases hid : g.id = f.id
    · exact .inl (List.inj_on_of_nodup_map hnd hg hf hid)
    · exact .inr ⟨hg, hm, hid⟩

/-- R49: the flaws that a run does not merge away keep their places, the survivor too. -/
theorem joinTable_split (hnd : (t.flaws.map OpenFlaw.id).Nodup) (hf : f ∈ t.flaws) (pred : Option Nat) :
    ∃ pre post, t.flaws.filter (fun g => decide (g.id = f.id ∨ ¬ r.matchesFlaw set g = true)) = pre ++ f :: post ∧
      joinTable r f.id (r.hits set t) pred t.flaws = pre ++ (f.survive r.line (r.others set t f)).join r pred :: post := by
  have hstay : t.flaws.filter (fun g => !((r.others set t f).any fun x => x.id == g.id)) =
      t.flaws.filter (fun g => decide (g.id = f.id ∨ ¬ r.matchesFlaw set g = true)) := by
    refine List.filter_congr fun g hg => Bool.eq_iff_iff.2 ?_
    rw [Bool.not_eq_true', List.any_eq_false, decide_eq_true_iff, matchesFlaw_iff]
    constructor
    · intro h
      by_contra hc
      obtain ⟨hid, hm⟩ := not_or.1 hc
      exact h g (mem_others.2 ⟨hg, not_not.1 hm, hid⟩) (beq_self_eq_true _)
    · intro h x hx hxg
      obtain ⟨hx, hm, hid⟩ := mem_others.1 hx
      cases List.inj_on_of_nodup_map hnd hx hg (eq_of_beq hxg)
      exact h.elim hid fun hno => hno hm
  have hself : f ∈ t.flaws.filter (fun g => decide (g.id = f.id ∨ ¬ r.matchesFlaw set g = true)) :=
    List.mem_filter.2 ⟨hf, decide_eq_true_iff.2 (.inl rfl)⟩
  obtain ⟨pre, post, hsplit⟩ := List.append_of_mem hself
  refine ⟨pre, post, hsplit, ?_⟩
  have hids : ((pre ++ f :: post).map OpenFlaw.id).Nodup := by
    rw [← hsplit]
    exact hnd.sublist ((List.filter_sublist ..).map _)
  unfold joinTable
  dsimp only
  rw [show ((r.hits set t).filter fun g => g.id != f.id) = r.others set t f from rfl, hstay, hsplit]
  exact updateWhere_unique _ hids

end

theorem joinTable_one {r : KeptRun} {set : DetectionSet} {t : FlawTable} {pre post : List OpenFlaw} {f : OpenFlaw} (ht : t.flaws = pre ++ f :: post)
    (hnd : (t.flaws.map OpenFlaw.id).Nodup) (hit : r.meets set f.seenFirst f.seenLast f.lastLine)
    (hone : ∀ g ∈ pre ++ post, ¬ r.meets set g.seenFirst g.seenLast g.lastLine) (pred : Option Nat) :
    joinTable r f.id (r.hits set t) pred t.flaws = pre ++ f.join r pred :: post := by
  have hno : r.others set t f = [] := by
    refine List.eq_nil_iff_forall_not_mem.2 fun g hg => ?_
    obtain ⟨hg, hm, hid⟩ := mem_others.1 hg
    rw [ht, List.mem_append, List.mem_cons] at hg
    rcases hg with hg | rfl | hg
    · exact hone g (List.mem_append_left _ hg) hm
    · exact hid rfl
    · exact hone g (List.mem_append_right _ hg) hm
  unfold joinTable
  dsimp only
  rw [show ((r.hits set t).filter fun g => g.id != f.id) = [] from hno]
  have hall : t.flaws.filter (fun g => !(([] : List OpenFlaw).any fun x => x.id == g.id)) = t.flaws := List.filter_eq_self.2 fun _ _ => rfl
  rw [hall, ht, updateWhere_unique _ (ht ▸ hnd)]
  have hself : f.survive r.line [] = f := by
    unfold OpenFlaw.survive
    cases hp : f.pred with
    | none => exact congrArg (fun p => { f with pred := p }) hp.symm
    | some p => exact congrArg (fun p => { f with pred := p }) hp.symm
  rw [hself]

/-! ### The predecessor (R49, R53) -/

/-- R53: `pred` is the lowest of the marks that the run matched, or none. -/
def MarkTaken (r : KeptRun) (set : DetectionSet) (t : FlawTable) (pred : Option Nat) : Prop :=
  ((∀ m ∈ t.marks, ¬ r.meets set m.seenFirst m.seenLast m.lastLine) → pred = none) ∧
  ∀ m ∈ t.marks, r.meets set m.seenFirst m.seenLast m.lastLine → ∃ p, pred = some p ∧ p ≤ m.id ∧
    ∃ q ∈ t.marks, q.id = p ∧ r.meets set q.seenFirst q.seenLast q.lastLine

theorem lowestMark_taken (r : KeptRun) (set : DetectionSet) (t : FlawTable) : MarkTaken r set t (r.lowestMark set t) :=
  ⟨lowestMark_none, fun _ hm h => lowestMark_some hm h⟩

/-- R49: the survivor that a run joined. -/
def joined (r : KeptRun) (set : DetectionSet) (t : FlawTable) (f : OpenFlaw) : OpenFlaw :=
  (f.survive r.line (r.others set t f)).join r (r.lowestMark set t)

section
variable {r : KeptRun} {set : DetectionSet} {t : FlawTable} {f : OpenFlaw}

theorem joined_id : (joined r set t f).id = f.id := absorb_foldl_id ..

theorem joined_pred : (joined r set t f).pred =
    (f.pred.orElse fun _ => least ((r.others set t f).filterMap OpenFlaw.pred)).orElse fun _ => r.lowestMark set t := rfl

/-- R49: the survivor's own predecessor goes first. -/
theorem joined_pred_own (h : f.pred ≠ none) : (joined r set t f).pred = f.pred := by
  rw [joined_pred]
  cases hp : f.pred with
  | none => exact absurd hp h
  | some p => rfl

/-- R49: then the lowest of those that merge into it. -/
theorem joined_pred_others (h : f.pred = none) {g : OpenFlaw} (hg : g ∈ t.flaws) (hm : r.meets set g.seenFirst g.seenLast g.lastLine) {p : Nat}
    (hp : g.pred = some p) (hnd : (t.flaws.map OpenFlaw.id).Nodup) (hf : f ∈ t.flaws) : ∃ x, (joined r set t f).pred = some x ∧ x ≤ p ∧
      ∃ g' ∈ t.flaws, r.meets set g'.seenFirst g'.seenLast g'.lastLine ∧ g'.pred = some x := by
  have hother : g ∈ r.others set t f := mem_others.2 ⟨hg, hm, fun hid => by
    cases List.inj_on_of_nodup_map hnd hg hf hid
    exact absurd (hp.symm.trans h) (by simp)⟩
  have hpreds : p ∈ (r.others set t f).filterMap OpenFlaw.pred := List.mem_filterMap.2 ⟨g, hother, hp⟩
  rw [joined_pred, h]
  cases hl : least ((r.others set t f).filterMap OpenFlaw.pred) with
  | none =>
    rw [(least_eq_none _).1 hl] at hpreds
    cases hpreds
  | some x =>
    obtain ⟨hx, hle⟩ := (least_eq_some _ _).1 hl
    obtain ⟨g', hg', hx⟩ := List.mem_filterMap.1 hx
    obtain ⟨hg', hm', -⟩ := mem_others.1 hg'
    exact ⟨x, rfl, hle _ hpreds, g', hg', hm', hx⟩

/-- R49, R53: and then the lowest mark that the run matched. -/
theorem joined_pred_mark (hf : f ∈ t.flaws) (hit : r.meets set f.seenFirst f.seenLast f.lastLine)
    (h : ∀ g ∈ t.flaws, r.meets set g.seenFirst g.seenLast g.lastLine → g.pred = none) : MarkTaken r set t (joined r set t f).pred := by
  have hno : (r.others set t f).filterMap OpenFlaw.pred = [] := by
    refine List.filterMap_eq_nil_iff.2 fun g hg => ?_
    obtain ⟨hg, hm, -⟩ := mem_others.1 hg
    exact h g hg hm
  have hpred : (joined r set t f).pred = r.lowestMark set t := by
    rw [joined_pred, h f hf hit, hno]
    rfl
  rw [hpred]
  exact lowestMark_taken ..

end

theorem missed_eq (r : KeptRun) (set : DetectionSet) (t : FlawTable) : r.missed set t =
    t.marks.filter fun m => ¬ (r.first ≤ m.seenLast + set.join ∧ m.seenFirst ≤ r.last + set.join ∧ r.line ≤ m.lastLine + set.gap) := by
  refine List.filter_congr fun m _ => Bool.eq_iff_iff.2 ?_
  rw [Bool.not_eq_true', Bool.eq_false_iff, Ne, matchesMark_iff, decide_eq_true_iff]
  rfl

theorem stays_eq (r : KeptRun) (set : DetectionSet) (t : FlawTable) (f : OpenFlaw) :
    t.flaws.filter (fun g => decide (g.id = f.id ∨ ¬ r.matchesFlaw set g = true)) =
    t.flaws.filter (fun g => g.id = f.id ∨ ¬ (r.first ≤ g.seenLast + set.join ∧ g.seenFirst ≤ r.last + set.join ∧
      r.line ≤ g.lastLine + set.gap)) := by
  refine List.filter_congr fun g _ => Bool.eq_iff_iff.2 ?_
  rw [decide_eq_true_iff, decide_eq_true_iff, matchesFlaw_iff]
  rfl

theorem handRun_otherTables (set : DetectionSet) (i : LaneId) (r : KeptRun) (s : State) {j : LaneId} (h : j ≠ i) :
    (handRun set i r s).1.tracker.tables[j.val] = s.tracker.tables[j.val] := by
  have hother (g : FlawTable → FlawTable) : (s.modTable i g).tracker.tables[j.val] = s.tracker.tables[j.val] :=
    table_modTable_other i j g s h
  unfold handRun
  dsimp only
  split
  · exact hother _
  · split
    · exact hother fun t => ⟨t.flaws ++ [r.start s.tracker.nextId (r.lowestMark set (s.table i))], r.missed set (s.table i)⟩
    · exact hother _

/-- Settles O30, by what the run matches: nothing, one open flaw, or several. -/
theorem runsStartJoinOrMergeFlaws : Obligations.RunsStartJoinOrMergeFlaws := by
  unfold Obligations.RunsStartJoinOrMergeFlaws
  intro set i r s overlaps table kept hit darkBright
  have hkept : r.missed set table = kept := missed_eq ..
  have htable (g : FlawTable → FlawTable) : (s.modTable i g).tracker.tables[i.val] = g table := table_modTable_same i g s
  refine ⟨fun hno => ⟨fun hdrop => ?_, fun hst hroom => ?_⟩, fun pre post f ht hnd hf hone => ?_, fun f hf hhit hnd hleast => ?_,
    fun j hj => handRun_otherTables set i r s hj, ?_⟩
  · rw [handRun_drops hno hdrop, ← hkept]
    exact ⟨rfl, htable _, rfl⟩
  · rw [handRun_starts hno hst hroom, ← hkept]
    obtain ⟨hnone, hsome⟩ := lowestMark_taken r set table
    refine ⟨rfl, rfl, r.lowestMark set table, hnone, hsome, ?_⟩
    rw [← start_eq]
    exact htable fun t => ⟨t.flaws ++ [r.start s.tracker.nextId (r.lowestMark set table)], r.missed set table⟩
  · have hmem : f ∈ table.flaws := by
      rw [ht]
      simp
    have honly (g : OpenFlaw) (hg : g ∈ table.flaws) (hm : r.meets set g.seenFirst g.seenLast g.lastLine) : f.id ≤ g.id := by
      rw [ht, List.mem_append, List.mem_cons] at hg
      rcases hg with hg | rfl | hg
      · exact absurd hm (hone g (List.mem_append_left _ hg))
      · exact le_rfl
      · exact absurd hm (hone g (List.mem_append_right _ hg))
    obtain ⟨hnone, hsome⟩ := lowestMark_taken r set table
    rw [handRun_joins (least_hit hmem hf honly), ← hkept]
    refine ⟨rfl, rfl, f.pred.orElse fun _ => r.lowestMark set table, ?_, fun hp m hm hmeets => ?_, (htable _).trans ?_⟩
    · rintro (hp | hmarks)
      · obtain ⟨p, hp⟩ := Option.ne_none_iff_exists'.1 hp
        rw [hp]
        rfl
      · rw [hnone hmarks]
        cases f.pred <;> rfl
    · rw [hp]
      exact hsome m hm hmeets
    · rw [joinTable_one ht hnd hf hone, join_eq]
  · obtain ⟨pre, post, hsplit, hjoin⟩ := joinTable_split (r := r) (set := set) hnd hf (r.lowestMark set table)
    rw [handRun_joins (least_hit hf hhit hleast), ← hkept]
    have hmem := mem_survivors hnd hf hhit
    have hmerged : Merged r.line (f :: r.others set table f) (f.survive r.line (r.others set table f)) := by
      obtain ⟨h1, h2, h3, h4, h5, h6, h7, h8, h9, h10, h11⟩ := merged_foldl (merged_one r.line f) (r.others set table f)
      exact ⟨h1, h2, h3, h4, h5, h6, h7, h8, h9, h10, h11⟩
    obtain ⟨hln, hlnTaken, hlnBound⟩ := hmerged.lastLine.joined hmem r.line
    obtain ⟨hfc, hfcTaken, hfcBound⟩ := hmerged.firstCol.joined hmem r.first
    obtain ⟨hlc, hlcTaken, hlcBound⟩ := hmerged.lastCol.joined hmem r.last
    obtain ⟨hpk, hpkTaken, hpkBound⟩ := hmerged.peak.joined hmem r.contrast
    obtain ⟨hseenFirst, hseenLast, hseen, hseenFirstTaken, hseenLastTaken⟩ := hmerged.seen_joined hmem (r.lowestMark set table)
    obtain ⟨g, hg, hfirst⟩ := hmerged.firstLine.taken
    obtain ⟨hg, hgm⟩ := (hmem g).1 hg
    refine ⟨rfl, rfl, pre, post, joined r set table f, (stays_eq ..).symm.trans hsplit, ?_, joined_id, ⟨g, hg, hgm, hfirst⟩, hln, hlnTaken,
      hfc, hfcTaken, hlc, hlcTaken, hpk, hpkTaken,
      fun g hg hm => ⟨hmerged.firstLine.bound g ((hmem g).2 ⟨hg, hm⟩), hlnBound g hg hm, hfcBound g hg hm, hlcBound g hg hm, hpkBound g hg hm⟩,
      ?_, ?_, ?_, ?_, hmerged.saturated.joined hmem Iff.rfl, hseenFirst, hseenLast, hseen, hseenFirstTaken, hseenLastTaken,
      joined_pred_own, fun hp g hg hm p hgp => joined_pred_others hp hg hm hgp hnd hf, fun hpreds => joined_pred_mark hf hhit hpreds⟩
    · refine (htable _).trans ?_
      rw [hjoin]
      rfl
    · rw [joined, join_eq]
      exact hmerged.bright.joined hmem decide_eq_true_iff
    · rw [joined, join_eq]
      exact hmerged.dark.joined hmem decide_eq_true_iff
    · rw [joined, join_eq]
      exact hmerged.oblique.joined hmem decide_eq_true_iff
    · rw [joined, join_eq]
      exact hmerged.darkInBright.joined hmem Iff.rfl
  · obtain ⟨tables, next, hframe⟩ := handRun_frame set i r s
    rw [hframe]
    exact ⟨rfl, rfl⟩

end Sys2Proof.Machine
end

section
/-!
The grading of a piece (R138 to R144): the labels that spans cover, the blind area as counts of labels, the flaw grade and the worst grade.
-/

namespace Sys2Proof.Machine

/-! ### Counting labels -/

theorem filter_range'_between {a k lo hi : Nat} (hlo : a ≤ lo) (hhi : hi ≤ a + k) :
    (List.range' a k).filter (fun l => decide (lo ≤ l) && decide (l < hi)) = List.range' lo (hi - lo) := by
  refine List.Pairwise.eq_of_mem_iff (r := (· < ·)) (List.Pairwise.filter _ List.pairwise_lt_range') List.pairwise_lt_range' fun l => ?_
  simp only [List.mem_filter, List.mem_range'_1, Bool.and_eq_true, decide_eq_true_iff]
  omega

theorem countP_or {α : Type} (p q : α → Bool) (xs : List α) :
    xs.countP (fun x => p x || q x) = xs.countP p + xs.countP fun x => !p x && q x := by
  induction xs with
  | nil => rfl
  | cons x xs ih =>
    rw [List.countP_cons, List.countP_cons, List.countP_cons, ih]
    cases p x <;> cases q x <;> simp
    all_goals omega

theorem countP_and_not {α : Type} (p q : α → Bool) (xs : List α) :
    xs.countP (fun x => p x && !q x) = xs.countP p - xs.countP fun x => p x && q x := by
  induction xs with
  | nil => rfl
  | cons x xs ih =>
    have hle : xs.countP (fun x => p x && q x) ≤ xs.countP p :=
      List.countP_mono_left fun x _ h => ((Bool.and_eq_true _ _).mp h).1
    rw [List.countP_cons, List.countP_cons, List.countP_cons, ih]
    cases p x <;> cases q x <;> simp
    all_goals omega

/-! ### The labels that spans cover (R141, R142) -/

/-- A label lies in one of the spans. -/
def inSpans (spans : List Span) (y : Nat) : Bool := spans.any fun p => decide (p.start ≤ y) && decide (y < p.stop)

theorem inSpans_iff {spans : List Span} {y : Nat} : inSpans spans y = true ↔ ∃ p ∈ spans, p.start ≤ y ∧ y < p.stop := by
  simp only [inSpans, List.any_eq_true, Bool.and_eq_true, decide_eq_true_iff]

/-- What the count of the covered labels of `[a, b)` has reached after some spans: every label from the mark on is uncovered, and every one
below it that lies past the spans' starts is covered. -/
structure CountedLabels (a b : Nat) (spans : List Span) (acc : Nat × Nat) : Prop where
  mark : a ≤ acc.1
  count : acc.2 = (List.range' a (b - a)).countP (inSpans spans)
  above : ∀ y, acc.1 ≤ y → y < b → inSpans spans y = false
  below : ∀ y, a ≤ y → y < acc.1 → (∀ q ∈ spans, q.start ≤ y) → inSpans spans y = true

theorem inSpans_snoc (spans : List Span) (p : Span) (y : Nat) :
    inSpans (spans ++ [p]) y = (inSpans spans y || (decide (p.start ≤ y) && decide (y < p.stop))) := by
  simp [inSpans]

theorem CountedLabels.snoc {a b : Nat} {spans : List Span} {acc : Nat × Nat} (h : CountedLabels a b spans acc) {p : Span}
    (hp : ∀ q ∈ spans, q.start ≤ p.start) :
    CountedLabels a b (spans ++ [p]) (max acc.1 (min b p.stop), acc.2 + (min b p.stop - max acc.1 p.start)) := by
  obtain ⟨hmark, hcount, habove, hbelow⟩ := h
  have hnew (y : Nat) (hy : a ≤ y ∧ y < b) : (!inSpans spans y && (decide (p.start ≤ y) && decide (y < p.stop))) = true ↔
      (decide (max acc.1 p.start ≤ y) && decide (y < min b p.stop)) = true := by
    simp only [Bool.and_eq_true, Bool.not_eq_true', decide_eq_true_iff, max_le_iff, lt_min_iff]
    constructor
    · rintro ⟨hno, hstart, hstop⟩
      refine ⟨⟨?_, hstart⟩, hy.2, hstop⟩
      by_contra hlt
      exact Bool.false_ne_true (hno.symm.trans (hbelow y hy.1 (Nat.lt_of_not_le hlt) fun q hq => (hp q hq).trans hstart))
    · rintro ⟨⟨hge, hstart⟩, -, hstop⟩
      exact ⟨habove y hge hy.2, hstart, hstop⟩
  refine ⟨hmark.trans (Nat.le_max_left ..), ?_, fun y hge hlt => ?_, fun y hge hlt hall => ?_⟩
  · have hadded : (List.range' a (b - a)).countP (fun y => !inSpans spans y && (decide (p.start ≤ y) && decide (y < p.stop))) =
        min b p.stop - max acc.1 p.start := by
      rw [List.countP_congr fun y hy => hnew y (by rw [List.mem_range'_1] at hy; omega), List.countP_eq_length_filter,
        filter_range'_between (hmark.trans (Nat.le_max_left ..)) (by omega), List.length_range']
    rw [List.countP_congr (q := fun y => inSpans spans y || (decide (p.start ≤ y) && decide (y < p.stop))) fun y _ => by
      rw [inSpans_snoc], countP_or, ← hcount, hadded]
  · have hmax : acc.1 ≤ y ∧ min b p.stop ≤ y := max_le_iff.1 hge
    rw [inSpans_snoc, habove y hmax.1 hlt, Bool.false_or, Bool.and_eq_false_iff]
    exact .inr (decide_eq_false (by omega))
  · rw [inSpans_snoc, Bool.or_eq_true]
    rcases lt_max_iff.1 hlt with hlt | hlt
    · exact .inl (hbelow y hge hlt fun q hq => hall q (List.mem_append_left _ hq))
    · refine .inr ?_
      rw [Bool.and_eq_true, decide_eq_true_iff, decide_eq_true_iff]
      exact ⟨hall p (by simp), (lt_min_iff.1 hlt).2⟩

theorem coveredLabels_counted (a b : Nat) (spans : List Span) (h : spans.Pairwise fun p q => p.start ≤ q.start) :
    CountedLabels a b spans (spans.foldl
      (fun (acc : Nat × Nat) p => (max acc.1 (min b p.stop), acc.2 + (min b p.stop - max acc.1 p.start))) (a, 0)) := by
  induction spans using List.reverseRecOn with
  | nil =>
    refine ⟨le_rfl, ?_, fun _ _ _ => rfl, fun y hge hlt => absurd hlt (Nat.not_lt.2 hge)⟩
    exact (List.countP_eq_zero.2 fun y _ => by simp [inSpans]).symm
  | append_singleton spans p ih =>
    rw [List.pairwise_append] at h
    rw [List.foldl_append]
    exact (ih h.1).snoc fun q hq => h.2.2 q hq p (by simp)

/-- R141: a label covered by several spans counts once. -/
theorem coveredLabels_eq (a b : Nat) (spans : List Span) (h : spans.Pairwise fun p q => p.start ≤ q.start) :
    coveredLabels a b spans = (List.range' a (b - a)).countP (inSpans spans) := (coveredLabels_counted a b spans h).count

/-! ### The blind area (R141 to R143) -/

/-- A label of a full-width rectangle: from the virtual interval on, or in an ALL interval. -/
def fullAt (blind : List Interval) (virtualFrom : Option Nat) (l : Nat) : Bool :=
  virtualFrom.any (fun k => decide (k ≤ l)) ||
    blind.any fun b => b.lane.isNone && decide (b.yStart ≤ l) && b.yEnd.all fun e => decide (l < e)

/-- An interval end stands above a label below the limit. -/
theorem lt_end_iff {l limit : Nat} (h : l < limit) (e : Option Nat) : l < e.getD limit ↔ e.all (fun e => decide (l < e)) = true := by
  cases e with
  | none => simp [h]
  | some e => simp

theorem inSpans_fullWidth (blind : List Interval) (virtualFrom : Option Nat) {limit l : Nat} (h : l < limit) :
    inSpans (fullWidth blind virtualFrom limit) l = fullAt blind virtualFrom l := by
  rw [Bool.eq_iff_iff, inSpans_iff]
  simp only [fullWidth, (sortByKey_perm _ _).mem_iff, List.mem_append, List.mem_map, List.mem_filter, Option.mem_toList, Option.map_eq_some_iff]
  rw [fullAt, Bool.or_eq_true, List.any_eq_true, Option.any_eq_true]
  constructor
  · rintro ⟨p, ⟨b, ⟨hb, hlane⟩, rfl⟩ | ⟨k, hk, rfl⟩, hstart, hstop⟩
    · refine .inr ⟨b, hb, ?_⟩
      rw [Bool.and_eq_true, Bool.and_eq_true]
      exact ⟨⟨hlane, decide_eq_true hstart⟩, (lt_end_iff h _).1 hstop⟩
    · exact .inl ⟨k, hk, decide_eq_true hstart⟩
  · rintro (⟨k, hk, hle⟩ | ⟨b, hb, hcover⟩)
    · exact ⟨_, .inr ⟨k, hk, rfl⟩, of_decide_eq_true hle, lt_max_of_lt_right h⟩
    · rw [Bool.and_eq_true, Bool.and_eq_true] at hcover
      obtain ⟨⟨hlane, hstart⟩, hend⟩ := hcover
      exact ⟨_, .inl ⟨b, ⟨hb, hlane⟩, rfl⟩, of_decide_eq_true hstart, (lt_end_iff h _).2 hend⟩

theorem fullWidth_sorted (blind : List Interval) (virtualFrom : Option Nat) (limit : Nat) :
    (fullWidth blind virtualFrom limit).Pairwise fun p q => p.start ≤ q.start := sortByKey_sorted ..

theorem coveredLabels_fullWidth (blind : List Interval) (virtualFrom : Option Nat) {a b limit : Nat} (h : b ≤ limit) :
    coveredLabels a b (fullWidth blind virtualFrom limit) = (List.range' a (b - a)).countP (fullAt blind virtualFrom) := by
  rw [coveredLabels_eq _ _ _ (fullWidth_sorted ..)]
  refine List.countP_congr fun y hy => ?_
  rw [List.mem_range'_1] at hy
  rw [inSpans_fullWidth _ _ (by omega)]

/-- R142: a lane interval's overlap across, times its labels of the piece that no full-width rectangle covers. -/
theorem laneBlindArea_eq (blind : List Interval) (virtualFrom : Option Nat) (x y : Span) (b : Interval) :
    laneBlindArea (fullWidth blind virtualFrom y.stop) ⟨x, y⟩ b = (min b.xEnd x.stop - max b.xStart x.start) *
      ((List.range' y.start (y.stop - y.start)).filter fun l =>
        decide (b.yStart ≤ l) && b.yEnd.all (fun e => decide (l < e)) && !fullAt blind virtualFrom l).length := by
  rw [laneBlindArea]
  dsimp only
  refine congrArg _ ?_
  generalize hlo : max b.yStart y.start = lo
  generalize hhi : min (b.yEnd.getD y.stop) y.stop = hi
  have hin (l : Nat) (hl : l ∈ List.range' y.start (y.stop - y.start)) :
      (decide (b.yStart ≤ l) && b.yEnd.all fun e => decide (l < e)) = (decide (lo ≤ l) && decide (l < hi)) := by
    rw [List.mem_range'_1] at hl
    rw [Bool.eq_iff_iff, Bool.and_eq_true, Bool.and_eq_true, ← lt_end_iff (limit := y.stop) (by omega)]
    simp only [decide_eq_true_iff]
    omega
  have hspan : (List.range' y.start (y.stop - y.start)).filter (fun l => decide (lo ≤ l) && decide (l < hi)) = List.range' lo (hi - lo) :=
    filter_range'_between (by omega) (by omega)
  rw [coveredLabels_fullWidth _ _ (by omega), ← List.countP_eq_length_filter]
  calc hi - lo - (List.range' lo (hi - lo)).countP (fullAt blind virtualFrom)
    _ = (List.range' y.start (y.stop - y.start)).countP (fun l => decide (lo ≤ l) && decide (l < hi)) -
        (List.range' y.start (y.stop - y.start)).countP
          (fun l => (decide (lo ≤ l) && decide (l < hi)) && fullAt blind virtualFrom l) := by
      rw [List.countP_eq_length_filter (p := fun l => decide (lo ≤ l) && decide (l < hi)), hspan, List.length_range', ← hspan,
        List.countP_filter]
      refine congrArg _ (List.countP_congr fun l _ => ?_)
      rw [Bool.and_comm]
    _ = (List.range' y.start (y.stop - y.start)).countP
          (fun l => (decide (lo ≤ l) && decide (l < hi)) && !fullAt blind virtualFrom l) := (countP_and_not ..).symm
    _ = _ := List.countP_congr fun l hl => by rw [hin l hl]

theorem blindArea_eq (blind : List Interval) (virtualFrom : Option Nat) (x y : Span) : blindArea blind virtualFrom ⟨x, y⟩ =
    (x.stop - x.start) * ((List.range' y.start (y.stop - y.start)).filter fun l => fullAt blind virtualFrom l).length +
      ((blind.filter fun b => b.lane.isSome).map fun b => (min b.xEnd x.stop - max b.xStart x.start) *
        ((List.range' y.start (y.stop - y.start)).filter fun l =>
          decide (b.yStart ≤ l) && b.yEnd.all (fun e => decide (l < e)) && !fullAt blind virtualFrom l).length).sum := by
  unfold blindArea
  dsimp only
  rw [coveredLabels_fullWidth _ _ le_rfl, List.countP_eq_length_filter,
    List.map_congr_left fun b _ => laneBlindArea_eq blind virtualFrom x y b]
  rfl

theorem fullAt_virtualFrom (s : State) (forced : Bool) (l : Nat) : fullAt s.map.blind (s.virtualFrom forced) l =
    ((forced && decide (s.tracker.frontier ≤ l)) ||
      s.map.blind.any fun b => b.lane.isNone && decide (b.yStart ≤ l) && b.yEnd.all fun e => decide (l < e)) := by
  cases forced <;> rfl

/-! ### The flaw grade (R139, R140) -/

/-- R140: the flaws of one class and one zone stay within a limit. -/
def ZoneLimit.holds (z : ZoneLimit) (es : List MapEntry) : Prop :=
  (z.size = 65535 ∨ ∀ e ∈ es, e.size ≤ z.size) ∧ (z.count = 255 ∨ es.length ≤ z.count)

theorem zoneLimit_admits_iff (z : ZoneLimit) (es : List MapEntry) : z.admits es = true ↔ z.holds es := by
  simp only [ZoneLimit.admits, ZoneLimit.holds, Bool.and_eq_true, Bool.or_eq_true, decide_eq_true_iff,
    List.all_eq_true]
  rfl

theorem classLimits_admit_iff (l : PerClass ClassLimit) (flaws : List MapEntry) (inEdge : MapEntry → Bool) :
    l.admits (flaws.filter inEdge) (flaws.filter fun e => !inEdge e) = true ↔ ∀ k, (l.get k).edge.holds (flaws.filter fun e => e.cls == k && inEdge e) ∧
      (l.get k).core.holds (flaws.filter fun e => e.cls == k && !inEdge e) := by
  have hclasses (k : FlawClass) : k ∈ [FlawClass.bubble, .stone, .linear, .surface] := by cases k <;> decide
  unfold PerClass.admits
  rw [List.all_eq_true]
  simp only [hclasses, forall_const, Bool.and_eq_true, zoneLimit_admits_iff, List.filter_filter]

theorem edge_iff (w : Nat) (x y : Span) (e : MapEntry) : e.edge w ⟨x, y⟩ = true ↔
    0 < w ∧ (e.xFirst < x.start + w ∨ x.stop ≤ e.xLast + w ∨ e.yFirst < y.start + w ∨ y.stop ≤ e.yLast + w) := by
  simp only [MapEntry.edge, Bool.and_eq_true, Bool.or_eq_true, decide_eq_true_iff, or_assoc]

theorem flawGrade_cases {t : GradeTable} {r : Rect} {flaws : List MapEntry} {meets : PerClass ClassLimit → Prop}
    (h : ∀ l : PerClass ClassLimit, l.admits (flaws.filter (MapEntry.edge t.band r)) (flaws.filter fun e => !e.edge t.band r) = true ↔ meets l) :
    (flawGrade t r flaws = .a ∧ meets t.limitA) ∨ (flawGrade t r flaws = .b ∧ ¬ meets t.limitA ∧ meets t.limitB) ∨
    (flawGrade t r flaws = .c ∧ ¬ meets t.limitA ∧ ¬ meets t.limitB ∧ meets t.limitC) ∨
    (flawGrade t r flaws = .x ∧ ¬ meets t.limitA ∧ ¬ meets t.limitB ∧ ¬ meets t.limitC) := by
  unfold flawGrade
  dsimp only
  by_cases ha : meets t.limitA
  · exact .inl ⟨if_pos ((h _).2 ha), ha⟩
  rw [if_neg (mt (h _).1 ha)]
  by_cases hb : meets t.limitB
  · exact .inr (.inl ⟨if_pos ((h _).2 hb), ha, hb⟩)
  rw [if_neg (mt (h _).1 hb)]
  by_cases hc : meets t.limitC
  · exact .inr (.inr (.inl ⟨if_pos ((h _).2 hc), ha, hb, hc⟩))
  · exact .inr (.inr (.inr ⟨if_neg (mt (h _).1 hc), ha, hb, hc⟩))

/-! ### The worst grade (R144) -/

theorem grade_eq_of_rank_le_a {g : Grade} (h : g.rank ≤ Grade.a.rank) : g = .a := by
  cases g with
  | a => rfl
  | b | c | u | x => exact absurd h (by decide)

theorem worse_eq (g h : Grade) : (g.worse h = g ∨ g.worse h = h) ∧ g.rank ≤ (g.worse h).rank ∧ h.rank ≤ (g.worse h).rank := by
  unfold Grade.worse
  split
  · exact ⟨.inr rfl, by assumption, le_rfl⟩
  · exact ⟨.inl rfl, le_rfl, by omega⟩

theorem worst_foldl (ps : List Piece) (g : Grade) :
    (ps.foldl (fun g p => g.worse p.grade) g = g ∨ ∃ p ∈ ps, ps.foldl (fun g p => g.worse p.grade) g = p.grade) ∧
    g.rank ≤ (ps.foldl (fun g p => g.worse p.grade) g).rank ∧ ∀ p ∈ ps, p.grade.rank ≤ (ps.foldl (fun g p => g.worse p.grade) g).rank := by
  induction ps generalizing g with
  | nil => exact ⟨.inl rfl, le_rfl, by simp⟩
  | cons q ps ih =>
    obtain ⟨htaken, hle, hbound⟩ := ih (g.worse q.grade)
    obtain ⟨heq, hg, hq⟩ := worse_eq g q.grade
    rw [List.foldl_cons]
    refine ⟨?_, hg.trans hle, fun p hp => ?_⟩
    · rcases htaken with htaken | ⟨p, hp, htaken⟩
      · rcases heq with heq | heq
        · exact .inl (htaken.trans heq)
        · exact .inr ⟨q, by simp, htaken.trans heq⟩
      · exact .inr ⟨p, List.mem_cons_of_mem _ hp, htaken⟩
    · rcases List.mem_cons.1 hp with rfl | hp
      · exact hq.trans hle
      · exact hbound p hp

/-- R144: the plate grade is the worst of the pieces'. -/
theorem worstGrade_spec (ps : List Piece) (h : ps ≠ []) :
    (∃ p ∈ ps, worstGrade ps = p.grade) ∧ ∀ p ∈ ps, p.grade.rank ≤ (worstGrade ps).rank := by
  obtain ⟨htaken, -, hbound⟩ := worst_foldl ps .a
  refine ⟨?_, hbound⟩
  rcases htaken with htaken | htaken
  · obtain ⟨p, hp⟩ := List.exists_mem_of_ne_nil ps h
    have hrank := hbound p hp
    rw [htaken] at hrank
    exact ⟨p, hp, htaken.trans (grade_eq_of_rank_le_a hrank).symm⟩
  · exact htaken

/-! ### The piece -/

/-- R143, the ninth law: a grade of A, B or C stands only within the blind limit. -/
theorem finalGrade_good {limit permille : Nat} {g : Grade}
    (h : finalGrade limit permille g = .a ∨ finalGrade limit permille g = .b ∨ finalGrade limit permille g = .c) : permille ≤ limit := by
  by_contra hlt
  unfold finalGrade at h
  by_cases hx : g = .x
  · subst hx
    simp at h
  · rw [if_pos ⟨hx, Nat.lt_of_not_le hlt⟩] at h
    simp at h

/-- Settles O48, by the counts of labels that R141 to R143 take. -/
theorem pieceGrades : Obligations.PieceGrades := by
  unfold Obligations.PieceGrades
  refine ⟨?_, worstGrade_spec, fun a b spans h => ?_⟩
  · intro s forced y x t p counted inBand fullWidthAt labels blindPart within edge core hedge hcore meets grade
    have hcounted : countedFlaws t ⟨x, y⟩ s.map.entries = counted := rfl
    have hmeets (l : PerClass ClassLimit) :
        l.admits (counted.filter (MapEntry.edge t.band ⟨x, y⟩)) (counted.filter fun e => !e.edge t.band ⟨x, y⟩) = true ↔ meets l := by
      rw [classLimits_admit_iff]
      simp only [← hedge, ← hcore]
      rfl
    refine ⟨edge_iff t.band x y, congrArg List.length hcounted, ⟨flawGrade t ⟨x, y⟩ counted, flawGrade_cases hmeets, ?_⟩, ?_,
      finalGrade_good, rfl, rfl, rfl⟩
    · exact congrArg (fun es => finalGrade t.blindLimit p.permille (flawGrade t ⟨x, y⟩ es)) hcounted
    · change ceilDiv (1000 * blindArea s.map.blind (s.virtualFrom forced) ⟨x, y⟩) (Rect.area ⟨x, y⟩) = _
      rw [blindArea_eq]
      simp only [fullAt_virtualFrom]
      rfl
  · rw [coveredLabels_eq a b spans h, List.countP_eq_length_filter]
    rfl

end Sys2Proof.Machine
end

section
/-!
Commits and plans (R108, R109, R111 to R114): what one commit leaves, its record, its order, and the plans made of commits.
-/

namespace Sys2Proof.Machine

/-! ### What the Order Unit does at a commit -/

/-- `t` is `s` but for what the Order Unit moves; the Planner goes on testing its triggers as before and no forced plan is counted. -/
structure OrdersTurned (s t : State) : Prop where
  moved : OrdersMoved s t
  testing : t.planner.planning.testing = s.planner.planning.testing
  forced : t.report.shift.forced = s.report.shift.forced

theorem OrdersTurned.refl (s : State) : OrdersTurned s s := ⟨.refl s, rfl, rfl⟩

theorem OrdersTurned.trans {s t u : State} (h : OrdersTurned s t) (h' : OrdersTurned t u) : OrdersTurned s u :=
  ⟨h.moved.trans h'.moved, h'.testing.trans h.testing, h'.forced.trans h.forced⟩

theorem raise_turned (e : Event) (s : State) : OrdersTurned s (raise e s) := ⟨raise_moved e s, rfl, rfl⟩

theorem modOrder_turned (id : Nat) (g : Order → Order) (s : State) : OrdersTurned s (modOrder id g s) := ⟨modOrder_moved id g s, rfl, rfl⟩

theorem testRoom_testing (s : State) : (testRoom s).planner.planning.testing = s.planner.planning.testing := by
  obtain ⟨p, hp, hstill, hready⟩ := testRoom_spec s
  rw [hp]
  cases h : s.planner.planning.testing with
  | false => exact (congrArg PlanningState.testing (hstill h)).trans h
  | true => rcases hready h with rfl | rfl <;> rfl

theorem testRoom_turned (s : State) : OrdersTurned s (testRoom s) := by
  refine ⟨testRoom_moved s, testRoom_testing s, ?_⟩
  obtain ⟨p, hp, -⟩ := testRoom_spec s
  rw [hp]

theorem finishOrder_turned (o : Order) (c : OrderOutcome) (s : State) : OrdersTurned s (finishOrder o c s) :=
  ⟨finishOrder_moved o c s, rfl, by cases c <;> rfl⟩

theorem testFinish_turned (id : Nat) (s : State) : OrdersTurned s (testFinish id s) := by
  unfold testFinish
  split
  · exact .refl s
  split
  · exact finishOrder_turned ..
  · exact .refl s

theorem endOrder_turned (id : Nat) (s : State) : OrdersTurned s (endOrder id s) :=
  ((modOrder_turned id _ s).trans (testFinish_turned id _)).trans (testRoom_turned _)

theorem makeActive_turned (o : Order) (s : State) : OrdersTurned s (makeActive o s) :=
  ((modOrder_turned o.id (fun q => { q with state := .active }) s).trans
    (⟨⟨⟨_, _, _, _, rfl, rfl⟩, fun _ h => h⟩, rfl, rfl⟩ : OrdersTurned _ (State.modOrders (fun u => { u with exhausted := false }) _))).trans
    ((raise_turned _ _).trans (testRoom_turned _))

theorem failQueued_turned (o : Order) (s : State) : OrdersTurned s (failQueued o s) := by
  unfold failQueued
  split
  · exact finishOrder_turned ..
  · exact (modOrder_turned ..).trans (raise_turned ..)

theorem activateUpTo_turned (n : Nat) (s : State) : OrdersTurned s (activateUpTo n s) := by
  induction n generalizing s with
  | zero => exact .refl s
  | succ n ih =>
    unfold activateUpTo
    split
    · exact .refl s
    split
    · exact .refl s
    split
    · exact (failQueued_turned ..).trans (ih _)
    split
    · exact ((makeActive_turned ..).trans (endOrder_turned ..)).trans (ih _)
    · exact makeActive_turned ..

theorem orderCommitted_turned (id : Nat) (counted : Bool) (s : State) : OrdersTurned s (orderCommitted id counted s) := by
  have hcount := modOrder_turned id (fun o => { o with planned := satAdd Config.max32 o.planned 1 }) s
  unfold orderCommitted
  split
  · dsimp only
    split
    · exact hcount
    split
    · exact (hcount.trans (endOrder_turned _ _)).trans (activateUpTo_turned _ _)
    · exact hcount
  · exact .refl s

/-! ### The count of a plate (R95) -/

theorem findOrder_modOrder (s : State) (id : Nat) (g : Order → Order) (hg : ∀ o, (g o).id = o.id) :
    (modOrder id g s).findOrder id = (s.findOrder id).map g := by
  have hpred : ((fun o : Order => o.id == id) ∘ fun o => if o.id == id then g o else o) = fun o => o.id == id := by
    funext o
    dsimp only [Function.comp]
    split
    · rw [hg]
    · rfl
  change (List.map _ s.orders.queue).find? _ = _
  rw [List.find?_map, hpred, State.findOrder]
  cases h : s.orders.queue.find? fun o => o.id == id with
  | none => rfl
  | some o => exact congrArg some (if_pos (List.find?_some h :))

theorem findOrder_mem {s : State} {o : Order} (h : o ∈ s.orders.queue) (hn : (s.orders.queue.map Order.id).Nodup) : s.findOrder o.id = some o := by
  obtain ⟨pre, post, hq⟩ := List.append_of_mem h
  exact findOrder_split hq hn

/-- R95: the order counts the plate, and at its quantity enters ENDING and the next is activated. -/
theorem orderCommitted_eq {s : State} {o : Order} (h : o ∈ s.orders.queue) (hn : (s.orders.queue.map Order.id).Nodup) :
    orderCommitted o.id true s =
      let t := modOrder o.id (fun q => { q with planned := min 4294967295 (q.planned + 1) }) s
      if 0 < o.quantity ∧ min 4294967295 (o.planned + 1) = o.quantity then activateNext (endOrder o.id t) else t := by
  have hfind := findOrder_modOrder s o.id (fun q => { q with planned := satAdd Config.max32 q.planned 1 }) fun _ => rfl
  unfold orderCommitted
  dsimp only
  rw [if_pos rfl, hfind, findOrder_mem h hn]
  rfl

theorem orderCommitted_counts {s : State} {o : Order} (h : o ∈ s.orders.queue) (hn : (s.orders.queue.map Order.id).Nodup)
    (hr : s.recordsOf o.id ≠ 0) (counted : Bool) : OrderCounts s (orderCommitted o.id counted s) o counted := by
  cases counted with
  | false => exact ⟨fun _ => rfl, fun h => absurd h (by simp), fun _ h => absurd h (by simp)⟩
  | true =>
    rw [orderCommitted_eq h hn]
    dsimp only
    refine ⟨fun h => absurd h (by simp), fun _ hbelow => ?_, fun ended _ hpos hreached hended => ?_⟩
    · rw [if_neg (by omega), modOrder_eq]
    · rw [if_pos ⟨hpos, hreached⟩]
      obtain ⟨p, hp⟩ := endOrder_records (s := modOrder o.id (fun q => { q with planned := min 4294967295 (q.planned + 1) }) s) (id := o.id) hr
      have hqueue : ((modOrder o.id (fun q => { q with planned := min 4294967295 (q.planned + 1) }) s).orders.queue.map fun q =>
          if q.id = o.id then { q with state := .ending } else q) = ended := by
        rw [hended, modOrder_eq, List.map_map]
        refine List.map_congr_left fun q _ => ?_
        by_cases hid : q.id = o.id <;> simp [hid]
      rw [hqueue] at hp
      generalize endOrder o.id (modOrder o.id (fun q => { q with planned := min 4294967295 (q.planned + 1) }) s) = u at hp
      have horders : u.orders = { s.orders with queue := ended } := by rw [hp, modOrder_eq]
      have hmode : u.port.mode = s.port.mode := by rw [hp, modOrder_eq]
      refine ⟨fun hidle => ?_, fun n hprod hactive hn hfits hquantity => ?_⟩
      · rw [activateNext_idle, horders]
        rcases hidle with hnone | hmodes
        · exact .inr (.inr (oldestQueued_none (by rwa [horders])))
        · exact .inl (by rwa [hmode])
      · have hfit : u.fitCheck n = s.fitCheck n := by
          rw [hp, modOrder_eq]
          rfl
        rw [activateNext_fits (hmode.trans hprod) (activeOrder_none (by rwa [horders])) (by rw [State.oldestQueued, horders]; exact hn)
          (hfit.trans hfits) hquantity]
        obtain ⟨p', hp'⟩ := makeActive_eq n u
        refine ⟨by rw [hp', horders], ?_⟩
        rw [makeActive, testRoom_latched]
        simp

/-- What an order counts is read from the orders, the mode and the fit checks alone. -/
theorem OrderCounts.congr {s s' t t' : State} {o : Order} {counted : Bool} (h : OrderCounts s' t o counted) (horders : s'.orders = s.orders)
    (hmode : s'.port.mode = s.port.mode) (hfit : s'.fitCheck = s.fitCheck) (ht : t'.orders = t.orders)
    (hl : t.latched .orderActivated = true → t'.latched .orderActivated = true) : OrderCounts s t' o counted := by
  obtain ⟨huncounted, hbelow, hreached⟩ := h
  rw [horders] at huncounted hbelow
  refine ⟨fun hc => ht.trans (huncounted hc), fun hc hq => ht.trans (hbelow hc hq), fun ended hc hpos hq hended => ?_⟩
  rw [horders, hmode, hfit] at hreached
  obtain ⟨hidle, hnext⟩ := hreached ended hc hpos hq hended
  refine ⟨fun h => ht.trans (hidle h), fun n h1 h2 h3 h4 h5 => ?_⟩
  obtain ⟨ho, hlatched⟩ := hnext n h1 h2 h3 h4 h5
  exact ⟨ht.trans ho, hl hlatched⟩

/-! ### References taken (R81) -/

theorem interval_meets_iff (a b : Nat) (i : Interval) : i.meets a b = true ↔
    i.yStart < b ∧ i.yEnd.all (fun y => decide (a < y ∧ i.yStart < y)) = true := by
  unfold Interval.meets
  rw [Bool.and_eq_true, decide_eq_true_iff]
  cases i.yEnd <;> simp

theorem takeReferences_eq (a b : Nat) (s : State) : takeReferences a b s = { s with map := s.map.referenced a b } := by
  have hentries : updateWhere (MapEntry.meets a b) (fun e => { e with refs := e.refs + 1 }) s.map.entries =
      (s.map.referenced a b).entries := by
    refine List.map_congr_left fun e _ => if_congr ?_ rfl rfl
    rw [MapEntry.meets, Bool.and_eq_true, decide_eq_true_iff, decide_eq_true_iff]
  have hblind : updateWhere (Interval.meets a b) (fun i => { i with refs := i.refs + 1 }) s.map.blind = (s.map.referenced a b).blind :=
    List.map_congr_left fun i _ => if_congr (interval_meets_iff a b i) rfl rfl
  unfold takeReferences State.modMap
  dsimp only
  rw [hentries, hblind]
  rfl

/-! ### The record of a commit (R114, R146, R149) -/

theorem gradePieces_dest (s : State) (order : Option Order) (forced : Bool) (y : Span) :
    ∀ p ∈ s.gradePieces order forced y, p.dest = s.grader.active.dest.get p.grade := by
  intro p hp
  cases order with
  | none =>
    rw [State.gradePieces, List.mem_singleton] at hp
    rw [hp]
    rfl
  | some o =>
    obtain ⟨x, -, rfl⟩ := List.mem_map.1 hp
    rfl

section
variable (s : State) (order : Option Order) (length : Nat) (forced : Bool)

theorem newRecord_chain {h : Nat} (hc : s.planner.openChain = some h) : (s.newRecord order length forced).grade = .x ∧
    (s.newRecord order length forced).absorbedInto = some h ∧ (s.newRecord order length forced).counted = false := by
  unfold State.newRecord
  dsimp only
  rw [hc]
  exact ⟨rfl, rfl, rfl⟩

theorem newRecord_alone (hc : s.planner.openChain = none) :
    (s.newRecord order length forced).grade = worstGrade (s.gradePieces order forced ⟨s.planner.yPrev, s.planner.yPrev + length⟩) ∧
    (s.newRecord order length forced).absorbedInto = none ∧
    (s.newRecord order length forced).counted = order.any fun o => o.counts (s.newRecord order length forced).grade := by
  unfold State.newRecord
  dsimp only
  rw [hc]
  exact ⟨rfl, rfl, rfl⟩

theorem newRecord_committedAs : CommittedAs s order s.planner.nextPlate s.planner.nextCut s.planner.yPrev (s.planner.yPrev + length) forced
    s.planner.openChain (s.newRecord order length forced) := by
  unfold State.newRecord
  dsimp only
  cases hc : s.planner.openChain with
  | none =>
    refine ⟨rfl, rfl, rfl, rfl, rfl, rfl, rfl, rfl, rfl, rfl, rfl, fun _ => ⟨rfl, rfl, ?_⟩, fun _ => ⟨rfl, rfl⟩, fun h hh => by cases hh⟩
    exact gradePieces_dest s order forced ⟨s.planner.yPrev, s.planner.yPrev + length⟩
  | some h =>
    refine ⟨rfl, rfl, rfl, rfl, rfl, rfl, rfl, rfl, rfl, rfl, rfl, fun hn => (by cases hn), fun hn => (by cases hn), fun _ _ => ?_⟩
    exact ⟨rfl, rfl, rfl, rfl, rfl⟩

end

/-- A cull is graded X (R147, R149). -/
theorem newRecord_cull (s : State) (length : Nat) (forced : Bool) : (s.newRecord none length forced).grade = .x := by
  cases hc : s.planner.openChain with
  | none =>
    rw [(newRecord_alone s none length forced hc).1]
    rfl
  | some h => exact (newRecord_chain s none length forced hc).1

/-! ### One commit (R114) -/

/-- R114: what one commit leaves of `s`. -/
structure Committed (order : Option Order) (length : Nat) (forced : Bool) (s t : State) : Prop where
  frame : ∃ u p v h, t = { s with
      map := if s.planner.openChain = none then s.map.referenced s.planner.yPrev (s.planner.yPrev + length) else s.map,
      orders := u,
      planner := { s.planner with
        table := s.planner.table ++ [s.newRecord order length forced], nextPlate := nextId s.planner.nextPlate,
        nextCut := nextId s.planner.nextCut, yPrev := s.planner.yPrev + length, lastCut := some (s.planner.yPrev + length), planning := p },
      cutter := { s.cutter with sentCut := min 4294967295 (s.cutter.sentCut + 1) },
      port := { s.port with events := v },
      report := { s.report with shift := h },
      out := { s.out with cutter := s.out.cutter ++ [.cut s.planner.nextCut (s.planner.yPrev + length)
        (s.planner.yPrev + length + s.pos.geometry.dgc - s.pos.y) s.pos.speed] } } ∧
    p.testing = s.planner.planning.testing ∧ h.forced = s.report.shift.forced
  latched : ∀ e, s.latched e = true → t.latched e = true
  cull : order = none → t.orders = s.orders ∧ t.port = s.port
  plate : ∀ o, order = some o → o ∈ s.orders.queue → (s.orders.queue.map Order.id).Nodup →
    OrderCounts s t o (s.newRecord order length forced).counted
  uncounted : (s.newRecord order length forced).counted = false → t.orders = s.orders

theorem commitRecord_committed (order : Option Order) (length : Nat) (forced : Bool) (s : State) :
    Committed order length forced s (commitRecord order length forced s) := by
  have hrec := newRecord_committedAs s order length forced
  have hrefs (t : State) : takeRecordReferences (s.newRecord order length forced) t =
      { t with map := if s.planner.openChain = none then t.map.referenced s.planner.yPrev (s.planner.yPrev + length) else t.map } := by
    unfold takeRecordReferences
    rw [hrec.absorbedInto, hrec.yStart, hrec.yEnd, takeReferences_eq]
    cases s.planner.openChain <;> rfl
  generalize hr : s.newRecord order length forced = r at hrec hrefs
  generalize hu : ({ s with
      map := if s.planner.openChain = none then s.map.referenced s.planner.yPrev (s.planner.yPrev + length) else s.map,
      planner := { s.planner with
        table := s.planner.table ++ [r], nextPlate := nextId s.planner.nextPlate, nextCut := nextId s.planner.nextCut } } : State) = u
  have hcommit : commitRecord order length forced s = sendCut r.cut.id r.yEnd
      ((match r.order with | none => u | some id => orderCommitted id r.counted u).modPlanner
        fun p => { p with yPrev := r.yEnd, lastCut := some r.yEnd }) := by
    unfold commitRecord
    dsimp only
    rw [hr, hrefs, ← hu]
    rfl
  have hmove : OrdersTurned u (match r.order with | none => u | some id => orderCommitted id r.counted u) := by
    cases r.order with
    | none => exact .refl u
    | some id => exact orderCommitted_turned ..
  rw [hrec.order] at hcommit hmove
  rw [hrec.cut, hrec.yEnd] at hcommit
  subst hr
  rw [hcommit]
  refine ⟨?_, ?_, ?_, ?_, ?_⟩
  · obtain ⟨⟨⟨o, p, v, h, ht, hseq⟩, -⟩, htesting, hforced⟩ := hmove
    rw [ht] at htesting hforced ⊢
    subst hu
    exact ⟨o, p, v, h, rfl, htesting, hforced⟩
  · intro e he
    refine hmove.moved.latched e ?_
    subst hu
    exact he
  · rintro rfl
    subst hu
    exact ⟨rfl, rfl⟩
  · rintro o rfl hmem hn
    have hrecords : u.recordsOf o.id ≠ 0 := fun hzero => (recordsOf_eq_zero u o.id).1 hzero
      ⟨s.newRecord (some o) length forced, by subst hu; simp, hrec.order, by rw [hrec.state]; simp⟩
    have hcounts := orderCommitted_counts (s := u) (o := o) (by subst hu; exact hmem) (by subst hu; exact hn) hrecords
      (s.newRecord (some o) length forced).counted
    subst hu
    exact hcounts.congr rfl rfl rfl rfl id
  · intro hno
    cases order with
    | none =>
      subst hu
      rfl
    | some o =>
      dsimp only [Option.map]
      rw [hno]
      subst hu
      rfl

/-! ### The grades of a piece do not read the reference counts -/

/-- `m'` is `m` but for the reference counts of its entries and intervals. -/
structure RefsOnly (m m' : MapUnit) : Prop where
  entries : ∃ f : MapEntry → MapEntry, (∀ e, ∃ n, f e = { e with refs := n }) ∧ m'.entries = m.entries.map f
  blind : ∃ g : Interval → Interval, (∀ b, ∃ n, g b = { b with refs := n }) ∧ m'.blind = m.blind.map g

theorem RefsOnly.refl (m : MapUnit) : RefsOnly m m :=
  ⟨⟨id, fun e => ⟨e.refs, rfl⟩, (List.map_id _).symm⟩, ⟨id, fun b => ⟨b.refs, rfl⟩, (List.map_id _).symm⟩⟩

theorem refsOnly_referenced (a b : Nat) (m : MapUnit) : RefsOnly m (m.referenced a b) := by
  refine ⟨⟨_, fun e => ?_, rfl⟩, ⟨_, fun i => ?_, rfl⟩⟩
  · by_cases h : e.yFirst < b ∧ a ≤ e.yLast
    · exact ⟨e.refs + 1, if_pos h⟩
    · exact ⟨e.refs, if_neg h⟩
  · by_cases h : i.yStart < b ∧ i.yEnd.all (fun y => decide (a < y ∧ i.yStart < y)) = true
    · exact ⟨i.refs + 1, if_pos h⟩
    · exact ⟨i.refs, if_neg h⟩

section
variable {f : MapEntry → MapEntry} (hf : ∀ e, ∃ n, f e = { e with refs := n })
include hf

/-- A test that does not read the reference count passes the same entries. -/
theorem filter_map_refs {p : MapEntry → Bool} (hp : ∀ (e : MapEntry) n, p { e with refs := n } = p e) (es : List MapEntry) :
    (es.map f).filter p = (es.filter p).map f := by
  rw [List.filter_map]
  refine congrArg (List.map f) (List.filter_congr fun e _ => ?_)
  obtain ⟨n, hn⟩ := hf e
  exact (congrArg p hn).trans (hp e n)

theorem zoneLimit_admits_refs (z : ZoneLimit) (es : List MapEntry) : z.admits (es.map f) = z.admits es := by
  have hsize : ((fun e : MapEntry => decide (e.size ≤ z.size)) ∘ f) = fun e => decide (e.size ≤ z.size) := by
    funext e
    obtain ⟨n, hn⟩ := hf e
    simp only [Function.comp, hn]
  rw [ZoneLimit.admits, ZoneLimit.admits, List.all_map, hsize, List.length_map]

theorem classLimits_admit_refs (l : PerClass ClassLimit) (edge core : List MapEntry) :
    l.admits (edge.map f) (core.map f) = l.admits edge core := by
  have hcls (k : FlawClass) (es : List MapEntry) : (es.map f).filter (fun e => e.cls == k) = (es.filter fun e => e.cls == k).map f :=
    filter_map_refs hf (fun _ _ => rfl) es
  simp only [PerClass.admits, hcls, zoneLimit_admits_refs hf]

theorem flawGrade_refs (t : GradeTable) (r : Rect) (es : List MapEntry) : flawGrade t r (es.map f) = flawGrade t r es := by
  have hedge : (es.map f).filter (MapEntry.edge t.band r) = (es.filter (MapEntry.edge t.band r)).map f :=
    filter_map_refs hf (fun _ _ => rfl) es
  have hcore : ((es.map f).filter fun e => !e.edge t.band r) = (es.filter fun e => !e.edge t.band r).map f :=
    filter_map_refs hf (fun _ _ => rfl) es
  unfold flawGrade
  dsimp only
  simp only [hedge, hcore, classLimits_admit_refs hf]

theorem countedFlaws_refs (t : GradeTable) (r : Rect) (es : List MapEntry) : countedFlaws t r (es.map f) = (countedFlaws t r es).map f :=
  filter_map_refs hf (fun _ _ => rfl) es

end

theorem blindPermille_refs {g : Interval → Interval} (hg : ∀ b, ∃ n, g b = { b with refs := n }) (blind : List Interval) (v : Option Nat)
    (r : Rect) : blindPermille (blind.map g) v r = blindPermille blind v r := by
  have hlane (p : Option LaneId → Bool) : ((fun b : Interval => p b.lane) ∘ g) = fun b => p b.lane := by
    funext b
    obtain ⟨n, hn⟩ := hg b
    simp only [Function.comp, hn]
  have hspan (limit : Nat) : ((fun b : Interval => (⟨b.yStart, b.yEnd.getD limit⟩ : Span)) ∘ g) = fun b => ⟨b.yStart, b.yEnd.getD limit⟩ := by
    funext b
    obtain ⟨n, hn⟩ := hg b
    simp only [Function.comp, hn]
  have harea (full : List Span) : laneBlindArea full r ∘ g = laneBlindArea full r := by
    funext b
    obtain ⟨n, hn⟩ := hg b
    simp only [Function.comp, hn]
    rfl
  have hfull (limit : Nat) : fullWidth (blind.map g) v limit = fullWidth blind v limit := by
    rw [fullWidth, List.filter_map, List.map_map, hspan, hlane Option.isNone]
    rfl
  have hblind : blindArea (blind.map g) v r = blindArea blind v r := by
    unfold blindArea
    dsimp only
    rw [hfull, List.filter_map, List.map_map, harea, hlane Option.isSome]
  rw [blindPermille, hblind]
  rfl

section
variable {s t : State} (hpos : t.pos = s.pos) (htracker : t.tracker = s.tracker) (hgrader : t.grader = s.grader) (hmap : RefsOnly s.map t.map)
include hmap

theorem meetingFlaws_refs (a b : Nat) : t.meetingFlaws a b = s.meetingFlaws a b := by
  obtain ⟨f, hf, he⟩ := hmap.entries
  rw [State.meetingFlaws, he, filter_map_refs hf fun _ _ => rfl, List.map_map]
  refine List.map_congr_left fun e _ => ?_
  obtain ⟨n, hn⟩ := hf e
  exact (congrArg MapEntry.id hn :)

theorem meetingBlind_refs (a b : Nat) : t.meetingBlind a b = s.meetingBlind a b := by
  obtain ⟨g, hg, hb⟩ := hmap.blind
  have hmeets : Interval.meets a b ∘ g = Interval.meets a b := by
    funext i
    obtain ⟨n, hn⟩ := hg i
    simp only [Function.comp, hn]
    rfl
  rw [State.meetingBlind, hb, List.filter_map, List.map_map, hmeets]
  refine List.map_congr_left fun i _ => ?_
  obtain ⟨n, hn⟩ := hg i
  exact (congrArg Interval.id hn :)

include hpos htracker hgrader

theorem gradePieces_refs : t.gradePieces = s.gradePieces := by
  obtain ⟨f, hf, he⟩ := hmap.entries
  obtain ⟨g, hg, hb⟩ := hmap.blind
  have hvirtual (forced : Bool) : t.virtualFrom forced = s.virtualFrom forced := by rw [State.virtualFrom, htracker]; rfl
  have hplate : t.gradePlatePiece = s.gradePlatePiece := by
    funext forced y x
    unfold State.gradePlatePiece
    dsimp only
    rw [hgrader, he, hb, countedFlaws_refs hf, flawGrade_refs hf, List.length_map, blindPermille_refs hg, hvirtual]
  have hcull : t.gradeCullPiece = s.gradeCullPiece := by
    funext forced y
    unfold State.gradeCullPiece State.geo
    dsimp only
    rw [hpos, hgrader, he, hb, countedFlaws_refs hf, List.length_map, blindPermille_refs hg, hvirtual]
  funext order forced y
  unfold State.gradePieces State.geo
  rw [hplate, hcull, hpos]

theorem CommittedAs.congr {named : Option Order} {plate cut start stop : Nat} {early : Bool} {chain : Option Nat} {r : PlateRecord}
    (h : CommittedAs t named plate cut start stop early chain r) : CommittedAs s named plate cut start stop early chain r := by
  obtain ⟨h1, h2, h3, h4, h5, h6, h7, h8, h9, h10, h11, h12, h13, h14⟩ := h
  rw [hgrader] at h8 h10 h12
  rw [gradePieces_refs hpos htracker hgrader hmap] at h12 h14
  rw [meetingFlaws_refs hmap, meetingBlind_refs hmap] at h13
  exact ⟨h1, h2, h3, h4, h5, h6, h7, h8, h9, h10, h11, h12, h13, h14⟩

end

/-! ### Plans of one and of two commits (R111 to R113) -/

/-- The last of a plan's commits and the test of the room that follows: the Planner goes on testing its triggers. -/
theorem testRoom_ready {s : State} (h : s.planner.planning.testing = true) :
    ∃ p, testRoom s = { s with planner := { s.planner with planning := p } } ∧ (p = .ready ∨ p = .waiting) := by
  obtain ⟨p, hp, -, hready⟩ := testRoom_spec s
  exact ⟨p, hp, (hready h).symm⟩

/-- What the statements of a plan say of one commit taken in `s`. -/
structure PlannedOne (s : State) (order : Option Order) (length : Nat) (forced : Bool) (t : State) : Prop where
  table : t.planner.table = s.planner.table ++ [s.newRecord order length forced]
  advanced : Advanced s t (s.planner.yPrev + length) 1
  map : t.map = if s.planner.openChain = none then s.map.referenced s.planner.yPrev (s.planner.yPrev + length) else s.map
  sent : t.out.cutter = s.out.cutter ++ [.cut s.planner.nextCut (s.planner.yPrev + length)
    (s.planner.yPrev + length + s.pos.geometry.dgc - s.pos.y) s.pos.speed]

/-- The planned state before its commit, but for its orders, the events and the counts of the open shift. -/
theorem plannedOne {s s' : State} {u : OrderUnit} {v : BitVec 16} {h : Shift}
    (hs : s' = { s with orders := u, port := { s.port with events := v }, report := { s.report with shift := h } })
    (htesting : s.planner.planning.testing = true) (order : Option Order) (length : Nat) (forced : Bool) :
    PlannedOne s order length forced (testRoom (commitRecord order length forced s')) := by
  obtain ⟨⟨u', p, v', h', ht, hp, -⟩, -⟩ := commitRecord_committed order length forced s'
  rw [ht]
  subst hs
  obtain ⟨p', hroom, hready⟩ := testRoom_ready (s := commitRecord order length forced
    { s with orders := u, port := { s.port with events := v }, report := { s.report with shift := h } })
    (by rw [ht]; exact hp.trans htesting)
  rw [ht] at hroom
  rw [hroom]
  exact ⟨rfl, ⟨rfl, rfl, rfl, rfl, hready, rfl, rfl, rfl, rfl, rfl, rfl, rfl, rfl, rfl, rfl, rfl⟩, rfl, rfl⟩

theorem newRecord_openChain {s t : State} {order : Option Order} {length : Nat} {forced : Bool}
    (ht : t.planner.table = s.planner.table ++ [s.newRecord order length forced]) : t.planner.openChain = none := by
  have hlast : t.planner.table.getLast? = some (s.newRecord order length forced) := by rw [ht, List.getLast?_concat]
  rw [openChain_record hlast, (newRecord_committedAs s order length forced).state]
  rfl

/-- What the statements of a plan say of a cull of `c` and a plate of `o` after it. -/
structure PlannedTwo (s : State) (o : Order) (c : Nat) (t : State) (r : PlateRecord) : Prop where
  table : t.planner.table = s.planner.table ++ [s.newRecord none c false, r]
  advanced : Advanced s t (s.planner.yPrev + c + o.length) 2
  map : t.map = (if s.planner.openChain = none then s.map.referenced s.planner.yPrev (s.planner.yPrev + c) else s.map).referenced
    (s.planner.yPrev + c) (s.planner.yPrev + c + o.length)
  record : CommittedAs s (some o) (nextId s.planner.nextPlate) (nextId s.planner.nextCut) (s.planner.yPrev + c)
    (s.planner.yPrev + c + o.length) false none r
  grade : r.grade = s.evaluatePlate o (s.planner.yPrev + c)
  counted : r.counted = o.counts r.grade
  counts : o ∈ s.orders.queue → (s.orders.queue.map Order.id).Nodup → OrderCounts s t o r.counted

theorem plannedTwo {s : State} (htesting : s.planner.planning.testing = true) (o : Order) (c : Nat) :
    PlannedTwo s o c (testRoom (commitPlate o false (commitCull c false s))) ((commitCull c false s).newRecord (some o) o.length false) := by
  obtain ⟨⟨u, p, v, h, ht, hp, -⟩, -, hcull, -, -⟩ := commitRecord_committed none c false s
  change commitCull c false s = _ at ht
  obtain ⟨horders, hport⟩ := hcull rfl
  change (commitCull c false s).orders = _ at horders
  change (commitCull c false s).port = _ at hport
  generalize commitCull c false s = t at ht horders hport
  have hchain : t.planner.openChain = none := newRecord_openChain (s := s) (order := none) (length := c) (forced := false) (by rw [ht])
  have hpos : t.pos = s.pos := by rw [ht]
  have htracker : t.tracker = s.tracker := by rw [ht]
  have hgrader : t.grader = s.grader := by rw [ht]
  have hmap : RefsOnly s.map t.map := by
    rw [ht]
    cases s.planner.openChain with
    | none => exact refsOnly_referenced ..
    | some h => exact .refl _
  have hfit : t.fitCheck = s.fitCheck := by
    rw [ht]
    rfl
  have hy : t.planner.yPrev = s.planner.yPrev + c := by rw [ht]
  obtain ⟨⟨u', p', v', h', ht', hp', -⟩, -, -, hplate, -⟩ := commitRecord_committed (some o) o.length false t
  change commitPlate o false t = _ at ht'
  change ∀ q, some o = some q → _ → _ → OrderCounts t (commitPlate o false t) q _ at hplate
  have htesting' : (commitPlate o false t).planner.planning.testing = true := by
    rw [ht']
    refine hp'.trans ?_
    rw [ht]
    exact hp.trans htesting
  obtain ⟨p'', hroom, hready⟩ := testRoom_ready htesting'
  have hrecord := newRecord_committedAs t (some o) o.length false
  obtain ⟨hgrade, -, hcounted⟩ := newRecord_alone t (some o) o.length false hchain
  rw [gradePieces_refs hpos htracker hgrader hmap, hy] at hgrade
  have hcounts (hmem : o ∈ s.orders.queue) (hn : (s.orders.queue.map Order.id).Nodup) :
      OrderCounts s (testRoom (commitPlate o false t)) o (t.newRecord (some o) o.length false).counted := by
    refine (hplate o rfl (by rwa [horders]) (by rwa [horders])).congr horders (by rw [hport]) hfit (testRoom_orders _) fun hl => ?_
    rwa [testRoom_latched]
  have hrecord' := hrecord.congr hpos htracker hgrader hmap
  rw [hchain] at hrecord'
  rw [if_pos hchain] at ht'
  generalize t.newRecord (some o) o.length false = r at *
  rw [hroom, ht'] at hcounts ⊢
  subst ht
  refine ⟨List.append_assoc .., ⟨rfl, rfl, rfl, rfl, hready, rfl, rfl, ?_, rfl, rfl, rfl, rfl, rfl, rfl, rfl, rfl⟩, rfl,
    hrecord', hgrade, hcounted, hcounts⟩
  refine congrArg (fun n => { s.cutter with sentCut := n }) ?_
  dsimp only
  omega

end Sys2Proof.Machine
end

section
/-!
NORMAL PLAN, FORCED PLAN and PLAN OVERRUN (O40 and O42), from the commits they are made of.
-/

namespace Sys2Proof.Machine

/-! ### The triggers (R106, R108, R109) -/

theorem testing_iff (p : PlanningState) : p.testing = true ↔ p = .ready ∨ p = .waiting := by
  cases p <;> simp [PlanningState.testing]

theorem normalDue_iff (s : State) : s.normalDue = true ↔ (s.planner.planning = .ready ∨ s.planner.planning = .waiting) ∧
    s.planner.yPrev + s.planner.params.maxCull + s.plateLength ≤ s.tracker.frontier ∧ s.planner.table.length + 2 ≤ 128 := by
  rw [State.normalDue, Bool.and_eq_true, Bool.and_eq_true, testing_iff, decide_eq_true_iff, and_assoc]
  exact and_congr_right fun _ => and_congr_left fun _ => decide_eq_true_iff

/-- R109: the forced trigger. -/
def State.forcedMet (s : State) : Prop := ∃ a, s.cutter.agreement = some a ∧
  s.earliestCut a + s.pos.geometry.dgc ≤ s.pos.y + a.lead + s.planner.params.guard

theorem forcedTrigger_iff (s : State) : s.forcedTrigger = true ↔ s.forcedMet := by
  unfold State.forcedTrigger State.forcedMet
  cases s.cutter.agreement with
  | none => simp
  | some a =>
    refine ⟨fun h => ⟨a, rfl, of_decide_eq_true h⟩, ?_⟩
    rintro ⟨b, hb, h⟩
    cases hb
    exact decide_eq_true h

theorem forcedDue_iff (s : State) : s.forcedDue = true ↔ (s.planner.planning = .ready ∨ s.planner.planning = .waiting) ∧ s.forcedMet ∧
    s.planner.table.length + 1 ≤ 128 ∧ ¬ (s.planner.yPrev + s.planner.params.maxCull + s.plateLength ≤ s.tracker.frontier ∧
      s.planner.table.length + 2 ≤ 128) := by
  rw [State.forcedDue, Bool.and_eq_true, Bool.and_eq_true, Bool.and_eq_true, Bool.not_eq_true', Bool.eq_false_iff, Ne, normalDue_iff, testing_iff,
    forcedTrigger_iff, decide_eq_true_iff, and_assoc, and_assoc]
  refine and_congr_right fun htesting => and_congr_right fun _ => and_congr_right fun _ => not_congr ?_
  exact and_iff_right htesting

theorem overrunDue_iff (s : State) : s.overrunDue = true ↔ (s.planner.planning = .ready ∨ s.planner.planning = .waiting) ∧ s.forcedMet ∧
    128 ≤ s.planner.table.length := by
  rw [State.overrunDue, Bool.and_eq_true, Bool.and_eq_true, testing_iff, forcedTrigger_iff, decide_eq_true_iff, and_assoc]
  rfl

/-! ### The open chain (R124) -/

theorem openChain_iff (p : Planner) (h : Nat) : p.openChain = some h ↔
    (∃ r, p.table.getLast? = some r ∧ r.state = .spilled ∧ h = r.absorbedInto.getD r.id) ∨
      (p.table = [] ∧ h = 0 ∧ ∃ c, p.head = some c ∧ c.leadIn = true ∧ (c.cut.state = .rejected ∨ c.cut.state = .missed)) := by
  have hfailed (c : CutState) : c.failed = true ↔ c = .rejected ∨ c = .missed := by cases c <;> simp [CutState.failed]
  cases hlast : p.table.getLast? with
  | some r =>
    have hne : p.table ≠ [] := fun hnil => by simp [hnil] at hlast
    rw [openChain_record hlast]
    constructor
    · intro hc
      by_cases hs : r.state = .spilled
      · rw [if_pos hs] at hc
        exact .inl ⟨r, rfl, hs, (Option.some.inj hc).symm⟩
      · rw [if_neg hs] at hc
        cases hc
    · rintro (⟨q, hq, hs, rfl⟩ | ⟨hnil, -⟩)
      · cases hq
        exact if_pos hs
      · exact absurd hnil hne
  | none =>
    have hnil : p.table = [] := List.getLast?_eq_none_iff.1 hlast
    cases hhead : p.head with
    | none =>
      have hopen : p.openChain = none := by simp only [Planner.openChain, hlast, hhead]
      simp [hopen]
    | some c =>
      have hopen : p.openChain = if c.leadIn && c.cut.state.failed then some 0 else none := by simp only [Planner.openChain, hlast, hhead]
      rw [hopen]
      by_cases hlead : (c.leadIn && c.cut.state.failed) = true
      · have hboth := hlead
        rw [Bool.and_eq_true, hfailed] at hboth
        rw [if_pos hlead]
        constructor
        · intro hc
          exact .inr ⟨hnil, (Option.some.inj hc).symm, c, rfl, hboth⟩
        · rintro (⟨r, hr, -⟩ | ⟨-, rfl, -⟩)
          · cases hr
          · rfl
      · rw [if_neg hlead]
        constructor
        · intro hc
          cases hc
        · rintro (⟨r, hr, -⟩ | ⟨-, -, d, hd, hboth⟩)
          · cases hr
          · cases hd
            rw [← hfailed, ← Bool.and_eq_true] at hboth
            exact absurd hboth hlead

/-! ### The candidate that a plan takes (R110, R111) -/

theorem candidates_zero (s : State) : ∃ cs, s.candidates = 0 :: cs := by
  obtain ⟨hsorted, hlen, -, hall⟩ := chooseLengths_spec s.cMin s.planner.params.maxCull
    (s.cMin :: (s.map.entries.filter s.windowFlaw).map fun e => e.yLast + 1 + s.planner.params.clearance - s.planner.yPrev)
  change s.candidates.Pairwise _ at hsorted
  change s.candidates.length ≤ 16 at hlen
  have hmem : 0 ∈ s.candidates := by
    rcases hall 0 (.inl rfl) with h | ⟨hfull, hlt⟩
    · exact h
    · have hfull : s.candidates.length = 16 := hfull
      obtain ⟨d, hd⟩ := List.exists_mem_of_length_pos (l := s.candidates) (by omega)
      exact absurd (hlt d hd) (Nat.not_lt_zero d)
  cases hc : s.candidates with
  | nil => rw [hc] at hmem; cases hmem
  | cons d cs =>
    rw [hc] at hmem hsorted
    rcases List.mem_cons.1 hmem with rfl | hmem
    · exact ⟨cs, rfl⟩
    · exact absurd ((List.pairwise_cons.1 hsorted).1 0 hmem) (Nat.not_lt_zero d)

/-- The plate after a cull of `c` meets the order's target. -/
def State.plateMeets (s : State) (o : Order) (c : Nat) : Prop := (s.evaluatePlate o (s.planner.yPrev + c)).rank ≤ o.target.rank

theorem meetsTarget_iff (s : State) (o : Order) (c : Nat) :
    (s.evaluatePlate o (s.planner.yPrev + c)).meetsTarget o.target = true ↔ s.plateMeets o c := decide_eq_true_iff

theorem bestCandidate_meets {s : State} {o : Order} {c : Nat} (h : s.bestCandidate o = some c) : s.plateMeets o c := by
  have hm := List.find?_some (p := fun c => (s.evaluatePlate o (s.planner.yPrev + c)).meetsTarget o.target) h
  exact (meetsTarget_iff s o c).1 hm

theorem planOrder_plate {s : State} {o : Order} (h : s.plateMeets o 0) : planOrder o s = commitPlate o false s := by
  obtain ⟨cs, hcs⟩ := candidates_zero s
  have hbest : s.bestCandidate o = some 0 := by
    rw [State.bestCandidate, hcs]
    exact List.find?_cons_of_pos ((meetsTarget_iff s o 0).2 h)
  rw [planOrder, hbest]
  rfl

theorem planOrder_cullAndPlate {s : State} {o : Order} {c : Nat} (h : ¬ s.plateMeets o 0) (hc : s.bestCandidate o = some c) :
    planOrder o s = commitPlate o false (commitCull c false s) := by
  have hne : c ≠ 0 := by
    rintro rfl
    exact h (bestCandidate_meets hc)
  rw [planOrder, hc]
  dsimp only
  rw [if_neg hne]

theorem bestCandidate_none {s : State} {o : Order} (h : ∀ c ∈ s.candidates, ¬ s.plateMeets o c) : s.bestCandidate o = none :=
  List.find?_eq_none.2 fun c hc hm => h c hc ((meetsTarget_iff s o c).1 hm)

theorem planOrder_take {s : State} {o : Order} (h : ∀ c ∈ s.candidates, ¬ s.plateMeets o c) (hf : o.fallback = .take) :
    planOrder o s = commitPlate o false s := by simp only [planOrder, bestCandidate_none h, hf]

theorem planOrder_cull {s : State} {o : Order} (h : ∀ c ∈ s.candidates, ¬ s.plateMeets o c) (hf : o.fallback = .cull) :
    planOrder o s = commitCull s.planner.params.maxCull false s := by simp only [planOrder, bestCandidate_none h, hf]

/-! ### What the plans leave beside the commit -/

theorem testRoom_port (s : State) : (testRoom s).port = s.port := by
  obtain ⟨p, hp, -⟩ := testRoom_spec s
  rw [hp]

theorem testRoom_report (s : State) : (testRoom s).report = s.report := by
  obtain ⟨p, hp, -⟩ := testRoom_spec s
  rw [hp]

theorem ordersExhausted_eq (s : State) : ∃ v, ordersExhausted s =
    { s with orders := { s.orders with exhausted := true }, port := { s.port with events := v } } ∧
    (s.orders.exhausted = false → (ordersExhausted s).latched .ordersExhausted = true) ∧
    (s.orders.exhausted = true → ordersExhausted s = s) ∧ ∀ e, s.latched e = true → (ordersExhausted s).latched e = true := by
  unfold ordersExhausted
  cases h : s.orders.exhausted with
  | false =>
    refine ⟨_, rfl, fun _ => ?_, fun hc => (by cases hc), fun e he => ?_⟩
    · change (raise .ordersExhausted _).latched _ = true
      simp
    · change (raise .ordersExhausted _).latched _ = true
      rw [latched_raise]
      exact Bool.or_eq_true_iff.2 (.inl he)
  | true =>
    refine ⟨s.port.events, ?_, fun hc => (by cases hc), fun _ => rfl, fun e he => he⟩
    have horders : ({ s.orders with exhausted := true } : OrderUnit) = s.orders := by rw [← h]
    rw [horders]
    rfl

theorem plate_counted (s : State) (o : Order) (forced : Bool) (hc : s.planner.openChain = none) :
    (s.newRecord (some o) o.length forced).counted = (s.newRecord (some o) o.length forced).grade.meetsTarget o.target :=
  (newRecord_alone s (some o) o.length forced hc).2.2

theorem plate_grade (s : State) (o : Order) (hc : s.planner.openChain = none) :
    (s.newRecord (some o) o.length false).grade = s.evaluatePlate o s.planner.yPrev := (newRecord_alone s (some o) o.length false hc).1

/-- The orders after a plan of one plate, from the state before it, whatever events and counts it has gained. -/
theorem plate_orderCounts {s s' : State} {o : Order} {forced : Bool} (h : o ∈ s.orders.queue) (hlaw : OrderLaw s)
    (horders : s'.orders = s.orders) (hmode : s'.port.mode = s.port.mode) (hfit : s'.fitCheck = s.fitCheck) :
    OrderCounts s (testRoom (commitPlate o forced s')) o (s'.newRecord (some o) o.length forced).counted :=
  ((commitRecord_committed (some o) o.length forced s').plate o rfl (by rwa [horders]) (by rw [horders]; exact hlaw.2)).congr horders hmode hfit
    (testRoom_orders _) fun hl => by rw [testRoom_latched]; exact hl

theorem normalPlan_due {s : State} (hh : s.ctl.held = false) (h : s.normalDue = true) :
    exec .normalPlan s = .next (testRoom (match s.activeOrder with | some o => planOrder o s | none => planFiller false s)) :=
  congrArg Host.Outcome.next (if_neg (by simp [hh, h]))

theorem forcedPlan_due {s : State} (hh : s.ctl.held = false) (h : s.forcedDue = true) :
    exec .forcedPlan s = .next (testRoom (planForced s)) := congrArg Host.Outcome.next (if_neg (by simp [hh, h]))

/-- Settles O40. -/
theorem normalPlanCommits : Obligations.NormalPlanCommits := by
  unfold Obligations.NormalPlanCommits
  refine ⟨fun s => openChain_iff s.planner, ?_⟩
  intro s hh due y far meets one
  have hone {order : Option Order} {length : Nat} {t : State} (hexec : exec .normalPlan s = .next t) (h : PlannedOne s order length false t) :
      one order (y + length) t (s.newRecord order length false) :=
    ⟨hexec, h.table, h.advanced, newRecord_committedAs s order length false, h.map, h.sent⟩
  have hsame : s = { s with
      orders := s.orders, port := { s.port with events := s.port.events }, report := { s.report with shift := s.report.shift } } := rfl
  refine ⟨fun hnot => ?_, fun hdue hnone => ?_, fun o hdue ho => ⟨fun hmeets => ?_, fun c hno hc => ?_, fun hno => ⟨fun htake => ?_, fun hcull => ?_⟩⟩⟩
  · have hnormal : s.normalDue = false := Bool.eq_false_iff.2 fun h => hnot ((normalDue_iff s).1 h)
    exact congrArg Host.Outcome.next (if_pos (by simp [hnormal]))
  · have hexec := normalPlan_due hh ((normalDue_iff s).2 hdue)
    rw [activeOrder_none hnone] at hexec
    obtain ⟨v, hv, hlatched, hsame', -⟩ := ordersExhausted_eq s
    have hcommit := commitRecord_committed none s.planner.params.maxCull false (ordersExhausted s)
    have hfiller : planFiller false s = commitRecord none s.planner.params.maxCull false (ordersExhausted s) := rfl
    obtain ⟨horders, hport⟩ := hcommit.cull rfl
    rw [← hfiller] at horders hport
    have hplanned : PlannedOne s none s.planner.params.maxCull false (testRoom (planFiller false s)) := by
      rw [hfiller]
      exact plannedOne (h := s.report.shift) hv ((testing_iff _).2 hdue.1) none s.planner.params.maxCull false
    refine ⟨_, _, hone hexec hplanned, newRecord_cull .., ?_, fun he => ?_, fun he => ?_⟩
    · rw [testRoom_orders, horders, hv]
    · rw [testRoom_latched]
      refine hcommit.latched _ ?_ |> fun h => (congrArg (fun t => t.latched .ordersExhausted) hfiller).trans h
      exact hlatched he
    · rw [testRoom_port, hport, hsame' he]
  all_goals have htesting := (testing_iff _).2 hdue.1
  all_goals have hmem : o ∈ s.orders.queue := List.mem_of_find?_eq_some ho
  all_goals have hexec := normalPlan_due hh ((normalDue_iff s).2 hdue)
  all_goals rw [ho] at hexec
  all_goals dsimp only at hexec
  · rw [planOrder_plate hmeets] at hexec
    refine ⟨_, _, hone hexec (plannedOne hsame htesting (some o) o.length false), fun hlaw => plate_orderCounts hmem hlaw rfl rfl rfl,
      fun hchain => ⟨plate_grade s o hchain, ?_⟩⟩
    rw [plate_counted s o false hchain, plate_grade s o hchain]
    exact (meetsTarget_iff s o 0).2 hmeets
  · rw [planOrder_cullAndPlate hno hc] at hexec
    obtain ⟨htable, hadvanced, hmap, hrecord, hgrade, hcounted, hcounts⟩ := plannedTwo htesting o c
    have hmeets : s.plateMeets o c := bestCandidate_meets hc
    have htrue : ((commitCull c false s).newRecord (some o) o.length false).counted = true := by
      rw [hcounted, hgrade]
      exact (meetsTarget_iff s o c).2 hmeets
    rw [htrue] at hcounts
    refine ⟨_, _, _, hexec, htable, hadvanced, fun hlaw => hcounts hmem hlaw.2, hmap, newRecord_committedAs s none c false, newRecord_cull ..,
      hrecord, hgrade, ?_, htrue⟩
    rw [hgrade]
    exact hmeets
  · rw [planOrder_take hno htake] at hexec
    have huncounted : (s.newRecord (some o) o.length false).counted = false := by
      cases hchain : s.planner.openChain with
      | some h => exact (newRecord_chain s (some o) o.length false hchain).2.2
      | none =>
        obtain ⟨cs, hcs⟩ := candidates_zero s
        rw [plate_counted s o false hchain, plate_grade s o hchain, Bool.eq_false_iff]
        exact fun hm => hno 0 (by simp [hcs]) ((meetsTarget_iff s o 0).1 hm)
    refine ⟨_, _, hone hexec (plannedOne hsame htesting (some o) o.length false), plate_grade s o, huncounted, ?_⟩
    rw [testRoom_orders]
    exact (commitRecord_committed (some o) o.length false s).uncounted huncounted
  · rw [planOrder_cull hno hcull] at hexec
    refine ⟨_, _, hone hexec (plannedOne hsame htesting none s.planner.params.maxCull false), newRecord_cull .., ?_⟩
    rw [testRoom_orders]
    exact ((commitRecord_committed none s.planner.params.maxCull false s).cull rfl).1

/-- The state in which a forced plan commits: the plan is raised and counted. -/
def forcedBefore (s : State) : State := tally Shift.planForced (raise .planForced s)

theorem forcedBefore_latched (s : State) : (forcedBefore s).latched .planForced = true := by
  change (raise .planForced s).latched .planForced = true
  simp

/-- Settles O42. -/
theorem forcedPlanCommits : Obligations.ForcedPlanCommits := by
  unfold Obligations.ForcedPlanCommits
  intro s hh y testing normal forced one
  have hforced : forced ↔ s.forcedMet := by
    simp only [forced, State.forcedMet, State.earliestCut]
    cases s.activeOrder <;> exact Iff.rfl
  have hone {order : Option Order} {length : Nat} {u : State} (hexec : exec .forcedPlan s = .next (testRoom (commitRecord order length true u)))
      (h : PlannedOne s order length true (testRoom (commitRecord order length true u))) (hl : u.latched .planForced = true)
      (hshift : u.report.shift.forced = min 4294967295 (s.report.shift.forced + 1)) :
      one order (y + length) (testRoom (commitRecord order length true u)) (s.newRecord order length true) := by
    have hcommit := commitRecord_committed order length true u
    refine ⟨hexec, h.table, h.advanced, newRecord_committedAs s order length true, ?_, h.map, ?_, h.sent⟩
    · rw [testRoom_latched]
      exact hcommit.latched _ hl
    · rw [testRoom_report]
      obtain ⟨⟨_, _, _, h', ht, -, hcount⟩, -⟩ := hcommit
      rw [ht]
      exact hcount.trans hshift
  refine ⟨fun hnot => ?_, fun ht hf hroom hnormal => ?_, fun hnot => ?_, fun ht hf hfull => ?_⟩
  · have hdue : s.forcedDue = false := Bool.eq_false_iff.2 fun h => hnot (by
      obtain ⟨h1, h2, h3, h4⟩ := (forcedDue_iff s).1 h
      exact ⟨h1, hforced.2 h2, h3, h4⟩)
    exact congrArg Host.Outcome.next (if_pos (by simp [hdue]))
  · have hexec := forcedPlan_due hh ((forcedDue_iff s).2 ⟨ht, hforced.1 hf, hroom, hnormal⟩)
    have htesting := (testing_iff _).2 ht
    have hactive : (forcedBefore s).activeOrder = s.activeOrder := rfl
    refine ⟨fun hnone => ?_, fun o ho => ?_⟩
    · have hplan : planForced s = planFiller true (forcedBefore s) := by
        change (match (forcedBefore s).activeOrder with | some o => commitPlate o true (forcedBefore s) | none => planFiller true (forcedBefore s)) = _
        rw [hactive, hnone]
      obtain ⟨v, hv, hlatched, -, hkeeps⟩ := ordersExhausted_eq (forcedBefore s)
      have hfiller : planFiller true (forcedBefore s) =
          commitRecord none s.planner.params.maxCull true (ordersExhausted (forcedBefore s)) := rfl
      rw [hplan, hfiller] at hexec
      have hcommit := commitRecord_committed none s.planner.params.maxCull true (ordersExhausted (forcedBefore s))
      refine ⟨_, _, hone hexec (plannedOne (s := s) (h := s.report.shift.planForced) hv htesting none s.planner.params.maxCull true) (hkeeps _ (forcedBefore_latched s)) (by rw [hv]; rfl),
        newRecord_cull .., ?_, fun he => ?_⟩
      · rw [testRoom_orders, (hcommit.cull rfl).1, hv]
        rfl
      · rw [testRoom_latched]
        exact hcommit.latched _ (hlatched he)
    · have hplan : planForced s = commitPlate o true (forcedBefore s) := by
        change (match (forcedBefore s).activeOrder with | some o => commitPlate o true (forcedBefore s) | none => planFiller true (forcedBefore s)) = _
        rw [hactive, ho]
      rw [hplan] at hexec
      refine ⟨_, _, hone hexec (plannedOne (u := s.orders) (h := s.report.shift.planForced) rfl htesting (some o) o.length true) (forcedBefore_latched s) rfl,
        fun hlaw => plate_orderCounts (s' := forcedBefore s) (List.mem_of_find?_eq_some ho) hlaw rfl rfl rfl, plate_counted s o true⟩
  · have hdue : s.overrunDue = false := Bool.eq_false_iff.2 fun h => hnot (by
      obtain ⟨h1, h2, h3⟩ := (overrunDue_iff s).1 h
      exact ⟨h1, hforced.2 h2, h3⟩)
    refine congrArg Host.Outcome.next (show planOverrun false s = s from ?_)
    simp [planOverrun, hdue]
  · have hdue : s.overrunDue = true := (overrunDue_iff s).2 ⟨ht, hforced.1 hf, hfull⟩
    refine congrArg Host.Outcome.next (show planOverrun false s = _ from ?_)
    simp only [planOverrun, hh, hdue, Bool.false_eq_true, if_false, Bool.true_or, if_true]
    rfl

end Sys2Proof.Machine
end

section
/-!
The owned spans (R19) and the coverage of the net width (R20): the order of the lanes, what each owns, and when a gap remains.
-/

namespace Sys2Proof.Machine

/-! ### The configured lanes in order (R19) -/

/-- One lane stands before another: by origin, then by lane number. -/
def State.before (s : State) (i j : LaneId) : Prop :=
  s.lanes[i.val].geometry.x0 < s.lanes[j.val].geometry.x0 ∨
    (s.lanes[i.val].geometry.x0 = s.lanes[j.val].geometry.x0 ∧ i.val < j.val)

theorem insertByKey_before {s : State} {x : LaneId} {acc : List LaneId} (h : acc.Pairwise s.before) (hx : ∀ y ∈ acc, y.val < x.val) :
    (insertByKey (fun i => (s.lane i).geometry.x0) x acc).Pairwise s.before := by
  have hle (i j : LaneId) (hb : s.before i j) : (s.lane i).geometry.x0 ≤ (s.lane j).geometry.x0 :=
    hb.elim Nat.le_of_lt fun h => Nat.le_of_eq h.1
  obtain ⟨pre, post, rfl, hinsert, hpre, hpost⟩ := insertByKey_split (fun i => (s.lane i).geometry.x0) x acc (h.imp (hle _ _))
  rw [hinsert]
  rw [List.pairwise_append] at h ⊢
  obtain ⟨h1, h2, h3⟩ := h
  refine ⟨h1, List.pairwise_cons.2 ⟨fun b hb => .inl (hpost b hb), h2⟩, fun a ha b hb => ?_⟩
  rcases List.mem_cons.1 hb with rfl | hb
  · rcases Nat.lt_or_eq_of_le (hpre a ha) with hlt | heq
    · exact .inl hlt
    · exact .inr ⟨heq, hx a (List.mem_append_left _ ha)⟩
  · exact h3 a ha b hb

theorem sortLanes_before (s : State) (xs acc : List LaneId) (hxs : xs.Pairwise (fun i j => i.val < j.val)) (hacc : acc.Pairwise s.before)
    (hlt : ∀ a ∈ acc, ∀ x ∈ xs, a.val < x.val) :
    (xs.foldl (fun acc x => insertByKey (fun i => (s.lane i).geometry.x0) x acc) acc).Pairwise s.before := by
  induction xs generalizing acc with
  | nil => exact hacc
  | cons x xs ih =>
    rw [List.pairwise_cons] at hxs
    rw [List.foldl_cons]
    refine ih _ hxs.2 (insertByKey_before hacc fun y hy => hlt y hy x (by simp)) fun a ha y hy => ?_
    rcases (mem_insertByKey ..).1 ha with rfl | ha
    · exact hxs.1 y hy
    · exact hlt a ha y (List.mem_cons_of_mem _ hy)

/-- R19: the configured lanes stand in order of origin, then of lane number. -/
theorem laneOrder_before (s : State) : s.laneOrder.Pairwise s.before := by
  have hascending : allLanes.Pairwise fun i j => i.val < j.val := by decide
  exact sortLanes_before s _ [] (hascending.filter _) .nil (by simp)

theorem mem_laneOrder (s : State) (i : LaneId) : i ∈ s.laneOrder ↔ s.lanes[i.val].configured = true := by
  rw [State.laneOrder, (sortByKey_perm ..).mem_iff, List.mem_filter]
  exact and_iff_right (mem_allLanes i)

theorem laneOrder_nodup (s : State) : s.laneOrder.Nodup := by
  have hnodup : allLanes.Nodup := by decide
  exact (sortByKey_perm ..).nodup_iff.2 (hnodup.filter _)

/-! ### Spans that cannot be fixed (R19) -/

theorem mem_twoAlong {α : Type} {xs : List α} {a b : α} : (a, b) ∈ xs.zip (xs.drop 2) ↔ ∃ pre k post, xs = pre ++ a :: k :: b :: post := by
  constructor
  · induction xs with
    | nil => simp
    | cons x xs ih =>
      intro h
      match xs, ih, h with
      | [], _, h => simp at h
      | [y], _, h => simp at h
      | y :: z :: zs, ih, h =>
        rcases List.mem_cons.1 (show (a, b) ∈ (x, z) :: (y :: z :: zs).zip ((y :: z :: zs).drop 2) from h) with h | h
        · obtain ⟨rfl, rfl⟩ := Prod.mk.inj h
          exact ⟨[], y, zs, rfl⟩
        · obtain ⟨pre, k, post, hsplit⟩ := ih h
          exact ⟨x :: pre, k, post, congrArg (x :: ·) hsplit⟩
  · rintro ⟨pre, k, post, rfl⟩
    induction pre with
    | nil => exact List.mem_cons_self ..
    | cons x pre ih =>
      match pre with
      | [] => exact List.mem_cons_of_mem _ ih
      | [y] => exact List.mem_cons_of_mem _ ih
      | y :: z :: pre => exact List.mem_cons_of_mem _ ih

theorem spansBad_iff (spans : List Span) : spansBad spans = true ↔
    (∃ pre a b post, spans = pre ++ a :: b :: post ∧ (a.start = b.start ∨ b.stop ≤ a.stop)) ∨
      ∃ pre a k b post, spans = pre ++ a :: k :: b :: post ∧ b.start < a.stop := by
  simp only [spansBad, Bool.or_eq_true, List.any_eq_true, Prod.exists, mem_adjacent, mem_twoAlong, nested, decide_eq_true_iff]
  constructor
  · rintro (⟨a, b, ⟨pre, post, h⟩, hbad⟩ | ⟨a, b, ⟨pre, k, post, h⟩, hbad⟩)
    · exact .inl ⟨pre, a, b, post, h, hbad⟩
    · exact .inr ⟨pre, a, k, b, post, h, hbad⟩
  · rintro (⟨pre, a, b, post, h, hbad⟩ | ⟨pre, a, k, b, post, h, hbad⟩)
    · exact .inl ⟨a, b, ⟨pre, post, h⟩, hbad⟩
    · exact .inr ⟨a, b, ⟨pre, k, post, h⟩, hbad⟩

theorem spansRefused_iff (s : State) : s.spansRefused = true ↔
    (∃ pre i j post, s.laneOrder = pre ++ i :: j :: post ∧
      ((s.laneSpan i).start = (s.laneSpan j).start ∨ (s.laneSpan j).stop ≤ (s.laneSpan i).stop)) ∨
    ∃ pre i k j post, s.laneOrder = pre ++ i :: k :: j :: post ∧ (s.laneSpan j).start < (s.laneSpan i).stop := by
  rw [State.spansRefused, spansBad_iff]
  refine or_congr ⟨?_, ?_⟩ ⟨?_, ?_⟩
  · rintro ⟨pre, a, b, post, h, hbad⟩
    obtain ⟨pre', rest, hsplit, rfl, hrest⟩ := List.map_eq_append_iff.1 h
    obtain ⟨i, rest, rfl, rfl, hlast⟩ := List.map_eq_cons_iff.1 hrest
    obtain ⟨j, post', rfl, rfl, rfl⟩ := List.map_eq_cons_iff.1 hlast
    exact ⟨pre', i, j, post', hsplit, hbad⟩
  · rintro ⟨pre, i, j, post, h, hbad⟩
    exact ⟨pre.map s.laneSpan, _, _, post.map s.laneSpan, by rw [h, List.map_append, List.map_cons, List.map_cons], hbad⟩
  · rintro ⟨pre, a, k, b, post, h, hbad⟩
    obtain ⟨pre', rest, hsplit, rfl, hrest⟩ := List.map_eq_append_iff.1 h
    obtain ⟨i, rest, rfl, rfl, hmap⟩ := List.map_eq_cons_iff.1 hrest
    obtain ⟨k', rest, rfl, rfl, hlast⟩ := List.map_eq_cons_iff.1 hmap
    obtain ⟨j, post', rfl, rfl, rfl⟩ := List.map_eq_cons_iff.1 hlast
    exact ⟨pre', i, k', j, post', hsplit, hbad⟩
  · rintro ⟨pre, i, k, j, post, h, hbad⟩
    exact ⟨pre.map s.laneSpan, _, s.laneSpan k, _, post.map s.laneSpan,
      by rw [h, List.map_append, List.map_cons, List.map_cons, List.map_cons], hbad⟩

/-! ### The owned span of a lane (R19) -/

/-- R19: a span cut at the midpoints of its overlaps with the spans on its two sides. -/
def cutSpan (left right : Option Span) (x : Span) : Span :=
  ⟨(left.bind fun p => midpoint p x).getD x.start, (right.bind fun q => midpoint x q).getD x.stop⟩

theorem ownFrom_split {f : LaneId → Span} {prev : Option Span} {xs : List LaneId} {pre post : List (LaneId × Span)} {i : LaneId} {o : Span}
    (h : xs.zip (ownFrom prev (xs.map f)) = pre ++ (i, o) :: post) :
    o = cutSpan ((pre.getLast?.map fun p => f p.1).or prev) (post.head?.map fun p => f p.1) (f i) := by
  induction xs generalizing prev pre with
  | nil => simp at h
  | cons x xs ih =>
    have hhead : (xs.map f).head? = (xs.zip (ownFrom (some (f x)) (xs.map f))).head?.map fun p => f p.1 := by
      cases xs <;> rfl
    have hcons : (x, cutSpan prev (xs.map f).head? (f x)) :: xs.zip (ownFrom (some (f x)) (xs.map f)) = pre ++ (i, o) :: post := h
    cases pre with
    | nil =>
      obtain ⟨hfirst, hrest⟩ := List.cons_eq_cons.1 hcons
      obtain ⟨rfl, rfl⟩ := Prod.mk.inj hfirst
      rw [hhead, hrest]
      rfl
    | cons p pre =>
      obtain ⟨rfl, hrest⟩ := List.cons_eq_cons.1 hcons
      rw [ih hrest]
      refine congrArg (fun left => cutSpan left _ _) ?_
      cases hlast : pre.getLast? with
      | none =>
        rw [List.getLast?_eq_none_iff.1 hlast]
        rfl
      | some q => simp [List.getLast?_cons, hlast]

theorem midpoint_getD (left right : Span) (d : Nat) :
    (midpoint left right).getD d = if right.start < left.stop then (right.start + left.stop) / 2 else d := by
  unfold midpoint
  split <;> rfl

theorem ownedSpans_split {s : State} {pre post : List (LaneId × Span)} {i : LaneId} {o : Span} (h : s.ownedSpans = pre ++ (i, o) :: post) :
    o = cutSpan (pre.getLast?.map fun p => s.laneSpan p.1) (post.head?.map fun p => s.laneSpan p.1) (s.laneSpan i) := by
  have ho := ownFrom_split (f := s.laneSpan) (prev := none) h
  rwa [Option.or_none] at ho

/-! ### The coverage (R20) -/

/-- Neighbours and spans two along are such that the owned spans can be fixed after a span `prev`. -/
structure Fixable (prev : Option Span) (xs : List Span) : Prop where
  ascending : xs.Pairwise fun p q => p.start ≤ q.start
  apart : ∀ pre a k b post, xs = pre ++ a :: k :: b :: post → a.stop ≤ b.start
  next : ∀ p, prev = some p → ∀ x y rest, xs = x :: y :: rest → p.stop ≤ y.start

theorem Fixable.tail {prev : Option Span} {x : Span} {xs : List Span} (h : Fixable prev (x :: xs)) : Fixable (some x) xs := by
  refine ⟨(List.pairwise_cons.1 h.ascending).2, fun pre a k b post hx => h.apart (x :: pre) a k b post (congrArg (x :: ·) hx),
    fun p hp y z rest hx => ?_⟩
  cases hp
  exact h.apart [] x y z rest (congrArg (x :: ·) hx)

theorem midpoint_bounds {left right : Span} {m : Nat} (h : midpoint left right = some m) : right.start ≤ m ∧ m ≤ left.stop := by
  unfold midpoint at h
  split at h
  · cases h
    omega
  · cases h

/-- An owned span starts at its lane's origin or beyond, and at the end of the span on its left or before. -/
theorem cutSpan_start (left right : Option Span) (x : Span) : x.start ≤ (cutSpan left right x).start ∧
    ∀ b, x.start ≤ b → (∀ p, left = some p → p.stop ≤ b) → (cutSpan left right x).start ≤ b := by
  unfold cutSpan
  cases left with
  | none => exact ⟨le_rfl, fun b hb _ => hb⟩
  | some p =>
    dsimp only [Option.bind]
    cases hm : midpoint p x with
    | none => exact ⟨le_rfl, fun b hb _ => hb⟩
    | some m =>
      obtain ⟨hlo, hhi⟩ := midpoint_bounds hm
      exact ⟨hlo, fun b _ hp => hhi.trans (hp p rfl)⟩

theorem ownFrom_ascending {prev : Option Span} {xs : List Span} (h : Fixable prev xs) :
    (ownFrom prev xs).IsChain fun p q => p.start ≤ q.start := by
  induction xs generalizing prev with
  | nil => exact .nil
  | cons x xs ih =>
    cases xs with
    | nil => exact .singleton _
    | cons y ys =>
      have hrest := ih h.tail
      refine List.IsChain.cons_cons ?_ hrest
      have hxy : x.start ≤ y.start := (List.pairwise_cons.1 h.ascending).1 y (by simp)
      have hy : y.start ≤ (cutSpan (some x) ys.head? y).start := (cutSpan_start ..).1
      exact ((cutSpan_start prev _ x).2 y.start hxy fun p hp => h.next p hp x y ys rfl).trans hy

theorem ownedSpans_ascending {s : State} (h : s.spansRefused = false) :
    (s.ownedSpans.map Prod.snd).Pairwise fun p q => p.start ≤ q.start := by
  have hsnd : s.ownedSpans.map Prod.snd = ownFrom none (s.laneOrder.map s.laneSpan) :=
    List.map_snd_zip (by rw [ownFrom_length, List.length_map])
  have hfix : Fixable none (s.laneOrder.map s.laneSpan) := by
    refine ⟨List.pairwise_map.2 ((laneOrder_before s).imp fun hb => hb.elim Nat.le_of_lt fun hb => Nat.le_of_eq hb.1),
      fun pre a k b post hx => ?_, fun p hp => by cases hp⟩
    by_contra hlt
    exact Bool.false_ne_true (h.symm.trans ((spansBad_iff _).2 (.inr ⟨pre, a, k, b, post, hx, Nat.lt_of_not_le hlt⟩)))
  rw [hsnd]
  have htrans : IsTrans Span fun p q => p.start ≤ q.start := ⟨fun _ _ _ => le_trans⟩
  exact List.isChain_iff_pairwise.1 (ownFrom_ascending hfix)

theorem coverFrom_le (x : Nat) (spans : List Span) : x ≤ coverFrom x spans := by
  induction spans generalizing x with
  | nil => exact le_rfl
  | cons p spans ih =>
    change x ≤ coverFrom (if p.start ≤ x then max x p.stop else x) spans
    split
    · exact (Nat.le_max_left ..).trans (ih _)
    · exact ih _

theorem coverFrom_beyond {x : Nat} {spans : List Span} (h : ∀ p ∈ spans, x < p.start) : coverFrom x spans = x := by
  induction spans with
  | nil => rfl
  | cons p spans ih =>
    change coverFrom (if p.start ≤ x then max x p.stop else x) spans = x
    rw [if_neg (Nat.not_le.2 (h p (by simp)))]
    exact ih fun q hq => h q (List.mem_cons_of_mem _ hq)

/-- Every position that the run has passed lies in a span. -/
theorem coverFrom_covers {x y : Nat} {spans : List Span} (hx : x ≤ y) (hy : y < coverFrom x spans) : ∃ p ∈ spans, p.start ≤ y ∧ y < p.stop := by
  induction spans generalizing x with
  | nil => exact absurd hy (Nat.not_lt.2 hx)
  | cons p spans ih =>
    change y < coverFrom (if p.start ≤ x then max x p.stop else x) spans at hy
    by_cases hp : p.start ≤ x
    · rw [if_pos hp] at hy
      by_cases hin : y < p.stop
      · exact ⟨p, by simp, hp.trans hx, hin⟩
      · obtain ⟨q, hq, hin⟩ := ih (max_le hx (Nat.not_lt.1 hin)) hy
        exact ⟨q, List.mem_cons_of_mem _ hq, hin⟩
    · rw [if_neg hp] at hy
      obtain ⟨q, hq, hin⟩ := ih hx hy
      exact ⟨q, List.mem_cons_of_mem _ hq, hin⟩

/-- The position where the run ends lies in no span, the spans standing in ascending order. -/
theorem coverFrom_uncovered {x : Nat} {spans : List Span} (h : spans.Pairwise fun p q => p.start ≤ q.start) :
    ∀ p ∈ spans, ¬ (p.start ≤ coverFrom x spans ∧ coverFrom x spans < p.stop) := by
  induction spans generalizing x with
  | nil => simp
  | cons p spans ih =>
    rw [List.pairwise_cons] at h
    intro q hq
    by_cases hp : p.start ≤ x
    · have hstep : coverFrom x (p :: spans) = coverFrom (max x p.stop) spans := congrArg (coverFrom · spans) (if_pos hp)
      rw [hstep]
      rcases List.mem_cons.1 hq with rfl | hq
      · exact fun hc => absurd (hc.2.trans_le (Nat.le_max_right x q.stop)) (Nat.not_lt.2 (coverFrom_le ..))
      · exact ih h.2 q hq
    · have hall : ∀ r ∈ p :: spans, x < r.start := by
        intro r hr
        rcases List.mem_cons.1 hr with rfl | hr
        · exact Nat.lt_of_not_le hp
        · exact (Nat.lt_of_not_le hp).trans_le (h.1 r hr)
      rw [coverFrom_beyond hall]
      exact fun hc => absurd hc.1 (Nat.not_le.2 (hall q hq))

/-- R20: the owned spans leave a gap exactly if some position of the net width lies in none. -/
theorem coverageGap_iff {s : State} (h : s.spansRefused = false) : s.coverageGap = true ↔
    ∃ x, s.pos.geometry.xL ≤ x ∧ x < s.pos.geometry.xR ∧ ∀ o ∈ s.ownedSpans, ¬ (o.2.start ≤ x ∧ x < o.2.stop) := by
  rw [State.coverageGap, decide_eq_true_iff]
  constructor
  · intro hlt
    refine ⟨_, coverFrom_le .., hlt, fun o ho => ?_⟩
    exact coverFrom_uncovered (ownedSpans_ascending h) o.2 (List.mem_map_of_mem ho)
  · rintro ⟨x, hL, hR, hnone⟩
    refine lt_of_le_of_lt (Nat.le_of_not_lt fun hlt => ?_) hR
    obtain ⟨p, hp, hin⟩ := coverFrom_covers hL hlt
    obtain ⟨o, ho, rfl⟩ := List.mem_map.1 hp
    exact hnone o ho hin

end Sys2Proof.Machine
end

section
/-!
START INSPECT (O9): the sweeps over the lanes at the start, the trigger for line 0, and BREAK present.
-/

namespace Sys2Proof.Machine

/-! ### The owned spans are fixed (R19) -/

theorem ownedSpans_congr {s t : State} (h : t.lanes = s.lanes) : t.ownedSpans = s.ownedSpans := by
  unfold State.ownedSpans State.laneOrder State.laneSpan State.lane
  rw [h]

/-- Lanes that take the owned spans of a list. -/
theorem fixSpans_lanes (spans : List (LaneId × Span)) (s : State) (h : (spans.map Prod.fst).Nodup) :
    ∃ v, spans.foldl (fun s p => s.modLane p.1 fun l => { l with owned := some p.2 }) s = { s with lanes := v } ∧
      (∀ i : LaneId, ∃ w, v[i.val] = { s.lanes[i.val] with owned := w }) ∧ ∀ p ∈ spans, v[p.1.val].owned = some p.2 := by
  induction spans generalizing s with
  | nil => exact ⟨s.lanes, rfl, fun i => ⟨s.lanes[i.val].owned, rfl⟩, by simp⟩
  | cons p spans ih =>
    obtain ⟨hnot, hnodup⟩ := List.nodup_cons.1 h
    have hsame := (lane_modLane_same p.1 (fun l => { l with owned := some p.2 }) s :)
    have hother := fun j => (lane_modLane_other p.1 j (fun l => { l with owned := some p.2 }) s :)
    obtain ⟨v, hv, hlanes, howned⟩ := ih (s.modLane p.1 fun l => { l with owned := some p.2 }) hnodup
    refine ⟨v, hv, fun i => ?_, fun q hq => ?_⟩
    · obtain ⟨w, hw⟩ := hlanes i
      by_cases hi : i = p.1
      · subst hi
        exact ⟨w, hw.trans (congrArg (fun l : Lane => { l with owned := w }) hsame :)⟩
      · exact ⟨w, hw.trans (congrArg (fun l : Lane => { l with owned := w }) (hother i hi) :)⟩
    · rcases List.mem_cons.1 hq with rfl | hq
      · have hkept : ∀ (spans : List (LaneId × Span)) (s : State), q.1 ∉ spans.map Prod.fst →
            (spans.foldl (fun s p => s.modLane p.1 fun l => { l with owned := some p.2 }) s).lane q.1 = s.lane q.1 := by
          intro spans
          induction spans with
          | nil => exact fun _ _ => rfl
          | cons p spans ih =>
            intro s hp
            rw [List.map_cons, List.mem_cons, not_or] at hp
            exact (ih _ hp.2).trans (lane_modLane_other p.1 q.1 (fun l => { l with owned := some p.2 }) s hp.1)
        have hlane := hkept spans (s.modLane q.1 fun l => { l with owned := some q.2 }) hnot
        rw [hv] at hlane
        exact (congrArg Lane.owned hlane :).trans (congrArg Lane.owned hsame :)
      · exact howned q hq

/-! ### The named lanes start (R20) -/

/-- A named lane at the start: SETTLING from line 0, with what its stay holds cleared. -/
def Lane.started (l : Lane) : Lane := { l.fresh 0 with acceptance := 0, state := .settling }

theorem startNamed_started {set : BitVec 8} {i : LaneId} (h : set.getLsbD i.val = true) (s : State) :
    ∃ e, startNamed set i s = { s.modLane i Lane.started with port := { s.port with events := e } } ∧
      ∀ f, s.latched f = true → (startNamed set i s).latched f = true := by
  have hlane := (lane_modLane_same i (fun l => { l.fresh 0 with acceptance := 0 }) s :)
  unfold startNamed setLaneState
  rw [if_pos h]
  split
  · rename_i hst
    refine ⟨s.port.events, ?_, fun f hf => hf⟩
    have hval : Lane.started s.lanes[i.val] = { s.lanes[i.val].fresh 0 with acceptance := 0 } := by
      rw [hlane] at hst
      exact congrArg (fun st : LaneState => { s.lanes[i.val].fresh 0 with acceptance := 0, state := st }) hst.symm
    change s.modLane i (fun l => { l.fresh 0 with acceptance := 0 }) = s.modLane i Lane.started
    exact congrArg (fun l => { s with lanes := s.lanes.set i.val l }) hval.symm
  · refine ⟨s.port.events ||| Event.laneChanged.single, ?_, fun f hf => ?_⟩
    swap
    · rw [latched_raise]
      exact Bool.or_eq_true_iff.2 (.inl hf)
    simp only [raise, State.modPort, State.modLane, State.modLanes, Lane.started, Vector.getElem_set_self, Vector.set_set]

/-- What the sweep of the named lanes has left once it has passed some lanes. -/
structure NamedStarted (set : BitVec 8) (s : State) (done : List LaneId) (t : State) : Prop where
  frame : ∃ v e, t = { s with lanes := v, port := { s.port with events := e } }
  started : ∀ i ∈ done, set.getLsbD i.val = true → t.lanes[i.val] = s.lanes[i.val].started
  same : ∀ i : LaneId, ¬ (i ∈ done ∧ set.getLsbD i.val = true) → t.lanes[i.val] = s.lanes[i.val]
  latched : ∀ f, s.latched f = true → t.latched f = true

theorem NamedStarted.next {set : BitVec 8} {s t : State} {done : List LaneId} (h : NamedStarted set s done t) {i : LaneId} (hi : i ∉ done) :
    NamedStarted set s (done ++ [i]) (startNamed set i t) := by
  obtain ⟨⟨v, e, rfl⟩, hstarted, hsame, hlatched⟩ := h
  cases hset : set.getLsbD i.val with
  | false =>
    have hstay : startNamed set i { s with lanes := v, port := { s.port with events := e } } =
        { s with lanes := v, port := { s.port with events := e } } := if_neg (Bool.eq_false_iff.1 hset)
    rw [hstay]
    refine ⟨⟨v, e, rfl⟩, fun j hj hjset => ?_, fun j hj => ?_, hlatched⟩
    · rcases List.mem_append.1 hj with hj | hj
      · exact hstarted j hj hjset
      · rw [List.mem_singleton.1 hj, hset] at hjset
        cases hjset
    · exact hsame j fun hc => hj ⟨List.mem_append_left _ hc.1, hc.2⟩
  | true =>
    obtain ⟨e', heq, hlatched'⟩ := startNamed_started hset { s with lanes := v, port := { s.port with events := e } }
    have hlane := (lane_modLane_same i Lane.started { s with lanes := v, port := { s.port with events := e } } :)
    have hother := fun j => (lane_modLane_other i j Lane.started { s with lanes := v, port := { s.port with events := e } } :)
    have hbefore : v[i.val] = s.lanes[i.val] := hsame i fun hc => hi hc.1
    refine ⟨⟨_, e', heq⟩, fun j hj hjset => ?_, fun j hj => ?_, fun f hf => hlatched' f (hlatched f hf)⟩
    · rw [heq]
      by_cases hji : j = i
      · subst hji
        exact hlane.trans (congrArg Lane.started hbefore)
      · refine (hother j hji).trans (hstarted j ?_ hjset)
        exact (List.mem_append.1 hj).resolve_right fun hc => hji (List.mem_singleton.1 hc)
    · rw [heq]
      have hji : j ≠ i := by
        rintro rfl
        exact hj ⟨by simp, hset⟩
      exact (hother j hji).trans (hsame j fun hc => hj ⟨List.mem_append_left _ hc.1, hc.2⟩)

/-- A sweep over the lanes, turn by turn. -/
theorem forLanes_invariant {f : LaneId → State → State} {P : List LaneId → State → Prop} {s : State} (hzero : P [] s)
    (hnext : ∀ done t i, P done t → i ∉ done → done.length < 8 → P (done ++ [i]) (f i t)) : P allLanes (forLanes f s) := by
  have hsweep : ∀ (todo done : List LaneId) (t : State), P done t → (done ++ todo).Nodup → (done ++ todo).length ≤ 8 →
      P (done ++ todo) (todo.foldl (fun s i => f i s) t) := by
    intro todo
    induction todo with
    | nil => exact fun done t h _ _ => by rwa [List.append_nil]
    | cons i todo ih =>
      intro done t h hnodup hlen
      have hi : i ∉ done := fun hc => (List.nodup_append.1 hnodup).2.2 i hc i (by simp) rfl
      have hshort : done.length < 8 := by
        rw [List.length_append, List.length_cons] at hlen
        omega
      have := ih (done ++ [i]) (f i t) (hnext done t i h hi hshort) (by rwa [List.append_assoc]) (by rwa [List.append_assoc])
      rwa [List.append_assoc] at this
  exact hsweep allLanes [] s hzero (by decide) (by decide)

theorem startNamed_sweep (set : BitVec 8) (s : State) : NamedStarted set s allLanes (forLanes (startNamed set) s) :=
  forLanes_invariant (P := NamedStarted set s)
    ⟨⟨s.lanes, s.port.events, rfl⟩, by simp, fun _ _ => rfl, fun _ h => h⟩ fun _ _ _ h hi _ => h.next hi

/-! ### The intervals open (R42) -/

/-- An interval of a lane as it opens at label 0 over a span, with the reason of the lane's state. -/
def OpensFor (i : LaneId) (st : LaneState) (x : Span) (b : Interval) : Prop :=
  b.lane = some i ∧ b.yStart = 0 ∧ b.yEnd = none ∧ b.xStart = x.start ∧ b.xEnd = x.stop ∧ b.reason = st.reason

/-- What the sweep of the intervals has left once it has passed some lanes. -/
structure IntervalsOpened (s : State) (done : List LaneId) (t : State) : Prop where
  frame : ∃ v blind next e, t = { s with
    lanes := v, map := { s.map with blind := blind, nextId := next }, port := { s.port with events := e } }
  lanes : ∀ i : LaneId, ∃ w, t.lanes[i.val] = { s.lanes[i.val] with interval := w }
  count : t.map.blind.length ≤ done.length
  owned : ∀ b ∈ t.map.blind, b.lane ≠ none
  opened : ∀ i ∈ done, ∀ x, s.lanes[i.val].configured = true → s.netSpan i = some x →
    ∃ b ∈ t.map.blind, OpensFor i s.lanes[i.val].state x b ∧ t.lanes[i.val].interval = some b.id
  latched : ∀ f, s.latched f = true → t.latched f = true

theorem netSpan_congr {s t : State} {i : LaneId} (hpos : t.pos = s.pos) (howned : t.lanes[i.val].owned = s.lanes[i.val].owned) :
    t.netSpan i = s.netSpan i := by
  unfold State.netSpan State.lane State.geo
  rw [hpos, howned]

theorem IntervalsOpened.same {s t : State} {done : List LaneId} (h : IntervalsOpened s done t) {i : LaneId}
    (hnone : ¬ (s.lanes[i.val].configured = true ∧ s.netSpan i ≠ none)) : IntervalsOpened s (done ++ [i]) t := by
  obtain ⟨hframe, hlanes, hcount, howned, hopened, hlatched⟩ := h
  refine ⟨hframe, hlanes, by rw [List.length_append]; omega, howned, fun j hj x hconf hx => ?_, hlatched⟩
  refine hopened j ((List.mem_append.1 hj).resolve_right fun hc => ?_) x hconf hx
  rw [List.mem_singleton.1 hc] at hconf hx
  exact hnone ⟨hconf, by rw [hx]; simp⟩

theorem IntervalsOpened.next {s t : State} {done : List LaneId} (h : IntervalsOpened s done t) {i : LaneId} (hi : i ∉ done)
    (hshort : done.length < 8) : IntervalsOpened s (done ++ [i]) (openAtStart i t) := by
  obtain ⟨w, hw⟩ := h.lanes i
  have hpos : t.pos = s.pos := by
    obtain ⟨v, blind, next, e, rfl⟩ := h.frame
    rfl
  have hconf : (t.lane i).configured = s.lanes[i.val].configured := (congrArg Lane.configured hw :)
  have hspan : t.netSpan i = s.netSpan i := netSpan_congr hpos (congrArg Lane.owned hw :)
  have hstate : (t.lane i).state = s.lanes[i.val].state := (congrArg Lane.state hw :)
  by_cases hc : s.lanes[i.val].configured = true
  · have hopen : openAtStart i t = openLaneInterval i 0 t := if_pos (hconf.trans hc)
    cases hx : s.netSpan i with
    | none =>
      rw [hopen, openLaneInterval_none (hspan.trans hx)]
      exact h.same fun hn => hn.2 hx
    | some x =>
      have hroom : t.map.blind.length < 64 := by have := h.count; omega
      have hsame := (lane_modLane_same i (fun l => { l with interval := some t.map.nextId }) t :)
      have hother := fun j => (lane_modLane_other i j (fun l => { l with interval := some t.map.nextId }) t :)
      rw [hopen, openLaneInterval_room (hspan.trans hx) hroom, hstate]
      obtain ⟨⟨v, blind, next, e, rfl⟩, hlanes, hcount, howned, hopened, hlatched⟩ := h
      refine ⟨⟨_, _, _, _, rfl⟩, fun j => ?_, ?_, fun b hb => ?_, fun j hj y hjconf hy => ?_, fun f hf => ?_⟩
      · by_cases hji : j = i
        · subst hji
          exact ⟨some next, hsame.trans (by rw [show State.lane _ j = _ from hw])⟩
        · obtain ⟨w', hw'⟩ := hlanes j
          exact ⟨w', (hother j hji).trans hw'⟩
      · rw [List.length_append, List.length_singleton]
        exact (insertByKey_length ..).trans_le (Nat.succ_le_succ hcount)
      · rcases (mem_insertByKey ..).1 hb with rfl | hb
        · simp
        · exact howned b hb
      · by_cases hji : j = i
        · subst hji
          rw [hx] at hy
          cases hy
          exact ⟨_, (mem_insertByKey ..).2 (.inl rfl), ⟨rfl, rfl, rfl, rfl, rfl, rfl⟩, (congrArg Lane.interval hsame :)⟩
        · obtain ⟨b, hb, hfor, hid⟩ := hopened j ((List.mem_append.1 hj).resolve_right fun hc => hji (List.mem_singleton.1 hc)) y hjconf hy
          exact ⟨b, (mem_insertByKey ..).2 (.inr hb), hfor, (congrArg Lane.interval (hother j hji) :).trans hid⟩
      · change (raise .blindOpened _).latched f = true
        rw [latched_raise]
        exact Bool.or_eq_true_iff.2 (.inl (hlatched f hf))
  · have hstay : openAtStart i t = t := if_neg (by rw [hconf]; exact hc)
    rw [hstay]
    exact h.same fun hn => hc hn.1

theorem openAtStart_sweep {s : State} (h : s.map.blind = []) : IntervalsOpened s allLanes (forLanes openAtStart s) := by
  refine forLanes_invariant (P := IntervalsOpened s) ⟨⟨s.lanes, s.map.blind, s.map.nextId, s.port.events, rfl⟩,
    fun i => ⟨s.lanes[i.val].interval, rfl⟩, by simp [h], by simp [h], by simp, fun _ h => h⟩ fun _ _ _ h hi hshort => h.next hi hshort

/-! ### BREAK present with action MARK (R13) -/

/-- What the break marking at the start leaves. -/
structure MarkedAtStart (s t : State) : Prop where
  frame : ∃ m blind next e, t = { s with
    pos := { s.pos with breakMarking := m }, map := { s.map with blind := blind, nextId := next }, port := { s.port with events := e } }
  kept : ∀ b ∈ s.map.blind, b ∈ t.map.blind
  marked : s.pos.breakLevel = true → s.pos.geometry.breakAction = .mark → t.pos.breakMarking = true ∧
    ∃ b ∈ t.map.blind, b.lane = none ∧ b.reason = .breakReason ∧ b.yStart = 0 ∧ b.yEnd = none
  latched : ∀ f, s.latched f = true → t.latched f = true

theorem markAtStart_marked {s : State} (hlanes : ∀ b ∈ s.map.blind, b.lane ≠ none) (hroom : s.map.blind.length < 64) :
    MarkedAtStart s (markAtStart s) := by
  by_cases h : s.pos.breakLevel = true ∧ s.pos.geometry.breakAction = .mark
  · have hmark : markAtStart s = openMarking 0 s := if_pos h
    have hnone : (raise .breakEvent (s.modPos fun p => { p with breakMarking := true })).openAll = none :=
      openAll_none (s := raise .breakEvent (s.modPos fun p => { p with breakMarking := true })) fun b hb hlane => absurd hlane (hlanes b hb)
    have hopen : openMarking 0 s = openInterval .breakReason none s.pos.geometry.xL s.pos.geometry.xR 0
        (raise .breakEvent (s.modPos fun p => { p with breakMarking := true })) := by
      unfold openMarking
      dsimp only
      rw [hnone]
      rfl
    have heq := hmark.trans (hopen.trans (openInterval_room _ _ _ _ _ (raise .breakEvent (s.modPos fun p => { p with breakMarking := true })) hroom))
    rw [heq]
    refine ⟨⟨true, _, _, _, rfl⟩, fun b hb => (mem_insertByKey ..).2 (.inr hb),
      fun _ _ => ⟨rfl, _, (mem_insertByKey ..).2 (.inl rfl), rfl, rfl, rfl, rfl⟩, fun f hf => ?_⟩
    change (raise .blindOpened (raise .breakEvent s)).latched f = true
    simp [hf]
  · have hmark : markAtStart s = s := if_neg h
    rw [hmark]
    exact ⟨⟨s.pos.breakMarking, s.map.blind, s.map.nextId, s.port.events, rfl⟩, fun _ hb => hb, fun h1 h2 => absurd ⟨h1, h2⟩ h, fun _ hf => hf⟩

/-! ### The trigger for line 0 (R9, R58) -/

theorem noteMapFullEnd_tracker (n : Nat) (s : State) : (noteMapFullEnd n s).tracker = s.tracker := by
  unfold noteMapFullEnd
  split <;> rfl

/-- R58: with no lane in ACTIVE or CROWDED and no open flaw, the trigger for line 0 makes K the pitch. -/
theorem triggerZero_frontier {s : State} (hm : s.port.mode = .inspect) (hk : s.tracker.frontier = 0)
    (hidle : ∀ i : LaneId, s.lanes[i.val].state = .off ∨ s.lanes[i.val].state = .settling)
    (htables : ∀ i : LaneId, s.tracker.tables[i.val] = ⟨[], []⟩) : (trigger 0 s).tracker.frontier = s.pos.geometry.pitch := by
  have hnever (i : LaneId) : ¬ ((issueTrigger 0 s).lanes[i.val].state = .active ∨ (issueTrigger 0 s).lanes[i.val].state = .crowded) := by
    rintro (h | h) <;> rcases hidle i with h' | h' <;> exact absurd (h.symm.trans h') (by simp)
  have hfollow : (issueTrigger 0 s).anyLane LaneState.following = false := by
    rw [State.anyLane, List.any_eq_false]
    intro i _ hf
    exact hnever i ((following_iff _).1 hf)
  have hterms : (issueTrigger 0 s).frontierTerms = [] := by
    refine List.eq_nil_iff_forall_not_mem.2 fun v hv => ?_
    rcases (mem_frontierTerms (fun i hi => absurd hi (hnever i)) v).1 hv with ⟨i, -, hi, -⟩ | ⟨i, f, hf, -⟩
    · exact hnever i hi
    · have hf' : f ∈ s.tracker.tables[i.val].flaws := hf
      rw [htables i] at hf'
      cases hf'
  have hcomputed : (issueTrigger 0 s).computedFrontier = s.pos.geometry.pitch := by
    rw [State.computedFrontier, hterms]
    exact (congrArg (· * s.pos.geometry.pitch) (Nat.zero_add 1)).trans (Nat.one_mul _)
  have hfrontier : (triggerFrontier (issueTrigger 0 s)).tracker.frontier = s.pos.geometry.pitch := by
    have hmode : (issueTrigger 0 s).port.mode.scanning = true := (congrArg Mode.scanning hm :)
    rw [triggerFrontier, hfollow, if_neg (by simp), recomputeK_frontier hmode, hcomputed]
    change max s.tracker.frontier _ = _
    rw [hk, Nat.zero_max]
  rw [trigger_eq]
  split
  · exact hfrontier
  · rw [noteMapFullEnd_tracker, hfrontier]

theorem triggerZero_word {s : State} (h : s.tracker.apply = .none) :
    (issueTrigger 0 s).out.triggers = s.out.triggers ++ [⟨0, 0⟩] := by
  have hslot : ((s.setFor 0).map fun d => d.slotNumber 0).getD 0 = 0 := by
    rw [setFor_noSwitch h]
    cases s.tracker.active with
    | none => rfl
    | some d => exact Nat.zero_mod _
  change s.out.triggers ++ [⟨0 % 65536, ((s.setFor 0).map fun d => d.slotNumber 0).getD 0⟩] = _
  rw [hslot]

theorem triggerZero_map {s : State} (h : s.map.full = none) : (trigger 0 s).map = s.map := by
  have hnote : noteMapFullEnd 0 s = s := by
    rw [noteMapFullEnd_eq, if_neg]
    simp [h]
  rw [trigger_map, hnote, ite_self]

/-! ### BREAK present with action HALT (R13) -/

/-- Open intervals stand, but for their reference counts. -/
def OpenKept (m m' : MapUnit) : Prop := ∀ b ∈ m.blind, b.yEnd = none → ∃ n, { b with refs := n } ∈ m'.blind

theorem OpenKept.trans {m m' m'' : MapUnit} (h : OpenKept m m') (g : OpenKept m' m'') : OpenKept m m'' := by
  intro b hb hopen
  obtain ⟨n, hn⟩ := h b hb hopen
  exact g { b with refs := n } hn hopen

theorem voidRecord_openKept (r : PlateRecord) {s : State} (h : s.port.mode ≠ .idle) : OpenKept s.map (voidRecord r s).map := by
  obtain ⟨f, hf⟩ := releaseReferences_eq r.flawRefs r.blindRefs
    (s := s.modPlanner fun p => { p with table := p.table.filter fun q => q.id != r.id }) h
  rw [voidRecord, stopCounting_eq, hf]
  intro b hb hopen
  by_cases hid : b.id ∈ r.blindRefs
  · refine ⟨b.refs - 1, List.mem_filter.2 ⟨List.mem_map.2 ⟨b, hb, if_pos hid⟩, ?_⟩⟩
    simp [hopen]
  · refine ⟨b.refs, List.mem_filter.2 ⟨List.mem_map.2 ⟨b, hb, if_neg hid⟩, ?_⟩⟩
    simp [hopen]

theorem voidRecords_openKept (rs : List PlateRecord) (s : State) (h : s.port.mode ≠ .idle) :
    OpenKept s.map (rs.foldl (fun s r => voidRecord r s) s).map := by
  induction rs generalizing s with
  | nil => exact fun b hb _ => ⟨b.refs, hb⟩
  | cons r rs ih => exact (voidRecord_openKept r h).trans (ih _ (by rw [(voidRecord_map r h).2]; exact h))

theorem captureHalt_openKept (k : FaultKind) (it : ReportItems) (s : State) : OpenKept s.map (captureHalt k it s).map := by
  obtain ⟨r, v, d, o, hclose, -⟩ := makePendingClose_frame (sendCutterHalt (voidAll (setMode .halted
    ((fillSlot (.haltHeld (s.record k it s.fault.slot.number)) s).modFault fun f => { f with before := some ⟨s.mode,
      (fillSlot (.haltHeld (s.record k it s.fault.slot.number)) s).overrunDue, false⟩ }))))
  have hhalt : captureHalt k it s = _ := hclose
  rw [hhalt]
  exact voidRecords_openKept s.planner.table (setMode .halted
    ((fillSlot (.haltHeld (s.record k it s.fault.slot.number)) s).modFault fun f => { f with before := some ⟨s.mode,
      (fillSlot (.haltHeld (s.record k it s.fault.slot.number)) s).overrunDue, false⟩ })) (fun h => by cases h)

end Sys2Proof.Machine
end

section
/-!
START INSPECT (O9): the state of the line after the sweeps and the trigger for line 0, and after a halt by BREAK.
-/

namespace Sys2Proof.Machine

/-! ### After the sweeps -/

/-- The state at the start once every lane has taken it and the intervals are open. -/
def lanesStarted (set : BitVec 8) (s : State) : State := forLanes openAtStart (forLanes (startNamed set) (fixOwnedSpans (restarted s)))

theorem startInspect_eq (set : BitVec 8) (s : State) : startInspect set s = haltAtStart (trigger 0 (markAtStart (lanesStarted set s))) := rfl

/-- What the sweeps over the lanes leave. -/
structure LanesAtStart (set : BitVec 8) (s t : State) : Prop where
  frame : ∃ v blind next e, t = { restarted s with
    lanes := v, map := { s.map with blind := blind, nextId := next }, port := { (restarted s).port with events := e } }
  raised : t.latched .modeChanged = true
  owned : ∀ o ∈ s.ownedSpans, t.lanes[o.1.val].owned = some o.2
  named : ∀ i : LaneId, set.getLsbD i.val = true → t.lanes[i.val].state = .settling ∧ t.lanes[i.val].expected = 0 ∧
    t.lanes[i.val].acceptance = 0 ∧ t.lanes[i.val].rings = ⟨[], [], []⟩ ∧ t.lanes[i.val].persistence = []
  unnamed : ∀ i : LaneId, set.getLsbD i.val = false → t.lanes[i.val].state = .off
  count : t.map.blind.length ≤ 8
  lanes : ∀ b ∈ t.map.blind, b.lane ≠ none
  intervals : ∀ i o, (i, o) ∈ s.ownedSpans → max o.start s.pos.geometry.xL < min o.stop s.pos.geometry.xR →
    ∃ b ∈ t.map.blind, OpensFor i (if set.getLsbD i.val then .settling else .off)
      ⟨max o.start s.pos.geometry.xL, min o.stop s.pos.geometry.xR⟩ b ∧ t.lanes[i.val].interval = some b.id

theorem owned_configured {s : State} {i : LaneId} {o : Span} (h : (i, o) ∈ s.ownedSpans) : s.lanes[i.val].configured = true := by
  rw [← mem_laneOrder, ← ownedSpans_lanes]
  exact List.mem_map_of_mem h

theorem lanesStarted_lanes {set : BitVec 8} {s : State} (hoff : ∀ i : LaneId, s.lanes[i.val].state = .off) (hblind : s.map.blind = []) :
    LanesAtStart set s (lanesStarted set s) := by
  have hspans : (restarted s).ownedSpans = s.ownedSpans := ownedSpans_congr rfl
  have hnodup : (s.ownedSpans.map Prod.fst).Nodup := by
    rw [ownedSpans_lanes]
    exact laneOrder_nodup s
  obtain ⟨v, hfixed, hlanes, howned⟩ := fixSpans_lanes s.ownedSpans (restarted s) hnodup
  have hfix : fixOwnedSpans (restarted s) = { restarted s with lanes := v } := by rw [fixOwnedSpans, hspans, hfixed]
  have hsweep := startNamed_sweep set { restarted s with lanes := v }
  unfold lanesStarted
  rw [hfix]
  generalize forLanes (startNamed set) { restarted s with lanes := v } = u at hsweep
  obtain ⟨⟨v', e, hu⟩, hstarted, hsame, hraised⟩ := hsweep
  have hpos : u.pos = (restarted s).pos := by rw [hu]
  have hmap : u.map = s.map := by
    rw [hu]
    rfl
  have hopen := openAtStart_sweep (s := u) (by rw [hmap, hblind])
  generalize forLanes openAtStart u = t at hopen
  obtain ⟨⟨v'', blind, next, e', ht⟩, hinterval, hcount, hlane, hopened, hlatched⟩ := hopen
  have hkeptLane (i : LaneId) (h : set.getLsbD i.val = false) : ∃ w, u.lanes[i.val] = { s.lanes[i.val] with owned := w } := by
    obtain ⟨w, hw⟩ := hlanes i
    exact ⟨w, (hsame i fun hc => by rw [h] at hc; exact Bool.false_ne_true hc.2).trans hw⟩
  have hnamedLane (i : LaneId) (h : set.getLsbD i.val = true) : ∃ w, u.lanes[i.val] = Lane.started { s.lanes[i.val] with owned := w } := by
    obtain ⟨w, hw⟩ := hlanes i
    exact ⟨w, (hstarted i (mem_allLanes i) h).trans (congrArg Lane.started hw :)⟩
  have hstate (i : LaneId) : u.lanes[i.val].state = if set.getLsbD i.val then .settling else .off := by
    cases h : set.getLsbD i.val with
    | true =>
      obtain ⟨w, hw⟩ := hnamedLane i h
      rw [hw]
      rfl
    | false =>
      obtain ⟨w, hw⟩ := hkeptLane i h
      rw [hw]
      exact hoff i
  have hlaneOwned (p : LaneId × Span) (hp : p ∈ s.ownedSpans) : u.lanes[p.1.val].owned = some p.2 := by
    cases h : set.getLsbD p.1.val with
    | true => exact (congrArg Lane.owned (hstarted p.1 (mem_allLanes p.1) h) :).trans (howned p hp)
    | false => exact (congrArg Lane.owned (hsame p.1 fun hc => by rw [h] at hc; exact Bool.false_ne_true hc.2) :).trans (howned p hp)
  have hconfigured (i : LaneId) : u.lanes[i.val].configured = s.lanes[i.val].configured := by
    cases h : set.getLsbD i.val with
    | true =>
      obtain ⟨w, hw⟩ := hnamedLane i h
      rw [hw]
      rfl
    | false =>
      obtain ⟨w, hw⟩ := hkeptLane i h
      rw [hw]
  refine ⟨⟨v'', blind, next, e', ?_⟩, ?_, fun p hp => ?_, fun i h => ?_, fun i h => ?_, hcount, hlane, fun i o ho hmeets => ?_⟩
  · rw [ht, hu]
    rfl
  · refine hlatched _ (hraised _ ?_)
    change (setMode .inspect ((s.modFault fun f => { f with before := none }).modPos Position.restart)).latched .modeChanged = true
    simp
  · obtain ⟨w, hw⟩ := hinterval p.1
    rw [hw]
    exact hlaneOwned p hp
  · obtain ⟨w, hw⟩ := hinterval i
    obtain ⟨w', hw'⟩ := hnamedLane i h
    rw [hw, hw']
    exact ⟨rfl, rfl, rfl, rfl, rfl⟩
  · obtain ⟨w, hw⟩ := hinterval i
    rw [hw]
    exact (hstate i).trans (by rw [h]; rfl)
  · have hspan : u.netSpan i = some ⟨max o.start s.pos.geometry.xL, min o.stop s.pos.geometry.xR⟩ := by
      have hgeo : u.pos.geometry = s.pos.geometry := by
        rw [hpos]
        rfl
      rw [← hgeo] at hmeets ⊢
      exact netSpan_meets (hlaneOwned (i, o) ho) hmeets
    obtain ⟨b, hb, hfor, hid⟩ := hopened i (mem_allLanes i) _ ((hconfigured i).trans (owned_configured ho)) hspan
    rw [hstate i] at hfor
    exact ⟨b, hb, hfor, hid⟩

/-! ### After the trigger for line 0 -/

/-- The line has started, but for a halt by BREAK. -/
structure LineStarted (set : BitVec 8) (s w : State) : Prop where
  mode : w.port.mode = .inspect
  raised : w.latched .modeChanged = true
  pos : ∃ m o, w.pos = { s.pos with y := 0, rem := 0, debt := 0, lastLine := some 0, breakMarking := m, overspeed := o }
  triggers : w.out.triggers = s.out.triggers ++ [⟨0, 0⟩]
  tracker : w.tracker = { s.tracker with tables := Vector.replicate 8 FlawTable.empty, frontier := s.pos.geometry.pitch }
  slot : w.fault.slot = s.fault.slot
  owned : ∀ o ∈ s.ownedSpans, w.lanes[o.1.val].owned = some o.2
  named : ∀ i : LaneId, set.getLsbD i.val = true → w.lanes[i.val].state = .settling ∧ w.lanes[i.val].expected = 0 ∧
    w.lanes[i.val].acceptance = 0 ∧ w.lanes[i.val].rings = ⟨[], [], []⟩ ∧ w.lanes[i.val].persistence = []
  unnamed : ∀ i : LaneId, set.getLsbD i.val = false → w.lanes[i.val].state = .off
  intervals : ∀ i o, (i, o) ∈ s.ownedSpans → max o.start s.pos.geometry.xL < min o.stop s.pos.geometry.xR →
    ∃ b ∈ w.map.blind, OpensFor i (if set.getLsbD i.val then .settling else .off)
      ⟨max o.start s.pos.geometry.xL, min o.stop s.pos.geometry.xR⟩ b ∧ w.lanes[i.val].interval = some b.id
  marked : s.pos.breakLevel = true → s.pos.geometry.breakAction = .mark → w.pos.breakMarking = true ∧
    ∃ b ∈ w.map.blind, b.lane = none ∧ b.reason = .breakReason ∧ b.yStart = 0 ∧ b.yEnd = none

theorem trigger_started {set : BitVec 8} {s : State} (hoff : ∀ i : LaneId, s.lanes[i.val].state = .off) (hblind : s.map.blind = [])
    (hfull : s.map.full = none) (happly : s.tracker.apply = .none) :
    LineStarted set s (trigger 0 (markAtStart (lanesStarted set s))) := by
  have hlanes := lanesStarted_lanes (set := set) hoff hblind
  generalize lanesStarted set s = u at hlanes
  obtain ⟨⟨v, blind, next, e, hu⟩, hraised, howned, hnamed, hunnamed, hcount, hlane, hintervals⟩ := hlanes
  have hmarked := markAtStart_marked hlane (by omega)
  generalize markAtStart u = w at hmarked
  obtain ⟨⟨m, blind', next', e', hw⟩, hkept, hmark, hlatched⟩ := hmarked
  have hwlanes : w.lanes = u.lanes := by rw [hw]
  have hwtracker : w.tracker = { s.tracker with tables := Vector.replicate 8 FlawTable.empty, frontier := 0 } := by
    rw [hw, hu]
    rfl
  have hwmode : w.port.mode = .inspect := by
    rw [hw, hu]
    rfl
  have hgeo : w.pos.geometry = s.pos.geometry := by
    rw [hw, hu]
    rfl
  have hfrontier : (trigger 0 w).tracker.frontier = s.pos.geometry.pitch := by
    rw [triggerZero_frontier hwmode (by rw [hwtracker]) (fun i => ?_) (fun i => ?_), hgeo]
    · rw [hwlanes]
      cases h : set.getLsbD i.val with
      | true => exact .inr (hnamed i h).1
      | false => exact .inl (hunnamed i h)
    · rw [hwtracker]
      simp [FlawTable.empty]
  have hmap : (trigger 0 w).map = w.map := triggerZero_map (by rw [hw, hu]; exact hfull)
  have hword : (issueTrigger 0 w).out.triggers = s.out.triggers ++ [⟨0, 0⟩] := by
    rw [triggerZero_word (by rw [hwtracker]; exact happly), hw, hu]
    rfl
  obtain ⟨k, p, m', htrigger⟩ := trigger_frame 0 w
  rw [htrigger] at hfrontier hmap ⊢
  dsimp only at hfrontier hmap
  subst hfrontier hmap
  refine ⟨hwmode, hlatched _ hraised, ⟨m, w.pos.overspeed, ?_⟩, hword, ?_, ?_, ?_, ?_, ?_, fun i o ho hmeets => ?_, fun h1 h2 => ?_⟩
  · change { w.pos with lastLine := some 0 } = _
    rw [hw, hu]
    rfl
  · dsimp only
    rw [hwtracker]
  · change w.fault.slot = _
    rw [hw, hu]
    rfl
  · intro o ho
    change w.lanes[o.1.val].owned = _
    rw [hwlanes]
    exact howned o ho
  · intro i h
    change w.lanes[i.val].state = _ ∧ w.lanes[i.val].expected = _ ∧ w.lanes[i.val].acceptance = _ ∧ w.lanes[i.val].rings = _ ∧
      w.lanes[i.val].persistence = _
    rw [hwlanes]
    exact hnamed i h
  · intro i h
    change w.lanes[i.val].state = _
    rw [hwlanes]
    exact hunnamed i h
  · obtain ⟨b, hb, hfor, hid⟩ := hintervals i o ho hmeets
    refine ⟨b, hkept b hb, hfor, ?_⟩
    change w.lanes[i.val].interval = _
    rw [hwlanes]
    exact hid
  · have hlevel : u.pos.breakLevel = s.pos.breakLevel ∧ u.pos.geometry.breakAction = s.pos.geometry.breakAction := by
      rw [hu]
      exact ⟨rfl, rfl⟩
    exact hmark (hlevel.1.trans h1) (hlevel.2.trans h2)

/-! ### BREAK present at the start (R13) -/

theorem haltAtStart_quiet {s : State} (h : s.pos.breakLevel = false ∨ s.pos.geometry.breakAction = .mark) : haltAtStart s = s := by
  refine if_neg fun hc => ?_
  rcases h with h | h
  · exact Bool.false_ne_true (h.symm.trans hc.1)
  · exact absurd (h.symm.trans hc.2) (by simp)

theorem haltAtStart_halts {s : State} (hbreak : s.pos.breakLevel = true) (haction : s.pos.geometry.breakAction = .halt)
    (hm : s.port.mode.scanning = true) (hslot : ∀ r, s.fault.slot ≠ .haltHeld r) : haltAtStart s = captureHalt .ribbonBreak s.here s := by
  have hreport : haltAtStart s = report2 .ribbonBreak s.here s := if_pos ⟨hbreak, haction⟩
  rw [hreport, report2_scanning _ _ s hslot hm]

/-- What a halt at the start leaves of the started line. -/
structure StartCarried (w t : State) : Prop where
  raised : ∀ e, w.latched e = true → t.latched e = true
  pos : ∃ o, t.pos = { w.pos with overspeed := o }
  lanes : t.lanes = w.lanes
  tracker : t.tracker = w.tracker
  triggers : t.out.triggers = w.out.triggers
  intervals : OpenKept w.map t.map

theorem captureHalt_carried (k : FaultKind) (it : ReportItems) (w : State) : StartCarried w (captureHalt k it w) := by
  have hhalted := captureHalt_halted k it w
  refine ⟨fun e he => hhalted.latched e ?_, ⟨_, hhalted.pos⟩, hhalted.lanes, hhalted.tracker, hhalted.triggers, captureHalt_openKept k it w⟩
  rw [latched_fillSlot]
  exact Bool.or_eq_true_iff.2 (.inl he)

theorem haltAtStart_carried {w : State} (hm : w.port.mode.scanning = true) (hslot : ∀ r, w.fault.slot ≠ .haltHeld r) :
    StartCarried w (haltAtStart w) := by
  by_cases h : w.pos.breakLevel = true ∧ w.pos.geometry.breakAction = .halt
  · rw [haltAtStart_halts h.1 h.2 hm hslot]
    exact captureHalt_carried ..
  · have hquiet : haltAtStart w = w := if_neg h
    rw [hquiet]
    exact ⟨fun _ he => he, ⟨_, rfl⟩, rfl, rfl, rfl, fun b hb _ => ⟨b.refs, hb⟩⟩

/-! ### The request -/

theorem unready_iff (s : State) (set : BitVec 8) : (!s.pos.configured || s.tracker.active.isNone || s.namesUnconfigured set) = true ↔
    s.pos.configured = false ∨ s.tracker.active = none ∨ ∃ i : LaneId, set.getLsbD i.val = true ∧ s.lanes[i.val].configured = false := by
  rw [Bool.or_eq_true, Bool.or_eq_true, Bool.not_eq_true', Option.isNone_iff_eq_none, or_assoc, State.namesUnconfigured, List.any_eq_true]
  refine or_congr_right (or_congr_right (exists_congr fun i => ?_))
  rw [Bool.and_eq_true, Bool.not_eq_true']
  exact and_iff_right (mem_allLanes i)

/-- The owned span of a lane, from the lanes on its two sides. -/
theorem ownedSpans_bounds {s : State} {pre post : List (LaneId × Span)} {i : LaneId} {o : Span} (h : s.ownedSpans = pre ++ (i, o) :: post) :
    (∀ q x before, pre = before ++ [(q, x)] → o.start =
      if (s.laneSpan i).start < (s.laneSpan q).stop then ((s.laneSpan i).start + (s.laneSpan q).stop) / 2 else (s.laneSpan i).start) ∧
    (pre = [] → o.start = (s.laneSpan i).start) ∧
    (∀ j x after, post = (j, x) :: after → o.stop =
      if (s.laneSpan j).start < (s.laneSpan i).stop then ((s.laneSpan j).start + (s.laneSpan i).stop) / 2 else (s.laneSpan i).stop) ∧
    (post = [] → o.stop = (s.laneSpan i).stop) := by
  rw [ownedSpans_split h]
  refine ⟨?_, ?_, ?_, ?_⟩
  · rintro q x before rfl
    rw [List.getLast?_concat]
    exact midpoint_getD ..
  · rintro rfl
    rfl
  · rintro j x after rfl
    exact midpoint_getD ..
  · rintro rfl
    rfl

/-- Settles O9. -/
theorem startInspectStartsTheLine : Obligations.StartInspectStartsTheLine := by
  unfold Obligations.StartInspectStartsTheLine
  refine ⟨?_, ?_⟩
  · intro s start stop order
    have horder : order = s.laneOrder := ownedSpans_lanes s
    rw [horder]
    exact ⟨laneOrder_nodup s, mem_laneOrder s, laneOrder_before s, spansRefused_iff s, fun pre i o post h => ownedSpans_bounds h⟩
  · intro s tag set hl hm refused unready gap
    have htaken : takenIn .startInspect s.mode = true := by simp [takenIn, State.mode, hm]
    have hready := unready_iff s set
    refine ⟨fun h => exec_refused hl rfl htaken (if_pos (hready.2 h)), fun h hbad => exec_refused hl rfl htaken ?_,
      fun h hbad hgap => exec_refused hl rfl htaken ?_, fun h hbad hgap hoff hblind hfull hslot happly => ?_⟩
    · rw [startInspectBody, if_neg (mt hready.1 h), if_pos hbad]
    · rw [startInspectBody, if_neg (mt hready.1 h), hbad, if_neg (by simp), if_pos ((coverageGap_iff hbad).2 hgap)]
    · have hbody : startInspectBody set s = .ok (startInspect set s) .empty := by
        rw [startInspectBody, if_neg (mt hready.1 h), hbad, if_neg (by simp), if_neg (mt (coverageGap_iff hbad).1 hgap)]
      have hstarted := trigger_started (set := set) hoff hblind hfull happly
      refine ⟨startInspect set s, by rw [exec_taken hl rfl htaken, hbody, answer_ok], ?_⟩
      rw [startInspect_eq]
      generalize trigger 0 (markAtStart (lanesStarted set s)) = w at hstarted
      obtain ⟨hmode, hraised, ⟨m, x, hpos⟩, htriggers, htracker, hwslot, howned, hnamed, hunnamed, hintervals, hmarked⟩ := hstarted
      have hscanning : w.port.mode.scanning = true := by rw [hmode]; rfl
      have hnotHeld : ∀ r, w.fault.slot ≠ .haltHeld r := by rwa [hwslot]
      have hlevel : w.pos.breakLevel = s.pos.breakLevel ∧ w.pos.geometry = s.pos.geometry := by rw [hpos]; exact ⟨rfl, rfl⟩
      obtain ⟨hcraised, ⟨x', hcpos⟩, hclanes, hctracker, hctriggers, hcintervals⟩ := haltAtStart_carried hscanning hnotHeld
      have htpos : (haltAtStart w).pos =
          { s.pos with y := 0, rem := 0, debt := 0, lastLine := some 0, breakMarking := m, overspeed := x' } := by rw [hcpos, hpos]
      have httracker : (haltAtStart w).tracker =
          { s.tracker with tables := Vector.replicate 8 FlawTable.empty, frontier := s.pos.geometry.pitch } := hctracker.trans htracker
      refine ⟨hcraised _ hraised, by rw [htpos], by rw [htpos], by rw [htpos], by rw [htpos], hctriggers.trans htriggers, by rw [htpos],
        by rw [httracker], fun i => by rw [httracker]; simp [FlawTable.empty], by rw [httracker], by rw [httracker], ?_, ?_, ?_,
        fun i o ho hmeets => ?_, fun h => ?_, fun h1 h2 => ?_, fun h1 h2 => ?_⟩
      · rwa [hclanes]
      · rwa [hclanes]
      · rwa [hclanes]
      · obtain ⟨b, hb, ⟨hlane, hstart, hend, hxs, hxe, hreason⟩, hid⟩ := hintervals i o ho hmeets
        obtain ⟨n, hn⟩ := hcintervals b hb hend
        refine ⟨_, hn, hlane, by rw [hclanes]; exact hid, hstart, hend, hxs, hxe, hreason.trans ?_⟩
        cases set.getLsbD i.val <;> rfl
      · rw [haltAtStart_quiet (by rwa [hlevel.1, hlevel.2])]
        exact ⟨hmode, hwslot⟩
      · obtain ⟨hmarking, b, hb, hlane, hreason, hstart, hend⟩ := hmarked h1 h2
        obtain ⟨n, hn⟩ := hcintervals b hb hend
        refine ⟨?_, _, hn, hlane, hreason, hstart, hend⟩
        rw [hcpos]
        exact hmarking
      · rw [haltAtStart_halts (hlevel.1.trans h1) (by rw [hlevel.2]; exact h2) hscanning hnotHeld]
        have hhalted := captureHalt_halted .ribbonBreak w.here w
        refine ⟨hhalted.mode, hhalted.latched _ ?_, _, hhalted.slot, rfl⟩
        rw [latched_fillSlot]
        simp

end Sys2Proof.Machine
end

section
/-!
Fields, contents and frames read back (R196, R209, R210): the decoders on what the encoders of the same layouts make.
-/

namespace Sys2Proof.Machine

/-! ### Fields of several bytes (R209) -/

theorem fieldFits_iff (w v : Nat) : fits w v = true ↔ v < 256 ^ w := decide_eq_true_iff

theorem fieldBytes_length (w v : Nat) : (fieldBytes w v).length = w := by
  induction w with
  | zero => rfl
  | succ w ih => exact congrArg (· + 1) ih

theorem fieldValue_foldl (bytes : List Byte) (v : Nat) :
    bytes.foldl (fun v b => v * 256 + b.toNat) v = v * 256 ^ bytes.length + fieldValue bytes := by
  induction bytes generalizing v with
  | nil => simp [fieldValue]
  | cons b bytes ih =>
    have hcons : fieldValue (b :: bytes) = bytes.foldl (fun v b => v * 256 + b.toNat) (0 * 256 + b.toNat) := rfl
    rw [hcons, List.foldl_cons, ih, ih (0 * 256 + b.toNat), List.length_cons, Nat.pow_succ]
    ring

theorem fieldValue_cons (b : Byte) (bytes : List Byte) : fieldValue (b :: bytes) = b.toNat * 256 ^ bytes.length + fieldValue bytes := by
  have hcons : fieldValue (b :: bytes) = bytes.foldl (fun v b => v * 256 + b.toNat) (0 * 256 + b.toNat) := rfl
  rw [hcons, fieldValue_foldl, Nat.zero_mul, Nat.zero_add]

theorem fieldValue_fieldBytes_mod (w v : Nat) : fieldValue (fieldBytes w v) = v % 256 ^ w := by
  induction w with
  | zero => simp [fieldBytes, fieldValue, Nat.mod_one]
  | succ w ih =>
    rw [fieldBytes, fieldValue_cons, ih, fieldBytes_length, BitVec.toNat_ofNat, Nat.pow_succ 256 w, Nat.mod_mul]
    ring

/-- A field is read back from its bytes. -/
theorem fieldValue_fieldBytes {w v : Nat} (h : fits w v = true) : fieldValue (fieldBytes w v) = v := by
  rw [fieldValue_fieldBytes_mod, Nat.mod_eq_of_lt ((fieldFits_iff w v).1 h)]

/-- Every value fits its width. -/
def FieldsFit (ws vs : List Nat) : Prop := List.Forall₂ (fun w v => fits w v = true) ws vs

theorem joinFields_length {ws vs : List Nat} (h : FieldsFit ws vs) : (joinFields ws vs).length = ws.sum := by
  induction h with
  | nil => rfl
  | cons _ _ ih => rw [joinFields, List.length_append, fieldBytes_length, ih, List.sum_cons]

/-- Fields are read back from their bytes. -/
theorem splitFields_joinFields {ws vs : List Nat} (h : FieldsFit ws vs) : splitFields ws (joinFields ws vs) = some vs := by
  induction h with
  | nil => rfl
  | @cons w v ws vs hw _ ih =>
    have hlen : ¬ (fieldBytes w v ++ joinFields ws vs).length < w := by
      rw [List.length_append, fieldBytes_length]
      omega
    rw [joinFields, splitFields, if_neg hlen, List.drop_left' (fieldBytes_length w v), List.take_left' (fieldBytes_length w v), ih,
      fieldValue_fieldBytes hw]
    rfl

theorem splitFields_one {w v : Nat} (h : fits w v = true) : splitFields [w] (fieldBytes w v) = some [v] := by
  have hjoin : joinFields [w] [v] = fieldBytes w v := List.append_nil _
  rw [← hjoin]
  exact splitFields_joinFields (.cons h .nil)

theorem fieldsFit_replicate {w : Nat} {vs : List Nat} (h : vs.all (fits w) = true) : FieldsFit (List.replicate vs.length w) vs := by
  induction vs with
  | nil => exact .nil
  | cons v vs ih =>
    rw [List.all_cons, Bool.and_eq_true] at h
    exact .cons h.1 (ih h.2)

/-- A count of one byte is read back. -/
theorem toNat_count {n : Nat} (h : fits 1 n = true) : (BitVec.ofNat 8 n).toNat = n := by
  rw [BitVec.toNat_ofNat]
  exact Nat.mod_eq_of_lt ((fieldFits_iff 1 n).1 h)

/-- Groups of fields are read back. -/
theorem splitGroups_flatMap {α : Type} (ws : List Nat) (values : α → List Nat) {xs : List α} (h : ∀ x ∈ xs, FieldsFit ws (values x)) :
    splitGroups xs.length ws (xs.flatMap fun x => joinFields ws (values x)) = some (xs.map values) := by
  induction xs with
  | nil => rfl
  | cons x xs ih =>
    have hx := h x (by simp)
    have hlen := joinFields_length hx
    have hroom : ¬ (joinFields ws (values x) ++ xs.flatMap fun x => joinFields ws (values x)).length < ws.sum := by
      rw [List.length_append, hlen]
      omega
    rw [List.flatMap_cons, List.length_cons, splitGroups, if_neg hroom, List.take_left' hlen, List.drop_left' hlen, splitFields_joinFields hx,
      ih fun y hy => h y (List.mem_cons_of_mem _ hy)]
    rfl

theorem readAll_map {α β : Type} {f : β → Option α} {g : α → β} {xs : List α} (h : ∀ x ∈ xs, f (g x) = some x) :
    readAll f (xs.map g) = some xs := by
  induction xs with
  | nil => rfl
  | cons x xs ih =>
    rw [List.map_cons, readAll, h x (by simp), ih fun y hy => h y (List.mem_cons_of_mem _ hy)]

/-! ### Contents of requests (Table 11-14) -/

theorem fixedContent_joinFields {α : Type} {ws vs : List Nat} {read : List Nat → Option α} {x : α} (h : FieldsFit ws vs)
    (hread : read vs = some x) : fixedContent ws read (joinFields ws vs) = .fields x := by
  rw [fixedContent, splitFields_joinFields h, Option.bind_some, hread]

theorem oneField_bytes {w n : Nat} (h : fits w n = true) : oneField w (fieldBytes w n) = .fields n := by
  rw [oneField, fixedContent, splitFields_one h]
  rfl

theorem twoFields_bytes {w w' : Nat} {v : Nat × Nat} (h : fits w v.1 = true ∧ fits w' v.2 = true) :
    twoFields w w' (joinFields [w, w'] [v.1, v.2]) = .fields v :=
  fixedContent_joinFields (.cons h.1 (.cons h.2 .nil)) rfl

theorem lineGeometry_bytes {g : LineGeometryFields} (h : g.wf = true) : fixedContent lineGeometryWidths readLineGeometryFields
    (joinFields lineGeometryWidths [g.ppm, g.pitch, g.dgc, g.xL, g.xR, g.maxSpeed, g.stallTime, g.breakAction]) = .fields g := by
  simp only [LineGeometryFields.wf, Bool.and_eq_true] at h
  obtain ⟨⟨⟨⟨⟨⟨⟨h1, h2⟩, h3⟩, h4⟩, h5⟩, h6⟩, h7⟩, h8⟩ := h
  exact fixedContent_joinFields
    (.cons h1 (.cons h2 (.cons h3 (.cons h4 (.cons h5 (.cons h6 (.cons h7 (.cons h8 .nil)))))))) rfl

theorem laneGeometry_bytes {g : LaneGeometryFields} (h : g.wf = true) : fixedContent laneGeometryWidths readLaneGeometryFields
    (joinFields laneGeometryWidths [g.lane, g.x0, g.pitch, g.columns, g.binning]) = .fields g := by
  simp only [LaneGeometryFields.wf, Bool.and_eq_true] at h
  obtain ⟨⟨⟨⟨h1, h2⟩, h3⟩, h4⟩, h5⟩ := h
  exact fixedContent_joinFields (.cons h1 (.cons h2 (.cons h3 (.cons h4 (.cons h5 .nil))))) rfl

theorem cutParameters_bytes {p : CutParameters} (h : p.wf = true) : fixedContent cutWidths readCutParameters
    (joinFields cutWidths [p.minCull, p.maxCull, p.clearance, p.guard, p.overdue]) = .fields p := by
  simp only [CutParameters.wf, Bool.and_eq_true] at h
  obtain ⟨⟨⟨⟨h1, h2⟩, h3⟩, h4⟩, h5⟩ := h
  exact fixedContent_joinFields (.cons h1 (.cons h2 (.cons h3 (.cons h4 (.cons h5 .nil))))) rfl

theorem mask_bytes {v : Nat × List Nat} (hlane : fits 1 v.1 = true) (hcount : fits 1 v.2.length = true) (hcols : v.2.all (fits 2) = true) :
    maskContent (BitVec.ofNat 8 v.1 :: BitVec.ofNat 8 v.2.length :: joinFields (List.replicate v.2.length 2) v.2) = .fields v := by
  simp only [maskContent, toNat_count hlane, toNat_count hcount, splitFields_joinFields (fieldsFit_replicate hcols)]

theorem detection_bytes {d : DetectionFields} (h : d.wf = true) : detectionContent (detectionBytes d) = .fields d := by
  simp only [DetectionFields.wf, Bool.and_eq_true] at h
  obtain ⟨⟨⟨⟨⟨⟨hcount, hslots⟩, hjoin⟩, hgap⟩, hmax⟩, haspect⟩, hstone⟩ := h
  have hslot (s : SlotFields) (hs : s ∈ d.slots) : FieldsFit slotWidths [s.kind, s.threshold, s.low, s.high] := by
    have hwf := List.all_eq_true.1 hslots s hs
    simp only [SlotFields.wf, Bool.and_eq_true] at hwf
    obtain ⟨⟨⟨h1, h2⟩, h3⟩, h4⟩ := hwf
    exact .cons h1 (.cons h2 (.cons h3 (.cons h4 .nil)))
  have hlen : (d.slots.flatMap fun s => joinFields slotWidths [s.kind, s.threshold, s.low, s.high]).length = 7 * d.slots.length := by
    rw [List.length_flatMap, List.map_congr_left fun s hs => joinFields_length (hslot s hs), List.map_const', List.sum_replicate, smul_eq_mul,
      Nat.mul_comm]
    rfl
  have htail : FieldsFit detectionTail [d.join, d.gap, d.maxLength, d.aspect, d.stone] :=
    .cons hjoin (.cons hgap (.cons hmax (.cons haspect (.cons hstone .nil))))
  have hread : readAll readSlot (d.slots.map fun s => [s.kind, s.threshold, s.low, s.high]) = some d.slots := readAll_map fun _ _ => rfl
  simp only [detectionContent, detectionBytes, List.cons_append, toNat_count hcount, List.take_left' hlen, List.drop_left' hlen,
    splitGroups_flatMap slotWidths _ hslot, Option.bind_some, hread, splitFields_joinFields htail]

theorem order_bytes {o : OrderFields} (h : o.wf = true) : orderContent (orderBytes o) = .fields o := by
  simp only [OrderFields.wf, Bool.and_eq_true] at h
  obtain ⟨⟨⟨⟨⟨⟨⟨h1, h2⟩, h3⟩, h4⟩, h5⟩, h6⟩, h7⟩, hpositions⟩ := h
  have hhead : FieldsFit orderHead [o.id, o.length, o.split, o.quantity, o.target, o.fallback, o.positions.length] :=
    .cons h1 (.cons h2 (.cons h3 (.cons h4 (.cons h5 (.cons h6 (.cons h7 .nil))))))
  have hlen := joinFields_length hhead
  change _ = 10 at hlen
  simp only [orderContent, orderBytes, List.take_left' hlen, List.drop_left' hlen, splitFields_joinFields hhead,
    splitFields_joinFields (fieldsFit_replicate hpositions)]

theorem flawQuery_bytes {q : FlawQuery} (h : q.wf = true) : flawQueryContent (flawQueryBytes q) = .fields q := by
  cases q with
  | byId id =>
    have hsplit := splitFields_one (w := 4) h
    simp only [flawQueryContent, flawQueryBytes, if_true, hsplit]
  | byLabel y k =>
    simp only [FlawQuery.wf, Bool.and_eq_true] at h
    have hsplit := splitFields_joinFields (ws := [6, 2]) (.cons h.1 (.cons h.2 .nil))
    have hform : (1#8 : Byte) ≠ 0#8 := by decide
    simp only [flawQueryContent, flawQueryBytes, if_neg hform, if_true, hsplit]

theorem pageQuery_bytes {q : PageQuery} (h : q.wf = true) : pageQueryContent (pageQueryBytes q) = .fields q := by
  cases q with
  | byId id =>
    have hsplit := splitFields_one (w := 4) h
    simp only [pageQueryContent, pageQueryBytes, if_true, hsplit]
  | bySkip k =>
    have hsplit := splitFields_one (w := 1) h
    have hform : (1#8 : Byte) ≠ 0#8 := by decide
    simp only [pageQueryContent, pageQueryBytes, if_neg hform, if_true, hsplit]

/-! ### WRITE GRADE ROWS -/

theorem gradeRowBytes_length {r : GradeRow} (h : r.wf = true) : (gradeRowBytes r).length = 10 := by
  cases r with
  | limit | floor | general => simp [gradeRowBytes, joinFields, fieldBytes_length]
  | other kind => rfl

theorem readGradeRow_bytes {r : GradeRow} (h : r.wf = true) : readGradeRow (gradeRowBytes r) = some r := by
  have hzero : fits 1 0 = true := by decide
  cases r with
  | limit g k es ec cs cc =>
    simp only [GradeRow.wf, Bool.and_eq_true] at h
    obtain ⟨⟨⟨⟨⟨h1, h2⟩, h3⟩, h4⟩, h5⟩, h6⟩ := h
    have hsplit := splitFields_joinFields (ws := [1, 1, 2, 1, 2, 1, 1]) (vs := [g, k, es, ec, cs, cc, 0])
      (.cons h1 (.cons h2 (.cons h3 (.cons h4 (.cons h5 (.cons h6 (.cons hzero .nil)))))))
    simp only [readGradeRow, gradeRowBytes, if_true, hsplit]
  | floor b s l f =>
    simp only [GradeRow.wf, Bool.and_eq_true] at h
    obtain ⟨⟨⟨h1, h2⟩, h3⟩, h4⟩ := h
    have hsplit := splitFields_joinFields (ws := [2, 2, 2, 2, 1]) (vs := [b, s, l, f, 0])
      (.cons h1 (.cons h2 (.cons h3 (.cons h4 (.cons hzero .nil)))))
    have hkind : (1#8 : Byte) ≠ 0#8 := by decide
    simp only [readGradeRow, gradeRowBytes, if_neg hkind, if_true, hsplit]
  | general band blind a b c u x =>
    simp only [GradeRow.wf, Bool.and_eq_true] at h
    obtain ⟨⟨⟨⟨⟨⟨h1, h2⟩, h3⟩, h4⟩, h5⟩, h6⟩, h7⟩ := h
    have hsplit := splitFields_joinFields (ws := [2, 2, 1, 1, 1, 1, 1]) (vs := [band, blind, a, b, c, u, x])
      (.cons h1 (.cons h2 (.cons h3 (.cons h4 (.cons h5 (.cons h6 (.cons h7 .nil)))))))
    have hkind : (2#8 : Byte) ≠ 0#8 ∧ (2#8 : Byte) ≠ 1#8 := by decide
    simp only [readGradeRow, gradeRowBytes, if_neg hkind.1, if_neg hkind.2, if_true, hsplit]
  | other kind =>
    simp only [GradeRow.wf, Bool.and_eq_true, decide_eq_true_iff] at h
    have hvalue := toNat_count h.1
    have hkind (n : Nat) (hn : n < 3) : BitVec.ofNat 8 kind ≠ BitVec.ofNat 8 n := by
      intro hc
      have hnat := congrArg BitVec.toNat hc
      rw [hvalue, toNat_count ((fieldFits_iff 1 n).2 (by omega))] at hnat
      omega
    simp only [readGradeRow, gradeRowBytes, if_neg (hkind 0 (by decide)), if_neg (hkind 1 (by decide)), if_neg (hkind 2 (by decide)), hvalue]

theorem splitRows_flatMap {rows : List GradeRow} (h : rows.all GradeRow.wf = true) :
    splitRows rows.length (rows.flatMap gradeRowBytes) = some (rows.map gradeRowBytes) := by
  induction rows with
  | nil => rfl
  | cons r rows ih =>
    rw [List.all_cons, Bool.and_eq_true] at h
    have hlen := gradeRowBytes_length h.1
    have hroom : ¬ (gradeRowBytes r ++ rows.flatMap gradeRowBytes).length < 10 := by
      rw [List.length_append, hlen]
      omega
    rw [List.flatMap_cons, List.length_cons, splitRows, if_neg hroom, List.take_left' hlen, List.drop_left' hlen, ih h.2]
    rfl

theorem gradeRows_bytes {rows : List GradeRow} (hcount : fits 1 rows.length = true) (h : rows.all GradeRow.wf = true) :
    gradeRowsContent (BitVec.ofNat 8 rows.length :: rows.flatMap gradeRowBytes) = .fields rows := by
  have hread : readAll readGradeRow (rows.map gradeRowBytes) = some rows :=
    readAll_map fun r hr => readGradeRow_bytes (List.all_eq_true.1 h r hr)
  simp only [gradeRowsContent, toNat_count hcount, splitRows_flatMap h, Option.bind_some, hread]

theorem close_bytes {c : CloseFields} (h : c.wf = true) :
    closeContent (joinFields [1, 4, 1] [c.mode, c.hostTime, c.label.length] ++ c.label) = .fields c := by
  simp only [CloseFields.wf, Bool.and_eq_true] at h
  obtain ⟨⟨h1, h2⟩, h3⟩ := h
  have hhead : FieldsFit [1, 4, 1] [c.mode, c.hostTime, c.label.length] := .cons h1 (.cons h2 (.cons h3 .nil))
  have hlen := joinFields_length hhead
  change _ = 6 at hlen
  simp only [closeContent, List.take_left' hlen, List.drop_left' hlen, splitFields_joinFields hhead, if_true]

theorem eventSet_bytes (e : BitVec 16) : eventSetContent (fieldBytes 2 e.toNat) = .fields e := by
  refine congrArg Content.fields (show BitVec.ofNat 8 (e.toNat / 256 ^ 1) ++ BitVec.ofNat 8 (e.toNat / 256 ^ 0) = e from ?_)
  refine BitVec.eq_of_toNat_eq ?_
  have hlt := e.isLt
  rw [BitVec.toNat_append, BitVec.toNat_ofNat, BitVec.toNat_ofNat, ← Nat.shiftLeft_add_eq_or_of_lt (Nat.mod_lt _ (by decide)), Nat.shiftLeft_eq]
  omega

/-! ### Frames (R196, R152) -/

theorem ofCode_code (r : Request) : Request.ofCode r.code = some r := by cases r <;> rfl

theorem code_fits (r : Request) : fits 2 r.code = true := by cases r <;> decide

theorem frameCheck_fits (bytes : List Byte) : fits 2 (frameCheck bytes).toNat = true := (fieldFits_iff ..).2 (frameCheck bytes).isLt

/-- R196: a good supervisor frame is read by the kind, the tag and the content of its body. -/
theorem supervisorCommand_frame {r : Request} {tag : Nat} {content : List Byte} (htag : fits 2 tag = true) (hlen : content.length ≤ 1020) :
    supervisorCommand (supervisorFrame (fieldBytes 2 r.code ++ fieldBytes 2 tag ++ content)) = some (requestCommand r tag content) := by
  generalize hbody : fieldBytes 2 r.code ++ fieldBytes 2 tag ++ content = body
  have hbodyLen : body.length = content.length + 4 := by
    rw [← hbody, List.length_append, List.length_append, fieldBytes_length, fieldBytes_length]
    omega
  generalize hcheck : fieldBytes 2 (frameCheck (fieldBytes 2 body.length ++ body)).toNat = check
  have hcheckLen : check.length = 2 := by rw [← hcheck, fieldBytes_length]
  have hcheckValue : fieldValue check = (frameCheck (fieldBytes 2 body.length ++ body)).toNat := by
    rw [← hcheck, fieldValue_fieldBytes (frameCheck_fits _)]
  have hcount : fieldValue (fieldBytes 2 body.length) = body.length := fieldValue_fieldBytes ((fieldFits_iff ..).2 (by rw [hbodyLen]; omega))
  have hframe : supervisorFrame body = 0xA5#8 :: (fieldBytes 2 body.length ++ (body ++ check)) := by
    rw [supervisorFrame, hcheck, List.cons_append, List.append_assoc]
  have hkind : fieldValue (body.take 2) = r.code := by
    rw [← hbody, List.append_assoc, List.take_left' (fieldBytes_length ..), fieldValue_fieldBytes (code_fits r)]
  have htagValue : fieldValue ((body.drop 2).take 2) = tag := by
    rw [← hbody, List.append_assoc, List.drop_left' (fieldBytes_length ..), List.take_left' (fieldBytes_length ..), fieldValue_fieldBytes htag]
  have hcontent : body.drop 4 = content := by
    rw [← hbody]
    exact List.drop_left' (by rw [List.length_append, fieldBytes_length, fieldBytes_length])
  rw [hframe]
  obtain ⟨hi, lo, hlength⟩ : ∃ hi lo, fieldBytes 2 body.length = [hi, lo] := ⟨_, _, rfl⟩
  rw [hlength] at hcount hcheckValue ⊢
  have hrest : ¬ (body ++ check).length < body.length + 2 := by
    rw [List.length_append, hcheckLen]
    omega
  have hgood : ¬ (frameCheck (hi :: lo :: body)).toNat ≠ fieldValue check := fun hne => hne hcheckValue.symm
  simp only [supervisorCommand, List.cons_append, List.nil_append, ne_eq, not_true_eq_false, if_false, hcount]
  rw [if_neg (by omega), if_neg hrest, List.take_left' rfl, List.drop_left' rfl, List.take_of_length_le (Nat.le_of_eq hcheckLen), if_neg hgood,
    hkind, htagValue, ofCode_code, hcontent]

/-- R152: a good cutter frame is read by its kind and its content. -/
theorem cutterCommand_frame {kind : Nat} {content : List Byte} (hkind : fits 1 kind = true) (hlen : content.length ≤ 63) :
    cutterCommand (0xC3#8 :: (BitVec.ofNat 8 (1 + content.length) :: BitVec.ofNat 8 kind :: content) ++
      fieldBytes 2 (frameCheck (BitVec.ofNat 8 (1 + content.length) :: BitVec.ofNat 8 kind :: content)).toNat) =
      some (recordCommand kind content) := by
  generalize hcheck : fieldBytes 2 (frameCheck (BitVec.ofNat 8 (1 + content.length) :: BitVec.ofNat 8 kind :: content)).toNat = check
  have hcheckLen : check.length = 2 := by rw [← hcheck, fieldBytes_length]
  have hcheckValue : fieldValue check = (frameCheck (BitVec.ofNat 8 (1 + content.length) :: BitVec.ofNat 8 kind :: content)).toNat := by
    rw [← hcheck, fieldValue_fieldBytes (frameCheck_fits _)]
  have hcount : (BitVec.ofNat 8 (1 + content.length)).toNat = 1 + content.length := toNat_count ((fieldFits_iff ..).2 (by omega))
  have hkindValue : fieldValue [BitVec.ofNat 8 kind] = kind := by
    rw [fieldValue_cons, toNat_count hkind]
    simp [fieldValue]
  have hbodyLen : (BitVec.ofNat 8 kind :: content).length = 1 + content.length := by rw [List.length_cons, Nat.add_comm]
  have hrest : ¬ (BitVec.ofNat 8 kind :: content ++ check).length < 1 + content.length + 2 := by
    rw [List.length_append, hbodyLen, hcheckLen]
    omega
  have hgood : ¬ (frameCheck (BitVec.ofNat 8 (1 + content.length) :: BitVec.ofNat 8 kind :: content)).toNat ≠ fieldValue check :=
    fun hne => hne hcheckValue.symm
  simp only [cutterCommand, List.cons_append, ne_eq, not_true_eq_false, if_false, hcount]
  rw [← List.cons_append]
  rw [if_neg (by omega), if_neg hrest, List.take_left' hbodyLen, List.drop_left' hbodyLen, List.take_of_length_le (Nat.le_of_eq hcheckLen),
    if_neg hgood]
  exact congrArg some (congrArg (recordCommand · content) hkindValue)

end Sys2Proof.Machine
end

section
/-!
Every request and every well-formed record is read back from its own frame (O11).
-/

namespace Sys2Proof.Machine

theorem tagged_iff {α : Type} {tag : Nat} {v : α} {p : α → Bool} : tagged tag (.fields v) p = true ↔ fits 2 tag = true ∧ p v = true :=
  Bool.and_eq_true_iff

/-- R197, Table 11-14: the tag of a request fits its field, and its command is read back from its kind, tag and content. -/
theorem requestCommand_parts {i : Instr} (hwf : i.wf = true) {k : Request} {tag : Nat} {content : List Byte}
    (h : requestParts i = some (k, tag, content)) : fits 2 tag = true ∧ requestCommand k tag content = i := by
  cases i with
  | readLineGeometry t c | readPosition t c | applyDetection t c | readDetectionSet t c | readOrders t c | readCutParameters t c
  | stopProduction t c | applyGradeTable t c | readGradeTable t c | readCutter t c | readShift t c | haltLine t c | readFault t c
  | stopInspect t c | startProduction t c | reset t c | readEvents t c =>
    cases c with
    | wrongLength => cases h
    | fields v =>
      cases h
      exact ⟨(tagged_iff.1 hwf).1, rfl⟩
  | startLane t c | stopLane t c | readLane t c | readOpenFlaws t c | withdrawOrder t c | clearFault t c | readShiftReport t c
  | readJournal t c =>
    cases c with
    | wrongLength => cases h
    | fields v =>
      cases h
      obtain ⟨htag, hv⟩ := tagged_iff.1 hwf
      refine ⟨htag, ?_⟩
      simp only [requestCommand, oneField_bytes hv]
  | setDarkOffset t c | setDynamicMasking t c =>
    cases c with
    | wrongLength => cases h
    | fields v =>
      cases h
      obtain ⟨htag, hv⟩ := tagged_iff.1 hwf
      refine ⟨htag, ?_⟩
      simp only [requestCommand, twoFields_bytes (Bool.and_eq_true_iff.1 hv)]
  | readBlind t c | readPlates t c =>
    cases c with
    | wrongLength => cases h
    | fields q =>
      cases h
      obtain ⟨htag, hq⟩ := tagged_iff.1 hwf
      refine ⟨htag, ?_⟩
      simp only [requestCommand, pageQuery_bytes hq]
  | clearEvents t c | setEventMask t c =>
    cases c with
    | wrongLength => cases h
    | fields e =>
      cases h
      refine ⟨(tagged_iff.1 hwf).1, ?_⟩
      simp only [requestCommand, eventSet_bytes]
  | setLineGeometry t c =>
    cases c with
    | wrongLength => cases h
    | fields g =>
      cases h
      obtain ⟨htag, hg⟩ := tagged_iff.1 hwf
      exact ⟨htag, congrArg (Instr.setLineGeometry tag) (lineGeometry_bytes hg)⟩
  | setLaneGeometry t c =>
    cases c with
    | wrongLength => cases h
    | fields g =>
      cases h
      obtain ⟨htag, hg⟩ := tagged_iff.1 hwf
      exact ⟨htag, congrArg (Instr.setLaneGeometry tag) (laneGeometry_bytes hg)⟩
  | setColumnMask t c =>
    cases c with
    | wrongLength => cases h
    | fields v =>
      cases h
      obtain ⟨htag, hv⟩ := tagged_iff.1 hwf
      rw [Bool.and_eq_true, Bool.and_eq_true] at hv
      obtain ⟨⟨hlane, hcount⟩, hcols⟩ := hv
      exact ⟨htag, congrArg (Instr.setColumnMask tag) (mask_bytes hlane hcount hcols)⟩
  | writeDetectionSet t c =>
    cases c with
    | wrongLength => cases h
    | fields d =>
      cases h
      obtain ⟨htag, hd⟩ := tagged_iff.1 hwf
      exact ⟨htag, congrArg (Instr.writeDetectionSet tag) (detection_bytes hd)⟩
  | readFlaws t c =>
    cases c with
    | wrongLength => cases h
    | fields q =>
      cases h
      obtain ⟨htag, hq⟩ := tagged_iff.1 hwf
      exact ⟨htag, congrArg (Instr.readFlaws tag) (flawQuery_bytes hq)⟩
  | loadOrder t c =>
    cases c with
    | wrongLength => cases h
    | fields o =>
      cases h
      obtain ⟨htag, ho⟩ := tagged_iff.1 hwf
      exact ⟨htag, congrArg (Instr.loadOrder tag) (order_bytes ho)⟩
  | setCutParameters t c =>
    cases c with
    | wrongLength => cases h
    | fields p =>
      cases h
      obtain ⟨htag, hp⟩ := tagged_iff.1 hwf
      exact ⟨htag, congrArg (Instr.setCutParameters tag) (cutParameters_bytes hp)⟩
  | writeGradeRows t c =>
    cases c with
    | wrongLength => cases h
    | fields rows =>
      cases h
      obtain ⟨htag, hrows⟩ := tagged_iff.1 hwf
      obtain ⟨hcount, hall⟩ := Bool.and_eq_true_iff.1 hrows
      exact ⟨htag, congrArg (Instr.writeGradeRows tag) (gradeRows_bytes hcount hall)⟩
  | closeShift t c =>
    cases c with
    | wrongLength => cases h
    | fields f =>
      cases h
      obtain ⟨htag, hf⟩ := tagged_iff.1 hwf
      exact ⟨htag, congrArg (Instr.closeShift tag) (close_bytes hf)⟩
  | startInspect t c =>
    cases c with
    | wrongLength => cases h
    | fields b =>
      cases h
      exact ⟨(tagged_iff.1 hwf).1, rfl⟩
  | _ => cases h

/-- R152, Table 11-12: a well-formed record is read back from its kind and content, which are short. -/
theorem recordCommand_parts {i : Instr} (hwf : i.wf = true) {kind : Nat} {content : List Byte} (h : recordParts i = some (kind, content)) :
    fits 1 kind = true ∧ content.length ≤ 63 ∧ recordCommand kind content = i := by
  have hreason (r : RejectReason) : fits 1 (rejectCode r) = true ∧ rejectReason (rejectCode r) = some r := by cases r <;> decide
  cases i with
  | capability c late =>
    cases late with
    | true => cases h
    | false =>
      cases h
      have hc : c.wf = true := hwf
      simp only [Capability.wf, Bool.and_eq_true] at hc
      obtain ⟨⟨⟨⟨h1, h2⟩, h3⟩, h4⟩, h5⟩ := hc
      have hfit : FieldsFit [2, 2, 2, 1, 1] [c.spacing, c.lead, c.speed, c.across, c.destinations] :=
        .cons h1 (.cons h2 (.cons h3 (.cons h4 (.cons h5 .nil))))
      refine ⟨by decide, ?_, ?_⟩
      · rw [joinFields_length hfit]
        decide
      · simp only [recordCommand, splitFields_joinFields hfit]
  | cutAccept id | cutDone id | cutMissed id =>
    cases h
    have hid : fits 4 id = true := hwf
    refine ⟨by decide, ?_, ?_⟩
    · rw [fieldBytes_length]
      decide
    · simp only [recordCommand, splitFields_one hid]
  | cutReject id r =>
    cases h
    have hid : fits 4 id = true := hwf
    obtain ⟨hcode, hread⟩ := hreason r
    have hfit : FieldsFit [4, 1] [id, rejectCode r] := .cons hid (.cons hcode .nil)
    refine ⟨by decide, ?_, ?_⟩
    · rw [joinFields_length hfit]
      decide
    · simp only [recordCommand, splitFields_joinFields hfit, hread]
  | _ => cases h

/-- Settles O11. -/
theorem framesDecodeToTheirCommands : Obligations.FramesDecodeToTheirCommands := by
  unfold Obligations.FramesDecodeToTheirCommands
  refine fun i hwf => ⟨fun k tag content bytes hparts hlen hbytes => ?_, fun bytes hbytes => ?_⟩
  · obtain ⟨htag, hcommand⟩ := requestCommand_parts hwf hparts
    rw [encodeRequest, hparts] at hbytes
    cases hbytes
    exact (supervisorCommand_frame htag hlen).trans (congrArg some hcommand)
  · rw [encodeRecord] at hbytes
    cases hparts : recordParts i with
    | none =>
      rw [hparts] at hbytes
      cases hbytes
    | some p =>
      obtain ⟨kind, content⟩ := p
      obtain ⟨hkind, hlen, hcommand⟩ := recordCommand_parts hwf hparts
      rw [hparts] at hbytes
      cases hbytes
      exact (cutterCommand_frame hkind hlen).trans (congrArg some hcommand)

end Sys2Proof.Machine
end
